-- ==== Sys2Proof/Word.lean ====
section
/-! DEFINITION. The plain types every file of the model uses: a byte, a byte string and a sparse table.

A table of the module that has far more places than are in use (67,108,864 chunks, 4,194,304 extents) is held as
the list of its places in use, in rising order of their numbers. -/

namespace Sys2Proof

/-- One byte of a register, a message, a page or a sett (R9 to R11). -/
abbrev Byte := BitVec 8

/-- A byte string; byte 0 of a layout is the head of the list (R11). -/
abbrev Bytes := List Byte

/-- A sparse table: numbered places in rising order of their numbers, each number at most once. -/
abbrev Tab (β : Type) := List (Nat × β)

end Sys2Proof
end

