-- ==== Sys2Proof/Syntax.lean ====
section
/-! DEFINITION. The commands of the block: one constructor of `Instr` for each row of spec/opcode_table.json.

The rows give no bits and no operands. An operand stands for what the row's step takes from outside the module at
that moment: the port or the object concerned, a value written, bytes that arrive, the verdict of an analogue check.
Nothing that the module itself holds is an operand. -/

namespace Sys2Proof

/-- Host port H0 to H3 (R73). -/
abbrev PortId := Fin 4

/-- The sensors of the table of R49, numbered as SENSOR of event 0x1003 (R534). -/
inductive Sensor where
  | inlet | die | hbm0 | hbm1 | hbm2 | hbm3 | vault | regulator
  deriving DecidableEq, Repr

/-- The levels of R49, numbered as LEVEL of event 0x1003 (R534): none stands for withdrawn. -/
inductive Level where
  | none | throttle | critical | trip
  deriving DecidableEq, Repr

/-- The parts of the minimal service set of R69. -/
inductive ServicePart where
  | managementCores | bootRom | rootPll | hbmStacks | commandEngine | etu | cooper | hostPorts | driveLanes
  deriving DecidableEq, Repr

/-- Who carries a dictionary operation: an RXMP session over the network, the session of a port's BAR2 mailbox, or
an anonymous request of that mailbox (R485, R498, R502). -/
inductive Channel where
  | rxmp (session : Nat)
  | mailbox (port : PortId)
  | anonymous (port : PortId)
  deriving DecidableEq, Repr

/-- Where a register action came from: the port's own BAR0, or the dictionary (R87, R109, R110). -/
inductive PortSource where
  | bar0 (port : PortId)
  | dict (channel : Channel) (port : PortId)
  deriving DecidableEq, Repr

/-- The cables of a host port that are present: the even-numbered one and the odd-numbered one (R24, R25). -/
structure Cables where
  even : Bool
  odd : Bool
  deriving DecidableEq, Repr

/-- How a link trains again after surprise link loss: in Flit mode or not, over which cables (R24, R106, R110). -/
structure Retrained where
  flit : Bool
  cables : Cables
  deriving DecidableEq, Repr

/-- Where a BAR access goes: the BAR and the byte in it (R81). -/
structure BarPlace where
  bar : Nat
  offset : Nat
  deriving DecidableEq, Repr

/-- The configuration fields of R75, R78, R81, R89, R90, R92 and R96 that a host configuration write sets. -/
inductive ConfigField where
  | msixEnable | msixFunctionMask | msiEnable | msiMask | msiVectors | interruptDisable | completionTimeoutValue
  | extendedTag | tag10 | tag14 | maxPayloadSize | maxReadRequestSize
  | relaxedOrdering | idoRequest | bar0Lower | bar0Upper | bar2Lower | bar2Upper
  deriving DecidableEq, Repr

/-- Why one sett of a bench read ended (R300, R308). -/
inductive SettResult where
  | good (data : Bytes)
  | recovered (data : Bytes)
  | failed
  deriving DecidableEq, Repr

/-- The copy reads of a relocation (R309): the member they belong to, and how each ended, from the first bench not copied
on. -/
structure CopyReads where
  member : Nat
  setts : List SettResult
  deriving DecidableEq, Repr

/-- One sett of a bench read: its position in the bench (R189) and how its read ended. -/
structure SettRead where
  position : Nat
  result : SettResult
  deriving DecidableEq, Repr

/-- The label a drive carries, as far as its tag verifies (R229, R231): the copy of the higher LABEL_SEQ, which `copyB` says
to be LABEL_B (R230). -/
structure LabelInfo where
  arrayId : Bytes
  epoch : Nat
  labelSeq : Nat
  driveNo : Nat
  driveGuid : Bytes
  chunkBase : Nat
  chunkCount : Nat
  domain : Nat
  driveCount : Nat
  ckptId : Nat
  copyB : Bool := false
  deriving DecidableEq, Repr

/-- The drive protocols, coded as DRIVE_PROTO (R353): 1 NVMe, 2 SAS, 3 SATA. -/
inductive Proto where
  | nvme | sas | sata
  deriving DecidableEq, Repr

/-- What the identification of a device reports (R327, R329, R339, R353). `answered = false` is the silent device
of R550. -/
structure DriveInfo where
  answered : Bool
  proto : Proto
  rotating : Bool
  guid : Bytes
  capacity : Nat
  blockSize : Nat
  metadata : Bool
  writable : Bool
  protoOk : Bool
  wear : Nat
  temp : Int
  path : Bytes
  linkFull : Bool
  label : Option LabelInfo
  deriving DecidableEq, Repr

/-- A health report of a drive (R327, R351). -/
structure HealthReport where
  drive : Nat
  wear : Nat
  temp : Int
  spareLow : Bool
  overTemp : Bool
  linkFull : Bool
  deriving DecidableEq, Repr

/-- What the checks of a START find, one field for each check of R66 that looks at hardware (R56, R317, R326, R357,
R374, R469, R545, R546, R547), and what the drives and the vault show (R242, R406). -/
structure StartInputs where
  oscillatorOk : Bool
  pllOk : Bool
  coresOk : BitVec 8
  portFail : List Nat
  hbmFail : List Nat
  bistFail : List Nat
  tagBanksOk : BitVec 16
  cooperFail : Bool
  lanesFail : List Nat
  keyEngineFail : Bool
  drbgFail : Bool
  groupFail : List Nat
  chargerFail : Bool
  vaultMountOk : Bool
  tagScanPages : Nat
  firstBadBlock : Option Nat
  drives : List DriveInfo
  driveTables : Option Nat
  badSegment : Option Nat := none
  badRecord : Option Nat := none
  badHeaders : List (Nat × Bool) := []
  badIndex : List (Nat × Nat × Nat) := []
  deriving DecidableEq, Repr

/-- What IMPORT_CONTROL SCAN reads from the drives (R250): the labels, whether each retained checkpoint verifies,
how many checkpoints and segments had to be taken from another copy, the highest generation of the metadata key found, and
what does not verify: the first segment of which no copy does, the first record that cannot be read or whose CRC fails (R225, R411), chunk header copies
(true: copy B), and index pages by log extent, bench and sett. -/
structure ScanInputs where
  drives : List DriveInfo
  newerOk : Bool
  olderOk : Bool
  replacements : Nat
  highestKgen : Nat
  badSegment : Option Nat := none
  badRecord : Option Nat := none
  badHeaders : List (Nat × Bool) := []
  badIndex : List (Nat × Nat × Nat) := []
  deriving DecidableEq, Repr

/-- Samples of the sense contacts of BT1 in mV (R419 to R421). -/
structure PackSense where
  cells : List Nat
  pack : Nat
  ntc : Nat
  ident : Nat
  deriving DecidableEq, Repr

/-- How a dump was supplied and what of it failed (R60, R378, R391): the image units whose program failed, and
whether the supply lasted to the end of step 7. -/
structure DumpInputs where
  failedUnits : Nat
  supplyHeld : Bool
  micros : Nat
  deriving DecidableEq, Repr

/-- The partitions of R354, coded as in event 0x7601 (R534). -/
inductive Partition where
  | maps | writeCache | readCache | journal
  deriving DecidableEq, Repr

/-- The regions of the vault of R395 and R411, coded as in event 0x8702 (R534). -/
inductive VaultRegion where
  | map | journal | ckpt0 | ckpt1 | ledger | system | dumpUnit
  deriving DecidableEq, Repr

/-- The operations of a vault die (R402). -/
inductive VaultOpKind where
  | program | read | erase
  deriving DecidableEq, Repr

/-- What carries a firmware watchdog or a known-answer test's verdict (R317, R469). -/
structure KatVerdict where
  first : Bool
  second : Bool
  test : Nat
  deriving DecidableEq, Repr

/-- The PTP messages of R511. -/
inductive PtpMessage where
  | announce (master : Bytes)
  | sync (offset : Int)
  | followUp (offset : Int)
  | delayResp (offset : Int)
  deriving DecidableEq, Repr

/-- The address configuration messages of R509. -/
inductive AddressEvent where
  | routerAdvertisement (address : Bytes)
  | dhcpLease (address : Bytes)
  | leaseExpired
  deriving DecidableEq, Repr

/-- What a loop-back or self-test found when its duration ended (R542, R543). -/
structure TestVerdict where
  compared : Nat
  errors : Nat
  worstLane : Nat
  laneErrors : Bytes
  partnerOk : Bool
  deriving DecidableEq, Repr

/-- The verdict of one map-page read of a refresh or a collection (R410): set number and whether it passed. -/
structure SetVerdict where
  set : Nat
  ok : Bool
  worst : Nat
  deriving DecidableEq, Repr

/-- The commands of the block, one for each row of spec/opcode_table.json, in the table's order. -/
inductive Instr where
  | p12vTrip
  | p12vRise
  | standbyRailPowerUp (smbAddr : BitVec 2) (pathHold pathSel : Bool)
  | modResetNAssert
  | modResetNRelease
  | pathHoldChange (hold sel : Bool)
  | locateNChange (level : Bool)
  | smbStatus
  | smbTempInlet
  | smbTempMax
  | smbPowerIn
  | smbPackMv
  | smbIdent
  | smbAlertResponse
  | smbBadPec (code : Byte)
  | thermalThrottle (sensor : Sensor) (reading : Int)
  | thermalCritical (sensor : Sensor) (reading : Int)
  | thermalTrip (sensor : Sensor) (reading : Int)
  | thermalWithdraw (sensor : Sensor) (reading : Int)
  | inletLimit (reading : Int)
  | pllLockLossShort
  | clockFault (oscillatorStopped : Bool)
  | dumpEnd
  | autoRestart
  | startUp (inputs : StartInputs)
  | restoreRound (slots : Nat)
  | driveWaitExpiry
  | moduleReset (channel : Channel)
  | mgmtRestart (channel : Channel)
  | moduleStandby (channel : Channel)
  | moduleStart (channel : Channel)
  | mgmtRestartDone
  | mgmtWatchdogExpiry
  | serviceSetLoss (part : ServicePart)
  | hostLinkUp (port : PortId) (rate width : Nat) (flit : Bool) (cables : Cables)
  | surpriseLinkDown (port : PortId)
  | hotInsert (port : PortId) (rate width : Nat) (link : Retrained)
  | perstNAssert (port : PortId)
  | hotReset (port : PortId) (linkDown : Bool)
  | flr (port : PortId)
  | busMasterClear (port : PortId)
  | busMasterSet (port : PortId)
  | d3hotEntry (port : PortId)
  | d3hotExit (port : PortId)
  | poisonedTlp (port : PortId) (completionTag : Option Nat)
  | malformedTlp (port : PortId) (ecrc : Bool)
  | completionTimeout (port : PortId) (tag : Nat)
  | unexpectedCompletion (port : PortId) (tag : Nat)
  | hostReadCompletion (port : PortId) (tag : Nat) (data : Bytes)
  | tagWithholdExpiry (port : PortId) (tag : Nat)
  | portRelease (source : PortSource)
  | releaseComplete (port : PortId)
  | portCauseClear (source : PortSource) (value : BitVec 32)
  | intPendingClear (port : PortId) (index : Fin 8) (value : BitVec 32)
  | barBadAccess (port : PortId) (place : BarPlace) (size : Nat) (write : Bool)
  | msixUnmask (port : PortId) (vector : Nat)
  | coalesceTimerExpiry (port : PortId) (ring : Nat)
  | registerWrite (port : PortId) (bar offset size : Nat) (value : BitVec 64)
  | ringCreate (port : PortId) (ring : Nat)
  | ringReset (port : PortId) (ring : Nat)
  | ringResetDiscard (port : PortId) (ring : Nat)
  | ringDelete (port : PortId) (ring : Nat)
  | ringDb (port : PortId) (ring : Nat) (value : BitVec 32)
  | pushWrite (port : PortId) (ring : Nat) (offset : Nat) (data : Bytes)
  | entryAccept (port : PortId) (ring : Nat)
  | phaseRefetch (port : PortId) (ring entry : Nat)
  | ringFetchRetry (port : PortId) (ring : Nat)
  | acceptResume (port : PortId)
  | noticeDeliver (port : PortId)
  | noticeRepeatExpiry (port : PortId) (seq : Nat)
  | read (port : PortId) (tag : Nat)
  | write (port : PortId) (tag : Nat)
  | atomicWrite (port : PortId) (tag : Nat)
  | flush (port : PortId) (tag : Nat)
  | discard (port : PortId) (tag : Nat)
  | echo (port : PortId) (tag : Nat)
  | volumeQuery (port : PortId) (tag : Nat)
  | noticeAck (port : PortId) (tag : Nat)
  | invalidOpcode (port : PortId) (tag : Nat)
  | lockGrant (port : PortId) (tag : Nat)
  | lockTableFree
  | slotReserve (port : PortId) (tag : Nat)
  | writeDataEnd (port : PortId) (reqTag : Nat) (data : Bytes)
  | writeThroughCommit (port : PortId) (tag : Nat)
  | flushComplete (port : PortId) (tag : Nat)
  | volCreate (channel : Channel) (value : Bytes)
  | volGrow (channel : Channel) (value : Bytes)
  | volDelete (channel : Channel) (value : Bytes)
  | volVcflagsWrite (channel : Channel) (value : Bytes)
  | volClassWrite (channel : Channel) (value : Bytes)
  | pageDestage (volume page : Nat)
  | faceBenchWrite (volume extent : Nat)
  | faceHoldExpiry (volume extent : Nat)
  | logBenchWrite (volume : Nat)
  | logHoldExpiry (volume : Nat)
  | benchOnMedia (group bench : Nat)
  | memberReplace (group member : Nat)
  | mergeStart (volume extent : Nat)
  | mergeDone (volume extent benches : Nat)
  | mergeAbandon (volume extent reason : Nat)
  | journalFlushExpiry
  | checkpoint (first : Nat)
  | ckptIntervalExpiry
  | ckptNow (channel : Channel) (value : Bytes)
  | djSegmentSeal
  | djFlushExpiry
  | lossAck (channel : Channel) (value : Bytes)
  | importScan (channel : Channel) (inputs : ScanInputs)
  | importCommit (channel : Channel)
  | importCancel (channel : Channel)
  | discardLocal (channel : Channel)
  | bgShareTick
  | driveWindowTick
  | fastLimitTick
  | driveDispatch (drive : Nat)
  | curveWrite (channel : Channel) (sub : Nat) (value : Bytes)
  | driveDomainWrite (channel : Channel) (value : Bytes)
  | driveTierWrite (channel : Channel) (value : Bytes)
  | freeChunksLow
  | mapPageFetch (mapPage : Nat)
  | mapFetchDone (mapPage : Nat)
  | mapWriteBack (mapPage : Nat)
  | tallyDecayEpoch
  | driveFailedQueue (drive : Nat)
  | rebuildStart (group : Nat)
  | rebuildBench (group bench : Nat) (setts : List SettRead)
  | rebuildComplete (group member : Nat)
  | relocationCopy (group : Nat) (reads : CopyReads)
  | staleMemberReturn (group member : Nat)
  | benchReadDone (group bench : Nat) (setts : List SettRead)
  | mismatchReread (group bench : Nat) (setts : List SettRead)
  | scrubGroup (benches : List (List SettRead))
  | errDecaySweep
  | katRun (channel : Channel) (value : Bytes) (verdict : KatVerdict)
  | katIntervalExpiry (verdict : KatVerdict)
  | katRepeat (verdict : KatVerdict)
  | groupCfgWrite (channel : Channel) (sub : Nat) (value : Bytes)
  | groupLanesLost (group : Fin 24)
  | driveFound (info : DriveInfo)
  | driveGone (drive : Nat)
  | broadcastChange (group : Fin 24) (found : List DriveInfo) (lost : List Nat)
  | switchPortChange (group : Fin 24) (found : Option DriveInfo) (lost : Option Nat)
  | identifyRetry (drive : Nat) (info : DriveInfo)
  | driveAdopt (channel : Option Channel) (drive : Nat)
  | adoptDone (drive : Nat) (ok : Bool)
  | driveRemove (channel : Channel)
  | driveCancelRemove (channel : Channel)
  | driveFail (channel : Channel)
  | evacuationDone (drive : Nat)
  | driveLossWaitExpiry (drive : Nat)
  | recoveryTableWrite (channel : Channel) (sub : Nat) (value : Bytes)
  | driveCmdOk (drive op : Nat)
  | driveCmdTimeout (drive op : Nat)
  | driveReadMedia (drive op : Nat)
  | driveWriteFail (drive op : Nat)
  | driveTransport (drive : Nat) (op : Option Nat)
  | driveRecovered (drive op : Nat)
  | driveLinkDown (drive : Nat)
  | driveLinkUp (drive : Nat) (path : Bytes)
  | driveResetDone (drive : Nat)
  | driveResetFailed (drive : Nat)
  | recoveryTimerExpiry (drive : Nat)
  | healthCritical (drive : Nat)
  | countWindowExpiry (drive row : Nat)
  | driveCmdHardLimit (drive op : Nat)
  | driveLateCompletion (drive op : Nat)
  | healthPollExpiry (reports : List HealthReport)
  | driveAsyncReport (report : HealthReport)
  | eccCorrected (stack : Fin 4) (count : Nat)
  | eccUncorrectable (partition : Partition) (stack : Fin 4) (address : Nat)
  | cacheModeWrite (channel : Channel) (value : Bytes)
  | cacheModeChange
  | mcacheFillDone (line : Nat)
  | mcacheClean (channel : Channel) (value : Bytes)
  | mcacheInvalidate (channel : Channel) (value : Bytes)
  | mcacheCleanInvalidate (channel : Channel) (value : Bytes)
  | dump (inputs : DumpInputs)
  | dumpRearm (failedErase : List Nat)
  | armCheck (failed failedErase : List Nat)
  | storeWrite (lpn : Nat)
  | logBlockCollect
  | fold
  | stripeVerify (stripe : Nat) (failing : List Nat)
  | mediaJournalFlush
  | vaultRefresh (verdicts : List SetVerdict)
  | vaultPageLost (region : VaultRegion) (lpn : Nat)
  | vaultOpFail (set : Nat) (kind : VaultOpKind) (timeout : Bool)
  | slcCurveWrite (channel : Channel) (value : Bytes)
  | vaultTempSample (peak : Int)
  | packSample (sense : PackSense)
  | packInsert
  | packRemove
  | estimateUpdate
  | estimateStale
  | restWindowOpen
  | restNow (channel : Channel) (value : Bytes)
  | restWindowEnd
  | qualifyEnd
  | cvHoldEnd
  | chargerFault (cause : Nat)
  | learnStart (channel : Option Channel)
  | learnStop (channel : Channel)
  | learnDischargeBegin
  | learnDischargeEnd (onVoltage : Bool)
  | learnResult
  | learnAbandon
  | nvSlotWrite
  | nvSlotPeriodExpiry
  | estimatorStart
  | ocvTableWrite (channel : Channel) (value : Bytes)
  | resTableWrite (channel : Channel) (value : Bytes)
  | keyLoad (channel : Channel) (value : Bytes)
  | keyDestroy (channel : Channel) (value : Bytes)
  | keyExport (channel : Channel)
  | xgenRoll (channel : Channel) (value : Bytes)
  | drbgHealthFail
  | lockKatRun (channel : Channel) (value : Bytes) (lanesFail : List Nat) (engineFail : Bool)
  | lockKatIntervalExpiry (lanesFail : List Nat) (engineFail : Bool)
  | rollbackCommit (channel : Channel) (value : Bytes)
  | fwUpdateBegin (channel : Channel)
  | fwUpdateData (channel : Channel) (value : Bytes)
  | fwUpdateVerify (channel : Channel)
  | fwUpdateCancel (channel : Channel)
  | mrExtend (channel : Channel) (value : Bytes)
  | quoteNonce (channel : Channel) (value : Bytes)
  | quoteSigned (channel : Channel)
  | openMsg (port : Option PortId) (source : Bytes) (message : Bytes)
  | proveMsg (port : Option PortId) (source : Bytes) (message : Bytes)
  | request (port : Option PortId) (message : Bytes)
  | closeMsg (port : Option PortId) (message : Bytes)
  | malformedMessage (message : Bytes)
  | macInvalidDrop (message : Bytes)
  | openFloodDrop (source : Bytes)
  | dictRead (channel : Channel) (index sub : Nat)
  | dictWrite (channel : Channel) (index sub : Nat) (value : Bytes)
  | dictDescribe (channel : Channel) (index sub : Nat)
  | sessionLifetimeExpiry (session : Nat)
  | sessionIdleExpiry (session : Nat)
  | challengeExpiry (session : Nat)
  | nameLockoutExpiry (name : Bytes)
  | sessionClose (channel : Channel) (value : Bytes)
  | credLoad (channel : Channel) (value : Bytes)
  | credDelete (channel : Channel) (value : Bytes)
  | mbGo (port : PortId) (value : BitVec 32)
  | mbResponseDone (port : PortId)
  | mbAnonRequest (port : PortId) (message : Bytes)
  | mbPortReset (port : PortId)
  | pathLinkUp (pathB : Bool) (rate : Nat) (selfTestOk : Bool)
  | pathSyncDone (pathB : Bool)
  | pathLinkLoss (pathB : Bool)
  | pathSwitch (channel : Channel) (value : Bytes)
  | pathEnableWrite (channel : Channel) (sub : Nat) (value : Bytes)
  | clockSet (channel : Channel) (value : Bytes)
  | ptpMessage (message : PtpMessage)
  | ptpAnnounceTimeout
  | locateWrite (channel : Channel) (value : Bytes)
  | ledgerFlushExpiry
  | ledgerFlush
  | flushNow (channel : Channel) (value : Bytes)
  | ledgerClear (channel : Channel) (value : Bytes)
  | ledgerRead (channel : Channel)
  | maintEnter (channel : Channel) (interface : Nat)
  | maintLeave (channel : Channel) (interface : Nat)
  | vaultMaintExpiry
  | testRequest (channel : Channel) (value : Bytes)
  | testStop (channel : Channel) (value : Bytes)
  | testEnd (first second : TestVerdict)
  | patrolRead (end_ : Nat)
  | chargerSelftest (firstOk secondOk : Bool)
  | perstNDeassert (port : PortId)
  | configWrite (port : PortId) (field : ConfigField) (value : BitVec 32)
  | railRegulationLoss
  | dumpSourceLoss
  | vaultOperationDone (set : Nat) (kind : VaultOpKind)
  | metadataOnMedia (drive : Nat) (chunk : Option Nat) (copyB : Bool)
  | addressAutoconfig (event : AddressEvent)
  deriving DecidableEq, Repr

end Sys2Proof
end

