-- ==== Sys2Proof/Machine/Tab.lean ====
section
/-! DEFINITION. Operations on the sparse tables of `Tab` and on byte strings held as sparse buffers. -/

namespace Sys2Proof.Machine

/-- The value at place `k`, if the table lists the place. -/
def Tab.at? {β : Type} (k : Nat) : Tab β → Option β
  | [] => none
  | (a, v) :: t => if a = k then some v else Tab.at? k t

/-- The value at place `k`, or `d` where the table does not list it. -/
def Tab.atD {β : Type} (t : Tab β) (k : Nat) (d : β) : β := (Tab.at? k t).getD d

/-- `t` with `v` at place `k`; the places stay in rising order. -/
def Tab.put {β : Type} (k : Nat) (v : β) : Tab β → Tab β
  | [] => [(k, v)]
  | (a, w) :: t =>
    if k < a then (k, v) :: (a, w) :: t
    else if k = a then (k, v) :: t
    else (a, w) :: Tab.put k v t

/-- `t` with nothing listed at place `k`. -/
def Tab.del {β : Type} (t : Tab β) (k : Nat) : Tab β := t.filter (fun p => p.1 != k)

/-- `t` with `v` at place `k`, where a place that holds `d` is not listed. -/
def Tab.putD {β : Type} [DecidableEq β] (t : Tab β) (k : Nat) (v d : β) : Tab β :=
  if v = d then Tab.del t k else Tab.put k v t

/-- `t` with the value at place `k` changed by `f`; nothing happens where the place is not listed. -/
def Tab.mod {β : Type} (t : Tab β) (k : Nat) (f : β → β) : Tab β :=
  t.map (fun p => if p.1 = k then (p.1, f p.2) else p)

/-- The values of a table in rising order of their places. -/
def Tab.vals {β : Type} (t : Tab β) : List β := t.map (·.2)

/-- The places of a table in rising order. -/
def Tab.keys {β : Type} (t : Tab β) : List Nat := t.map (·.1)

/-- The places stand in strictly rising order. -/
def Tab.Sorted {β : Type} : Tab β → Prop
  | [] => True
  | [_] => True
  | (a, _) :: (b, w) :: t => a < b ∧ Tab.Sorted ((b, w) :: t)

/-- The first number from `n` up that the table does not list, looking at `fuel` places. -/
def Tab.firstFree {β : Type} (t : Tab β) (n : Nat) : Nat → Option Nat
  | 0 => none
  | fuel + 1 => if (Tab.at? n t).isNone then some n else Tab.firstFree t (n + 1) fuel

/-- Distinct elements in order of first appearance. -/
def dedup {β : Type} [DecidableEq β] (l : List β) : List β :=
  l.foldl (fun acc x => if x ∈ acc then acc else acc ++ [x]) []

/-- `a + b` held at the greatest value `m` of a saturating counter. -/
def satAdd (m a b : Nat) : Nat := min m (a + b)

/-- Sum of a list of numbers. -/
def sumNat (l : List Nat) : Nat := l.foldl (· + ·) 0

/-- The list with `x` inserted before the first element whose key is above its own. -/
def insertBy {β : Type} (key : β → Nat) (x : β) : List β → List β
  | [] => [x]
  | y :: t => if key x < key y then x :: y :: t else y :: insertBy key x t

/-- Stable sort by rising key. -/
def sortBy {β : Type} (key : β → Nat) (l : List β) : List β := l.foldl (fun acc x => insertBy key x acc) []

/-- The element of least key, the first of them when several share it. -/
def minBy {β : Type} (key : β → Nat) (l : List β) : Option β :=
  l.foldl (fun acc x => match acc with
    | none => some x
    | some y => if key x < key y then some x else some y) none

end Sys2Proof.Machine
end

