-- ==== Sys2Proof/Machine/Bits.lean ====
section
/-! DEFINITION. Byte order, bit fields and CRC-32C over byte strings (R10, R11, R17). -/

namespace Sys2Proof.Machine

/-- `n` bytes of `v`, least significant byte first (R11). -/
def leBytes : Nat → Nat → Bytes
  | 0, _ => []
  | n + 1, v => BitVec.ofNat 8 v :: leBytes n (v / 256)

/-- The number that a little-endian byte string spells (R11). -/
def leNat : Bytes → Nat
  | [] => 0
  | b :: t => b.toNat + 256 * leNat t

/-- `n` bytes of `v`, most significant byte first (R11, RXMP). -/
def beBytes (n v : Nat) : Bytes := (leBytes n v).reverse

/-- The number that a big-endian byte string spells (R11, RXMP). -/
def beNat (b : Bytes) : Nat := leNat b.reverse

/-- `n` zero bytes. -/
def zeros (n : Nat) : Bytes := List.replicate n 0

/-- Bytes `off` to `off + n - 1`, with zeros where the string is shorter. -/
def slice (b : Bytes) (off n : Nat) : Bytes :=
  let t := (b.drop off).take n
  t ++ zeros (n - t.length)

/-- The little-endian field of `n` bytes at `off`. -/
def field (b : Bytes) (off n : Nat) : Nat := leNat (slice b off n)

/-- `b` cut or filled with zeros to exactly `n` bytes. -/
def fit (n : Nat) (b : Bytes) : Bytes := slice b 0 n

/-- `b` with `d` laid over it from offset `off`; the length of `b` does not change. -/
def overlay (b : Bytes) (off : Nat) (d : Bytes) : Bytes :=
  (b.take off ++ d ++ b.drop (off + d.length)).take b.length

/-- Bits [hi:lo] of a number (R10). -/
def bitsOf (v hi lo : Nat) : Nat := (v >>> lo) % 2 ^ (hi + 1 - lo)

/-- Bit n of a number (R10). -/
def bit (v n : Nat) : Bool := v.testBit n

/-- 1 for true, 0 for false. -/
def b2n (b : Bool) : Nat := if b then 1 else 0

/-- The number whose bit i is set where the i-th flag holds. -/
def packBits : List Bool → Nat
  | [] => 0
  | b :: t => b2n b + 2 * packBits t

/-- Positions of the set bits below `n`, rising. -/
def setBits (v n : Nat) : List Nat := (List.range n).filter (fun i => v.testBit i)

/-- A signed number as `w` bits of two's complement (R17). -/
def toTwos (w : Nat) (v : Int) : Nat := (v % (2 ^ w : Nat)).toNat

/-- The signed number that `w` bits of two's complement spell (R17). -/
def ofTwos (w : Nat) (v : Nat) : Int := if v < 2 ^ (w - 1) then v else (v : Int) - (2 ^ w : Nat)

/-- One bit of the reflected CRC-32C division, polynomial 0x1EDC6F41 reflected. -/
def crcBit (c : Nat) : Nat := if c % 2 = 1 then (c / 2) ^^^ 0x82F63B78 else c / 2

/-- One byte of the CRC-32C division. -/
def crcByte (c : Nat) (b : Byte) : Nat :=
  crcBit (crcBit (crcBit (crcBit (crcBit (crcBit (crcBit (crcBit (c ^^^ b.toNat))))))))

/-- CRC-32C of a byte string (R516, R536): initial value and final complement all ones, reflected. -/
def crc32c (b : Bytes) : Nat := (b.foldl crcByte 0xFFFFFFFF) ^^^ 0xFFFFFFFF

/-- Bytes of an ASCII string (R17, STR). -/
def ascii (s : String) : Bytes := s.toList.map (fun c => BitVec.ofNat 8 c.toNat)

/-- Smallest multiple of `m` at or above `n`. -/
def roundUp (n m : Nat) : Nat := ((n + m - 1) / m) * m

/-- Are all bytes zero? -/
def allZero (b : Bytes) : Bool := b.all (· == 0)

/-- The power of two that a number is, if it is one. -/
def isPow2 (n : Nat) : Bool := n != 0 && 2 ^ n.log2 == n

end Sys2Proof.Machine
end

