-- ==== Sys2Proof/Machine/Curve.lean ====
section
/-! DEFINITION. Curves (R278): their layout, their check and their value. -/

namespace Sys2Proof.Machine

/-- A curve read out of its 64 bytes: whether it is a step curve, and its points (R278). -/
structure Curve where
  step : Bool
  points : List (Nat × Nat)
  deriving DecidableEq, Repr

/-- The curve that 64 bytes spell (R278). -/
def Curve.ofBytes (b : Bytes) : Curve :=
  { step := field b 2 1 == 1
    points := (List.range (field b 1 1)).map (fun i => (field b (4 + 4 * i) 2, field b (6 + 4 * i) 2)) }

/-- Are the X values of a list of points strictly ascending? -/
def ascending : List (Nat × Nat) → Bool
  | a :: b :: t => decide (a.1 < b.1) && ascending (b :: t)
  | _ => true

/-- Does a value keep the layout of R278, with the ID given? Reserved bytes are ignored (R14). -/
def curveOk (id : Nat) (b : Bytes) : Bool :=
  let n := field b 1 1
  b.length == 64 && field b 0 1 == id && decide (2 ≤ n) && decide (n ≤ 15) && decide (field b 2 1 ≤ 1) &&
    ascending (Curve.ofBytes b).points && (Curve.ofBytes b).points.all (fun p => decide (p.2 ≤ 10000))

/-- y for an x between or beyond the points (R278). -/
def Curve.at (c : Curve) (x : Nat) : Nat :=
  let below := c.points.filter (fun p => decide (p.1 ≤ x))
  match below.getLast?, c.points[below.length]? with
  | none, some p => p.2
  | none, none => 0
  | some p, none => p.2
  | some p, some q =>
    if c.step then p.2
    else ((p.2 : Int) + ((q.2 : Int) - p.2) * ((x : Int) - p.1) / ((q.1 : Int) - p.1)).toNat

/-- The default curves of R279, by ID. -/
def defaultCurve : Nat → Curve
  | 0 => ⟨false, [(0, 9000), (5000, 7000), (8000, 4000), (9500, 1000), (10000, 500)]⟩
  | 1 => ⟨false, [(0, 6000), (200, 3000), (1000, 1000), (3000, 300), (10000, 100)]⟩
  | 2 => ⟨true, [(0, 8000), (1, 5000), (2, 2000), (3, 1000)]⟩
  | 3 => ⟨false, [(0, 50), (10000, 200), (20000, 1000)]⟩
  | 4 => ⟨false, [(0, 300), (500, 1500), (2000, 4000)]⟩
  | 5 => ⟨true, [(1, 0), (2, 200), (12, 500), (15, 2000), (16, 4000)]⟩
  | _ => ⟨false, [(0, 500), (2500, 2000), (5000, 5000), (8000, 8000)]⟩

/-- The default SLC curve (R401). -/
def defaultSlcCurve : Curve := ⟨false, [(0, 3072), (5000, 2048), (8000, 512), (9500, 64), (10000, 64)]⟩

/-- The bytes of a curve (R278). -/
def Curve.toBytes (id : Nat) (c : Curve) : Bytes :=
  fit 64 (leBytes 1 id ++ leBytes 1 c.points.length ++ leBytes 1 (b2n c.step) ++ [0] ++
    (c.points.map (fun p => leBytes 2 p.1 ++ leBytes 2 p.2)).flatten)

/-- A written curve as it is kept: reserved bytes read as zero (R14, R278). -/
def curveKept (id : Nat) (b : Bytes) : Bytes := (Curve.ofBytes b).toBytes id

end Sys2Proof.Machine
end

