-- ==== Sys2Proof/Config.lean ====
section
/-! DEFINITION. What one module fixes, and the values that the spec leaves open: constants without a body. Nothing can
be proved of them but what holds for every value. -/

namespace Sys2Proof.Config

/-- The values of `freeNat` and `freeByte` stand for values the spec does not state; the counter `State.free` numbers
them (log entry 1). -/
opaque freeNat : Nat → Nat

/-- What a sensor reads in degrees C when it is asked, by the counter `State.free` (R40). -/
opaque freeReading : Nat → Int

/-- A free byte (log entry 1). -/
opaque freeByte : Nat → Byte

/-- Byte `j` of output `i` of the DRBG (R467); a free value (log entry 1). -/
opaque drbgByte : Nat → Nat → Byte

/-- Is the module a YE-4800-E (R4)? -/
opaque isE : Bool

/-- SERIAL (R42). -/
opaque serial : Bytes

/-- The Device Serial Number of configuration space: the module serial number as 64 bits (R78; log entry 159). -/
opaque pcieSerial : Nat

/-- The silicon stepping (R77). -/
opaque stepping : Nat

/-- MAC_ADDR (R503). -/
opaque macAddr : Bytes

/-- IDENTITY_CERT, the certificate chain of the identity key (R475). -/
opaque identityCert : Bytes

/-- DK, fused at manufacture (R450). -/
opaque deviceKey : Bytes

/-- The boot ROM's version, which the ROM measures (R474). -/
opaque romVersion : Bytes

/-- The ROOT_KEY_HASH fuses (R472). -/
opaque rootKeyHash : Bytes

/-- The headers and bodies of the firmware images with which the module left the factory (log entry 13). -/
opaque factoryHeader : Bool → Bytes

/-- See `factoryHeader`. -/
opaque factoryBody : Bool → Bytes

/-- The anti-rollback fuses blown at the factory (log entry 13). -/
opaque factoryFuses : Nat

/-- K of the credential "setup": from the setup code on the label (R497). -/
opaque setupKey : Bytes

/-- SALT of the credential "setup" (R497). -/
opaque setupSalt : Bytes

/-- ITER of the credential "setup" (R497). -/
opaque setupIter : Nat

/-- SHA-512 (FIPS 180-4, R448). -/
opaque sha512 : Bytes → Bytes

/-- HMAC-SHA-512 (FIPS 198-1) of a message under a key (R449). -/
opaque hmac512 : Bytes → Bytes → Bytes

/-- KW (0) or KWP (1) unwrap under a key (SP 800-38F, R451): none where the integrity check fails. -/
opaque unwrap : Nat → Bytes → Bytes → Option Bytes

/-- KWP wrap of a plaintext under a key (R455). -/
opaque wrap : Bytes → Bytes → Bytes

/-- RSASSA-PSS verification (R471): modulus, message, signature. -/
opaque rsaVerify : Bytes → Bytes → Bytes → Bool

/-- RSASSA-PSS signature of a message under IDK with the salt of the DRBG output named (R476). -/
opaque rsaSign : Nat → Bytes → Bytes

/-- AES-256-GCM (SP 800-38D, R457): the sealed bytes and the tag for key, IV, AAD and plaintext. -/
opaque gcmSeal : Bytes → Bytes → Bytes → Bytes → Bytes × Bytes

/-- XTS-AES-256 (IEEE 1619, R448): what data become under keys 1 and 2, the tweak of their first data unit and its size. -/
opaque xtsEncrypt : Bytes → Nat → Nat → Bytes → Bytes

/-- The inverse of `xtsEncrypt`. -/
opaque xtsDecrypt : Bytes → Nat → Nat → Bytes → Bytes

/-- The lane that takes a cipher job, by the number of the job: the spec does not say which (R466; log entry 177). -/
opaque laneOf : Nat → Nat

/-- Entries of the default OCV table that R429 does not give: temperature index, index of the state of charge, mV. -/
opaque ocvDefault : Nat → Nat → Nat

/-- Entries of the default resistance table that R429 does not give: rate index, temperature index, state of charge. -/
opaque resDefault : Nat → Nat → Nat → Nat

end Sys2Proof.Config
end

