-- ==== Sys2Proof/Machine/State.lean ====
section
/-! DEFINITION. The state of the module as plain data, its faults and refusals, and the state right after a power-on
reset. The parts stand in the order of the spec's chapters; INVENTORY.md names the rule of each. -/

namespace Sys2Proof.Machine

/-! ### Power, clocks and the sideband (01, 02) -/

/-- The power states of R57, in the order of their codes. -/
inductive PState where
  | off | standby | start | service | throttle | learn | dump
  deriving DecidableEq, Repr

/-- Why a dump runs (R58, R64). -/
inductive DumpCause where
  | trip12V | thermalTrip | clockFault | modReset | controlReset | controlStandby | hbmError | coderKat | serviceSet
  | mgmtWatchdog
  deriving DecidableEq, Repr

/-- Event-like causes of the FAULT indicator that hold until a module reset or until the same test passes (R51). -/
inductive FaultEvent where
  | clockFault | hbmError | coderKat | lockKat | startCheck | selftest (interface : Nat) | hbmStack (stack : Nat)
  deriving DecidableEq, Repr

/-- Power, reset and clock state (R45, R53, R56 to R72). `supply` says that the standby rail has a source;
`lockout` and `hold` are the thermal lockout and the fault hold of R58; `cause` is why the dump in progress runs,
`restart` that a module reset has ended and P12V is awaited as started again (R59), `known` that the checks of step 8 of a
START have shown which units work (R66, R72). -/
structure Power where
  state : PState
  startStep : Nat
  p12v : Bool
  rail : Bool
  rails : Bool
  lockout : Bool
  hold : Bool
  capped : Bool
  cause : Option DumpCause
  resetCause : Nat
  resetRecorded : Bool
  bootImage : Nat
  coresOk : BitVec 8
  mgmtRestarting : Bool
  lastWatchdog : Option Nat
  faults : List FaultEvent
  pllLocked : Bool
  holdover : Bool
  oscFault : Bool
  startTrigger : Nat
  restart : Bool
  portsFailed : List Nat
  groupsFailed : List Nat
  known : Bool
  lastDegraded : Nat
  deriving DecidableEq, Repr

/-- The device clock (R53, R510): its value and increment in units of 2^-32 ns, and the time since power-on that
nothing steps. `early` holds until firmware raises the clock at step 9 (R520). -/
structure Clock where
  now : Nat
  frac : Nat
  incr : Nat
  uptime : Nat
  early : Bool
  deriving DecidableEq, Repr

/-- Sideband pins, SMBus and sensors (R34 to R42, R49). -/
structure Sideband where
  modReset : Bool
  resetLatched : Bool
  pathHold : Bool
  pathSel : Bool
  locateN : Bool
  smbAddr : BitVec 2
  alert : Bool
  lastStatus : Nat
  smbReply : Option Bytes
  dumpAct : Bool
  pwrGood : Bool
  readings : List Int
  levels : List Level
  deriving DecidableEq, Repr

/-! ### Host ports, rings and commands (03, 04, 05) -/

/-- One request TLP that a port sends toward its host, kept in the order of issue (R92, R93, R127). -/
inductive Tlp where
  /-- A Memory Read of ring entries or of host data. -/
  | fetch (tag addr len : Nat) (ido : Bool)
  /-- A data write into a host buffer. -/
  | data (addr : Nat) (bytes : Bytes) (ro ido : Bool)
  /-- A part of a completion record or a notice body; neither RO nor IDO (R92). -/
  | record (addr : Nat) (bytes : Bytes)
  /-- An MSI-X message of the table entry named. -/
  | msix (vector : Nat)
  /-- An MSI message. -/
  | msi (number : Nat)
  /-- INTA asserted or deasserted. -/
  | intx (asserted : Bool)
  /-- An AER error message: Unexpected Completion, advisory non-fatal (R98). -/
  | unexpectedCompletion
  /-- A PCIe completion with the data of a Memory Read that the host made of a BAR (R82, R94). -/
  | completion (data : Bytes)
  deriving DecidableEq, Repr

/-- What a non-posted request of a port fetches (R97, KIND of event 0x2102). -/
inductive ReqKind where
  | ring (ring off : Nat)
  | data (cmd off : Nat)
  | echo (cmd off : Nat)
  deriving DecidableEq, Repr

/-- An outstanding non-posted request (R75, R96). `held` says that it was outstanding when a hold began (R100);
`dropped` that what comes back is accepted and discarded (R102, R145). -/
structure Req where
  kind : ReqKind
  addr : Nat
  len : Nat
  held : Bool
  dropped : Bool
  deriving DecidableEq, Repr

/-- Fields of configuration space that an operation reads (R75, R78, R80, R81, R89, R90, R92, R96). -/
structure PortCfg where
  busMaster : Bool
  d3hot : Bool
  msixEnable : Bool
  msixFunctionMask : Bool
  msiEnable : Bool
  msiVectors : Nat
  msiMask : BitVec 32
  interruptDisable : Bool
  cplTimeout : Nat
  extTag : Bool
  tag10 : Bool
  tag14 : Bool
  mps : Nat
  mrrs : Nat
  relaxedOrd : Bool
  ido : Bool
  bar0 : Nat
  bar2 : Nat
  deriving DecidableEq, Repr

/-- The link of a port (R24, R25, R54, R73, R86, R106): `perst` is the level of PERST_N, `surprise` that the link was lost
without an orderly cause and has not trained since, `evenCable` and `oddCable` the cables as the port trained with
them, `refclk` the reference clock mode it trained with. -/
structure PortLink where
  up : Bool
  rate : Nat
  width : Nat
  flit : Bool
  perst : Bool
  surprise : Bool
  trained : Bool
  evenCable : Bool
  oddCable : Bool
  refclk : Nat
  deriving DecidableEq, Repr

/-- PORT_STATE.STATE (R86). -/
inductive QState where
  | active | quarantined | releasing
  deriving DecidableEq, Repr

/-- A notice on its way to a host (R140, R141). -/
structure Notice where
  seq : Nat
  time : Nat
  code : Nat
  sev : Nat
  subject : Nat
  detail : Bytes
  deriving DecidableEq, Repr

/-- RING_STATUS.STATE (R118). -/
inductive RState where
  | none | running | stopped | resetting | faulted
  deriving DecidableEq, Repr

/-- A ring position in the RING_DB format: LAP and OFFSET (R129). -/
structure Pos where
  lap : Bool
  off : Nat
  deriving DecidableEq, Repr

/-- An accepted entry without a completion record (R132): its place, its first 32 bytes as accepted, whether a
granule of it was pushed, and the TAG of its command (0 for a notice slot). -/
structure OutEntry where
  pos : Pos
  len : Nat
  head : Bytes
  pushed : Bool
  tag : Nat
  notice : Bool
  deriving DecidableEq, Repr

/-- 64 bytes of a ring as the port holds them, fetched or pushed (R131, R134). -/
structure Granule where
  bytes : Bytes
  pushed : Bool
  deriving DecidableEq, Repr

/-- What a completion record says (R126, R162). -/
structure CplRes where
  status : Nat
  result0 : Nat
  result1 : Nat
  deriving DecidableEq, Repr

/-- How far the check of R124 has come: no entry with a wrong phase, one that waits 1 µs, one that is fetched again. -/
inductive Refetch where
  | no | due | again
  deriving DecidableEq, Repr

/-- One ring (R113 to R118, R134, R143). `fetchPos` is the position up to which entries have been asked for,
`refetch` the check of R124 of the entry that is next, `retry` the fetches that wait 1 ms (R97). -/
structure Ring where
  base : Nat
  sizeLog2 : Nat
  vector : Nat
  irqEn : Bool
  pushRing : Bool
  notice : Bool
  coalCount : Nat
  coalTime : Nat
  state : RState
  fault : Nat
  cmdRefused : Bool
  db : Pos
  acc : Pos
  out : List OutEntry
  cplCount : Nat
  push : Tab Byte
  granules : Tab Granule
  fetchPos : Pos
  timeouts : Nat
  refetch : Refetch
  retry : List (Nat × Nat)
  coal : Nat
  snapshot : Option (List (Nat × CplRes))
  deriving DecidableEq, Repr

/-- MB_STATE of a mailbox and what serves it (R499 to R503). `discard` says that the response is dropped when it
comes (R503). -/
structure Mailbox where
  busy : Bool
  done : Bool
  overrun : Bool
  doneCount : Nat
  request : Tab Byte
  response : Bytes
  reply : Bytes
  discard : Bool
  session : Option Nat
  deriving DecidableEq, Repr

/-- One host port (R73 to R110, R140, R147, R182). `msixWords` are the address and data words of the MSI-X table, `inta` is
INTA as last sent (R91), `msiPending` are the pending bits of MSI (R78), `maint` says that the port is in MAINTENANCE
(R538). -/
structure Port where
  link : PortLink
  cfg : PortCfg
  state : QState
  tagMode : Nat
  cause : BitVec 32
  cto : Nat
  unexp : Nat
  quarantines : Nat
  ctoTimes : List Nat
  intPending : BitVec 256
  inta : Bool
  msiPending : BitVec 32
  msixUnmasked : List Nat
  msixPending : List Nat
  msixWords : Tab Nat
  reqs : Tab Req
  withheld : List Nat
  quarTags : List Nat
  notices : List Notice
  noticesDropped : Nat
  lost : Nat
  unacked : List Notice
  tagNext : Nat
  lastServed : Nat
  ringFaults : Nat
  ringResets : Nat
  decoded : Nat
  failed : Nat
  tx : List Tlp
  mailbox : Mailbox
  maint : Bool
  deriving DecidableEq, Repr

/-- The four ports H0 to H3. -/
structure Ports where
  h0 : Port
  h1 : Port
  h2 : Port
  h3 : Port
  deriving DecidableEq, Repr

/-- How far a command has come (R163 to R180). -/
inductive Stage where
  /-- Accepted, not yet decoded. -/
  | accepted
  /-- Its lock is requested and waits (R169). -/
  | stalled
  /-- A write holds its lock and waits for write-cache slots (R363). -/
  | slots
  /-- A write or ECHO waits for data from the host. -/
  | fetching
  /-- A read waits for a map page that is not resident (R274). -/
  | lookup
  /-- A read waits for benches from drives. -/
  | reading
  /-- A staged write waits for its write-through commit (R154, R366). -/
  | staged
  /-- A flush waits for the drives (R156). -/
  | flushing
  deriving DecidableEq, Repr

/-- A range lock (R169): held or waiting, in the order of decode. -/
structure Lock where
  port : PortId
  tag : Nat
  vol : Nat
  lo : Nat
  len : Nat
  exclusive : Bool
  held : Bool
  deriving DecidableEq, Repr

/-- A part of a page that a read still waits for: the blocks of the mask, from page `unit` of a sett (R206, R299). -/
structure ReadPart where
  page : Nat
  mask : Nat
  group : Nat
  bench : Nat
  pos : Nat
  unit : Nat
  deriving DecidableEq, Repr

/-- An accepted command (R132, R163). `lo` and `n` are its 4 KiB pages' range in logical blocks, `data` the host
bytes that have arrived by their offset in the transfer, `todo` the host reads not yet issued, `pages` the pages a
read has gathered by page number, `waits` the parts that drives still owe, `recovered` that some were reconstructed (R153), `reserved` the space of R165,
`upto` the journal sequence a FLUSH waits for (R156). -/
structure Cmd where
  port : PortId
  ring : Nat
  tag : Nat
  entry : Bytes
  stage : Stage
  order : Nat
  accepted : Nat
  vol : Nat
  lo : Nat
  n : Nat
  data : Tab Bytes
  todo : List (Nat × Nat × Nat)
  pages : Tab Bytes
  waits : List ReadPart
  recovered : Bool
  reserved : Nat
  upto : Nat
  vols : List Nat
  deriving DecidableEq, Repr

/-- The Command Engine (R163 to R182, R268). -/
structure CmdEngine where
  cmds : List Cmd
  locks : List Lock
  nextOrder : Nat
  lockStalls : Nat
  lockTableFull : Nat
  decodeWaits : Bool
  refusals : Bool
  commits : Nat
  deriving DecidableEq, Repr

/-! ### Event ledger (16) -/

/-- A ledger record (R516). A record without its sequence (R521) has SEQ 0. -/
structure LedRec where
  seq : Nat
  time : Nat
  code : Nat
  sev : Nat
  early : Bool
  notice : Bool
  truncated : Bool
  supp : Nat
  subject : Nat
  detail : Bytes
  deriving DecidableEq, Repr

/-- A token bucket (R526): its level in units of 1/60,000,000,000 token, and when it was brought up to date. -/
structure Bucket where
  level : Nat
  time : Nat
  deriving DecidableEq, Repr

/-- The ledger (R519 to R531). `ring` holds records with their ring offsets, oldest first; those up to `flushed`
are in the region too. `region` holds records with their page. `page` and `bytes` say where the next record of the
region goes. -/
structure Ledger where
  ring : List (Nat × LedRec)
  writeOff : Nat
  flushed : Nat
  nextSeq : Nat
  floor : Nat
  mounted : Bool
  region : List (Nat × LedRec)
  page : Nat
  bytes : Nat
  full : Bool
  dropped : Nat
  lastFlush : Nat
  lastClear : Nat
  gen : Nat
  buckets : Tab Bucket
  supp : Tab Nat
  suppressed : Tab Nat
  suppressedTotal : Nat
  deriving DecidableEq, Repr

/-! ### Volumes, extents, groups and the metadata journal (06) -/

/-- The state of a volume (R246). -/
inductive VState where
  | recovering | ready | offline
  deriving DecidableEq, Repr

/-- A volume table entry (R185, R191, R461): the scheme, the capacity in logical blocks, the extent map segments, the
XTS generations with their use, the state of R246 with its LOSS mark, and the open log extent (R202). -/
structure Volume where
  k : Nat
  m : Nat
  emul : Bool
  vcflags : Nat
  cls : Nat
  capacity : Nat
  keyId : Nat
  segments : List Nat
  xgCur : Nat
  xgOldest : Nat
  xgUnits : Nat
  state : VState
  loss : Bool
  openLog : Option Nat
  deriving DecidableEq, Repr

/-- ESTATE (R192). -/
inductive EState where
  | none | face | closed | merging
  deriving DecidableEq, Repr

/-- An extent map entry (R192) with the reason for which a merge is queued (R212) and the order of its last write
(R196, R212). -/
structure Extent where
  state : EState
  queued : Option Nat
  group : Option Nat
  pmd : Option Nat
  logPages : Nat
  touched : Nat
  deriving DecidableEq, Repr

/-- MSTATE (R194). -/
inductive MState where
  | ok | missing | rebuilding | stale
  deriving DecidableEq, Repr

/-- A member entry (R194). -/
structure Member where
  chunk : Nat
  state : MState
  deriving DecidableEq, Repr

/-- GSTATE (R193), in the order of its codes. -/
inductive GState where
  | free | face | closed | log | target | spoil
  deriving DecidableEq, Repr

/-- A group descriptor (R193). -/
structure Group where
  k : Nat
  m : Nat
  state : GState
  xgen : Nat
  dense : Bool
  volume : Nat
  fill : Nat
  owner : Nat
  degraded : Bool
  rebuilding : Bool
  members : List Member
  deriving DecidableEq, Repr

/-- LSTATE (R207). -/
inductive LState where
  | free | opened | closed
  deriving DecidableEq, Repr

/-- A log extent descriptor (R207). -/
structure LogExtent where
  group : Nat
  volume : Nat
  state : LState
  fill : Nat
  live : Nat
  openJseq : Nat
  deriving DecidableEq, Repr

/-- A page-map entry that is VALID (R204). -/
structure PmEntry where
  slot : Nat
  logIx : Nat
  bmask : Nat
  deriving DecidableEq, Repr

/-- A repair table entry and a poison table entry are those of R303 and R304. -/
structure Repair where
  group : Nat
  bench : Nat
  member : Nat
  deriving DecidableEq, Repr

/-- A poison table entry (R304). -/
structure Poison where
  group : Nat
  bench : Nat
  volume : Nat
  owner : Nat
  cause : Nat
  deriving DecidableEq, Repr

/-- CSTATE (R257), in the order of its codes. -/
inductive CState where
  | absent | free | allocated | spoil | retired
  deriving DecidableEq, Repr

/-- A chunk table entry (R257). -/
structure Chunk where
  state : CState
  hdrPending : Bool
  relocate : Bool
  dense : Bool
  drive : Nat
  group : Option Nat
  member : Nat
  kind : Nat
  volume : Nat
  allocCount : Nat
  errTally : Nat
  allocTime : Nat
  spoilJseq : Nat
  deriving DecidableEq, Repr

/-- The chunks of one drive (R256): the span of its numbers. An entry of the span that the chunk table does not list
is FREE and was never allocated, or RETIRED where `retired` holds. -/
structure Span where
  base : Nat
  count : Nat
  retired : Bool
  deriving DecidableEq, Repr

/-- The tables a checkpoint copies (R190, R234, R259, R305, R306): volumes, extent map entries, group descriptors,
log extents, page-map directories, map pages, the chunk table with the drives' spans, and the repair, poison and scrub
tables. -/
structure Tables where
  vols : Tab Volume
  exts : Tab Extent
  groups : Tab Group
  logs : Tab LogExtent
  dirs : Tab (Tab Nat)
  mapPages : Tab (Tab PmEntry)
  chunks : Tab Chunk
  spans : Tab Span
  repair : List Repair
  poison : List Poison
  scrub : Tab (Nat × Nat)
  deriving DecidableEq, Repr, Inhabited

/-- A LOG_BENCH entry (R224). -/
structure LogEntry where
  extent : Nat
  page : Nat
  bmask : Nat
  slot : Nat
  deriving DecidableEq, Repr

/-- The bodies of the journal records (R224). -/
inductive JBody where
  | writeCommit (vol port wflags nblk lba tag cacheRef : Nat)
  | clean (vol nblk lba commitJseq : Nat)
  | discard (vol freed lba nblk : Nat)
  | faceOpen (vol gattr k m extent group : Nat) (members : List Nat)
  | faceAdvance (group extent fillOld fillNew vol afollow : Nat)
  | faceClose (group extent fillOld fillNew vol : Nat)
  | logOpen (vol gattr k m logIx group : Nat) (members : List Nat)
  | logBench (logIx vol bench afollow : Nat) (entries : List LogEntry)
  | logClose (logIx vol group : Nat)
  | logFree (logIx vol group : Nat)
  | mergeStart (extent target vol reason gattr : Nat) (members : List Nat)
  | mergeDone (extent target old vol : Nat)
  | mergeAbandon (extent target vol reason : Nat)
  | memberReplace (group member cursor oldChunk newChunk : Nat)
  | memberState (group member mstate : Nat)
  | spoilReclaim (chunks : List Nat)
  | volumeCreate (block : Bytes)
  | volumeGrow (vol capacity : Nat)
  | volumeDelete (vol : Nat)
  | volumeSet (vol vcflags cls : Nat)
  | xgenOpen (vol xgen : Nat)
  | checkpoint (id covers : Nat)
  deriving DecidableEq, Repr

/-- A journal record with its sequence (R223). -/
structure JRec where
  seq : Nat
  body : JBody
  deriving DecidableEq, Repr

/-- What a bench in flight becomes when every sett is on media (R208). -/
inductive BenchKind where
  | face | log | target
  deriving DecidableEq, Repr

/-- A page that a bench carries: extent, page of the extent, blocks, and its cache slot. -/
structure BenchPage where
  extent : Nat
  page : Nat
  bmask : Nat
  slot : Nat
  wc : Nat
  deriving DecidableEq, Repr

/-- A bench written and not yet on media (R208, R209): its group, its place, the pages it carries and the atomic units
whose record group it belongs to. -/
structure Inflight where
  kind : BenchKind
  volume : Nat
  extent : Nat
  logIx : Nat
  group : Nat
  bench : Nat
  pages : List BenchPage
  onMedia : Bool
  data : Tab Bytes
  deriving DecidableEq, Repr

/-- The bench a volume's open log extent packs (R200, R202). -/
structure Pack where
  volume : Nat
  pages : List BenchPage
  since : Nat
  deriving DecidableEq, Repr

/-- A running merge (R213): `progress` are the target benches on media, `asked` says that the reads for the next one have
been made, `pages` and `waits` are what has come and what drives still owe of it, `bad` are the target benches to be
poisoned (R305). -/
structure Merge where
  volume : Nat
  extent : Nat
  target : Nat
  reason : Nat
  progress : Nat
  asked : Bool := false
  pages : Tab Bytes := []
  waits : List ReadPart := []
  bad : List Nat := []
  deriving DecidableEq, Repr

/-- The Extent Translation Unit outside the tables (R200 to R215, R226). -/
structure Etu where
  inflight : List Inflight
  packs : List Pack
  merges : List Merge
  merged : Nat
  abandoned : Nat
  nextTouch : Nat
  deriving DecidableEq, Repr

/-- The metadata journal (R220 to R224): the ring of commit and map records not yet retired, the last sequence, the map
records that the vault journal holds, and the map records that no written drive journal segment carries yet, and the next page of the vault
journal's ring. -/
structure Journal where
  last : Nat
  ring : List JRec
  vault : List JRec
  toDrives : List JRec
  page : Nat
  deriving DecidableEq, Repr

/-! ### Durability, recovery and import (07) -/

/-- A checkpoint descriptor (R231). CKPT_ID 0 is an empty one; COPIES is the number of its drives. -/
structure Ckpt where
  id : Nat
  covers : Nat
  epoch : Nat
  time : Nat
  slot : Nat
  drives : List Nat
  hash : Bytes := zeros 64
  deriving DecidableEq, Repr

/-- A checkpoint image: the tables at one JSEQ (R234), in the vault (with page maps and chunk table, R259) or on the
drives. -/
structure CkptImage where
  desc : Ckpt
  tables : Tables
  deriving DecidableEq, Repr

/-- A sealed drive journal segment (R237, R238): the records it carries with the first and the last of their sequences, the
drives that receive a copy, and those that have reported theirs on media. -/
structure Segment where
  seq : Nat
  epoch : Nat
  sealedAt : Nat
  exposure : List Nat
  records : List JRec
  copies : List Nat
  firstJseq : Nat := 0
  lastJseq : Nat := 0
  media : List Nat := []
  deriving DecidableEq, Repr

/-- One copy of a drive label (R229). -/
structure Label where
  drive : Nat
  seq : Nat
  arrayId : Bytes
  guid : Bytes
  epoch : Nat
  base : Nat
  count : Nat
  domain : Nat
  driveCount : Nat
  ckpt0 : Ckpt
  ckpt1 : Ckpt
  iv : Bytes
  deriving DecidableEq, Repr

/-- One copy of a chunk header (R232). -/
structure Header where
  chunk : Nat
  allocated : Bool
  kind : Nat
  member : Nat
  gattr : Nat
  k : Nat
  m : Nat
  volume : Nat
  group : Nat
  owner : Nat
  hjseq : Nat
  epoch : Nat
  iv : Bytes
  deriving DecidableEq, Repr

/-- The index pages of one log bench as the drives hold them (R203): the JSEQ of its LOG_BENCH record and its slots. -/
structure LogIndex where
  log : Nat
  group : Nat
  volume : Nat
  bench : Nat
  jseq : Nat
  entries : List LogEntry
  deriving DecidableEq, Repr

/-- What the drives of an array hold beside their labels (R228): the images in the checkpoint slots, the journal segments,
both copies of the chunk headers, and the index pages of the log benches. -/
structure ArrayRecord where
  images : List CkptImage
  segments : List Segment
  headersA : Tab Header
  headersB : Tab Header
  index : List LogIndex
  deriving DecidableEq, Repr, Inhabited

/-- A checkpoint that runs (R235): its image, the XTS units that it records (R463), and whether its copies are on media, so
that the labels are written. -/
structure Taking where
  image : CkptImage
  units : Tab Nat
  labels : Bool
  deriving DecidableEq, Repr

/-- RESTART_PATH (R242), in the order of its codes. -/
inductive RPath where
  | empty | stale | restore | replay | loss | drive
  deriving DecidableEq, Repr

/-- IMPORT_STATE (R254), in the order of its codes. -/
inductive ImportState where
  | idle | scanning | scanned | committing | done | failed
  deriving DecidableEq, Repr

/-- An entry of a loss report (R248). -/
structure LossEntry where
  volume : Nat
  lba : Nat
  blocks : Nat
  deriving DecidableEq, Repr

/-- A loss report (R248). -/
structure LossReport where
  epoch : Nat
  source : Nat
  cause : Nat
  horizonOpen : Bool
  horizon : Nat
  entries : List LossEntry
  accepted : Bool
  deriving DecidableEq, Repr

/-- What a SCAN has computed and COMMIT will take over (R250). -/
structure ScanResult where
  arrayId : Bytes
  epoch : Nat
  tables : Tables
  jseq : Nat
  segSeq : Nat
  record : ArrayRecord
  report : LossReport
  deriving DecidableEq, Repr

/-- Durability state (R229 to R254). `record` is what the drives of the array `mediaArray` hold, with the segments not yet on
media; `headers` the module's own copy of the chunk headers (R233); `taking` a checkpoint that runs; `vaultCkpts` the copies
in the vault. `exposure` are the extent map entries whose bit would be set in the
next segment (R239), `waitOver` that DRIVE_WAIT has passed
since the trigger of this START (R246). -/
structure Durability where
  arrayId : Bytes
  mediaArray : Bytes
  epoch : Nat
  path : RPath
  waitOver : Bool
  ckpt0 : Ckpt
  ckpt1 : Ckpt
  nextCkpt : Nat
  lastCkptTime : Nat
  requested : Bool
  taking : Option Taking
  record : ArrayRecord
  headers : Tab Header
  vaultCkpts : List CkptImage
  segSeq : Nat
  segsSinceCkpt : Nat
  lastSealed : Nat
  exposure : List Nat
  report : Option LossReport
  importState : ImportState
  scan : Option ScanResult
  importDrives : Nat
  importMissing : Nat
  deriving DecidableEq, Repr

/-! ### Quarrymaster (08) -/

/-- A map-page residency entry (R273): its pool slot, with the JSEQ of the oldest unwritten change (R276), the second-chance mark
(R275) and, while it is being fetched, that it is (R274). -/
structure Residency where
  slot : Nat
  resident : Bool
  dirty : Bool
  fetching : Bool
  pinned : Bool
  used : Bool
  oldest : Nat
  deriving DecidableEq, Repr

/-- What a drive command does (R338, R342). A write carries what it writes: of a chunk header its block of 32 (R233);
`copySett` reads the chunk that a relocation copies (R309), `headerTable` writes every header of the drive FREE, `zeroArea` the reserved bytes of its metadata area (R337). -/
inductive OpWhat where
  | readSett (group bench member : Nat)
  | copySett (chunk bench : Nat)
  | writeSett (group bench member : Nat) (data : Bytes)
  | header (chunk : Nat) (copyB : Bool) (block : List Header)
  | headerTable (copyB : Bool)
  | label (copyB : Bool) (content : Label)
  | zeroArea
  | checkpoint (id : Nat)
  | segment (seq : Nat)
  | deallocate (chunk count : Nat)
  | identify
  | admin
  deriving DecidableEq, Repr

/-- A drive command issued (R338, R344): `ended` says it failed to its requester and its tag is still outstanding. -/
structure DriveOp where
  id : Nat
  what : OpWhat
  retried : Bool
  ended : Bool
  deriving DecidableEq, Repr

/-- A flow of foreground work on one drive, a background kind (R281, R282), or metadata and administrative operations,
which neither rule weighs (log entry 170). -/
inductive Flow where
  | host (port cls : Nat)
  | destage (cls : Nat)
  | background (kind : Nat)
  | metadata
  deriving DecidableEq, Repr

/-- A drive operation that waits for dispatch (R280, R281): what it does, its flow, cost in µs and finish tag. -/
structure QueuedOp where
  op : DriveOp
  flow : Flow
  cost : Rat
  finish : Rat
  deriving DecidableEq, Repr

/-- The dispatcher of one drive (R281, R283). `used` is each kind's cost in the current window. -/
structure Dispatcher where
  vtime : Rat
  last : List (Flow × Rat)
  queue : List QueuedOp
  used : List (Nat × Rat)
  deriving DecidableEq, Repr

/-- A group in the rebuild queue (R284) with the order in which it was degraded, and whether it waits for the next window for
want of a chunk (R285). -/
structure RebuildEntry where
  group : Nat
  since : Nat
  held : Bool := false
  deriving DecidableEq, Repr

/-- A tally entry (R288): COUNT and EPOCH of a key. -/
structure Tally where
  key : Nat
  count : Nat
  epoch : Nat
  deriving DecidableEq, Repr

/-- Quarrymaster outside the chunk table (R262 to R290). -/
structure Quarry where
  reserved : Nat
  refusals : Nat
  allocFailures : Nat
  curveOut : List Nat
  shares : List Nat
  fastLimit : Nat
  migrating : Bool
  dispatchers : Tab Dispatcher
  residency : Tab Residency
  hand : Nat
  mapMisses : Nat
  queue : List RebuildEntry
  nextSince : Nat
  lastLowCkpt : Option Nat
  tallies : List Tally
  decay : Nat
  tallyDropped : Nat
  windowStart : Nat
  deriving DecidableEq, Repr

/-! ### Cooper and the Assayer (09) -/

/-- Who asked for a bench read (R299). `host` names the command by port and TAG. -/
inductive Reader where
  | host (port tag : Nat)
  | scrub
  | rebuild
  | destage (volume page : Nat)
  | merge (volume extent : Nat)
  deriving DecidableEq, Repr

/-- A bench read that waits for its setts (R299 to R301): the group and bench, what is needed of it (positions), who
needs it, whether this is the second read of R301, and the positions whose failed read has been counted (R308). -/
structure BenchRead where
  group : Nat
  bench : Nat
  whole : Bool
  need : List Nat
  reader : Reader
  again : Bool
  failed : List Nat
  deriving DecidableEq, Repr

/-- A running rebuild or relocation of one member (R309, R310): the old chunk, CURSOR, progress, whether it copies
(relocation), and whether the bench that comes next of a copy is reconstructed instead (R309). -/
structure Rebuild where
  group : Nat
  member : Nat
  oldChunk : Nat
  cursor : Nat
  progress : Nat
  copy : Bool
  decode : Bool := false
  deriving DecidableEq, Repr

/-- A pass that waits for Cooper (R296, R298): the decision of a bench read for the first time, of its second reading, the
location of a bad sett, a bench of a scrub, a bench of a rebuild. `setts` are what the drives brought. -/
inductive Pass where
  | bench (r : BenchRead) (setts : List SettRead)
  | again (r : BenchRead) (setts : List SettRead)
  | locate (r : BenchRead) (setts : List SettRead)
  | scrub (group bench : Nat) (setts : List SettRead)
  | rebuild (group bench : Nat) (setts : List SettRead)
  deriving DecidableEq, Repr

/-- Cooper and the Assayer outside the tables (R295 to R320). `scrubGroup` is the group whose scrub waits for benches read
again, `scrubBad` how many they are and `scrubAsked` the group whose reads are asked for; `noReturn` are the members (group, member) that R303 or R316 made MISSING, `katPending`
that a failed test waits to be repeated (R318). `fore` and `back` are the queues of R298, `streak` the foreground passes
since the last background one. -/
structure Cooper where
  fore : List Pass
  back : List Pass
  streak : Nat
  failed : Bool
  katResult : Nat
  katLastPass : Nat
  reads : List BenchRead
  rebuilds : List Rebuild
  scrubFirst : List Nat
  scrubGroup : Option Nat
  scrubBad : Nat
  scrubAsked : Option Nat
  noReturn : List (Nat × Nat)
  katPending : Bool
  verified : Nat
  decoded : Nat
  transient : Nat
  located : Nat
  unlocated : Nat
  unrecoverable : Nat
  scrubbed : Nat
  relocations : Nat
  rebuildsDone : Nat
  rebuildsAbandoned : Nat
  settsRebuilt : Nat
  deriving DecidableEq, Repr

/-! ### Drive ports (10) -/

/-- DRIVE_STATE (R335), in the order of its codes. -/
inductive DState where
  | none | blank | foreign | incompatible | adopting | online | unreachable | evacuating | removeReady | failed
  deriving DecidableEq, Repr

/-- A recovery table row (R340), without the reserved fields. -/
structure RecRow where
  state : Nat
  event : Nat
  next : Nat
  limit : Nat
  past : Nat
  actions : Nat
  timer : Nat
  deriving DecidableEq, Repr

/-- A recovery table (R340). -/
structure RecTable where
  nstates : Nat
  cmdTimeout : Nat
  adminTimeout : Nat
  countWindow : Nat
  rows : List RecRow
  deriving DecidableEq, Repr

/-- What a bus reset or an abort the module sends to a drive is (R342). -/
inductive DriveAct where
  | abort (op : Nat)
  | resetDevice
  | resetLink
  | groupReset
  deriving DecidableEq, Repr

/-- One entry of the trace toward drives: an operation issued, or a reset. -/
inductive DriveTrace where
  | issue (drive : Nat) (op : DriveOp)
  | act (drive : Nat) (act : DriveAct)
  | perst (group : Nat)
  deriving DecidableEq, Repr

/-- Why a drive became FAILED, or EVACUATING (R336, R349, R351). -/
inductive DWhy where
  | none | lossWait | declared | remove | warned
  deriving DecidableEq, Repr

/-- An active early warning (R351). -/
structure Warning where
  cause : Nat
  severity : Nat
  value : Nat
  threshold : Nat
  deriving DecidableEq, Repr

/-- The recovery state of a drive (R339 to R345): the table it runs under, its state, row counts, whether its timer
runs, and whether the dispatcher is quiesced. -/
structure Recovery where
  table : RecTable
  state : Nat
  counts : Tab Nat
  timer : Nat
  quiesced : Bool
  deriving DecidableEq, Repr

/-- One drive number (R333 to R353). `left` is the state that RESUME returns to. `labelTop` says that LABEL_B holds the newer
label, `labelDue` that a label write waits (R230), `adoptStep` which writes of its adoption have been issued (R337). `marked` are the chunks whose
RELOCATE mark the evacuation set (R349). -/
structure Drive where
  state : DState
  left : DState
  why : DWhy
  present : Bool
  proto : Proto
  rotating : Bool
  guid : Bytes
  capacity : Nat
  wear : Nat
  temp : Int
  path : Bytes
  label : Option LabelInfo
  labelSeq : Nat
  labelTop : Bool
  labelDue : Bool
  adoptStep : Nat
  cls : Nat
  nextCls : Nat
  domain : Nat
  dense : Bool
  spareLow : Bool
  overTemp : Bool
  linkFull : Bool
  health : Bool
  warnings : List Warning
  rcv : Recovery
  ops : List DriveOp
  timeouts : Nat
  resets : Nat
  late : Nat
  marked : List Nat
  adoptFrom : DState
  deriving DecidableEq, Repr

/-- The drive ports (R321 to R353). `perst` are the groups whose PERST_N is asserted (R27), `silent` are the numbers whose device does not answer its identification (R550),
`failedGuids` the drives this array failed by DECLARE_FAILED or FAIL (R335). -/
structure Drives where
  drives : Tab Drive
  groupState : List Nat
  perst : List Nat
  tables : List RecTable
  entries : List Nat
  ewRaised : Nat
  nextOp : Nat
  trace : List DriveTrace
  silent : List Nat
  failedGuids : List Bytes
  deriving DecidableEq, Repr

/-! ### Caches and dump (11) -/

/-- WSTATE (R361), in the order of its codes. -/
inductive WState where
  | free | clean | dirty | fetching | destaging | staged
  deriving DecidableEq, Repr

/-- A write-cache slot with its directory entry (R361). `link` is WLINK, `port` and `tag` name the command that holds a
FETCHING or STAGED slot, `old` says that a newer commit superseded it while it destages (R363), `since` is the time of
its commit, `used` the second-chance mark (R362), `borrowed` a slot placed in the read-cache partition (R382), and
`reserved` the space its page holds until it is destaged (R266), `first` the oldest commit of which it holds blocks that no
drive holds (R156), and `undo` the page-map entry that a STAGED page replaced before its commit (R101). -/
structure Slot where
  volume : Nat
  page : Nat
  state : WState
  bmask : Nat
  atomic : Bool
  link : Option Nat
  jseq : Nat
  data : Bytes
  port : PortId
  tag : Nat
  old : Bool
  since : Nat
  used : Bool
  borrowed : Bool
  reserved : Nat
  first : Nat := 0
  undo : Option (Option PmEntry) := none
  deriving DecidableEq, Repr

/-- A read-cache page (R367). -/
structure RcEntry where
  chunk : Nat
  alloc : Nat
  cpage : Nat
  retain : Nat
  data : Bytes
  deriving DecidableEq, Repr

/-- The state of a map cache way (R372); a way that is not listed is invalid, and an outstanding fill stands for the line
that is FILL_PENDING (log entry 37). -/
inductive LineState where
  | valid | evictPending
  deriving DecidableEq, Repr

/-- A map cache way (R369, R372): its tag and state; in sectored mode also the valid bits of its sectors (R374). -/
structure Line where
  tag : Nat
  state : LineState
  sectors : Nat
  deriving DecidableEq, Repr

/-- An outstanding fill (R371, R372): the line address, the way it replaces, the number of
requests merged, and whether its line is invalidated when it completes (R373). -/
structure Fill where
  line : Nat
  way : Nat
  merged : Nat
  drop : Bool
  deriving DecidableEq, Repr

/-- The map cache (R369 to R374): ways by set × 16 + way, tree bits by set, outstanding fills. -/
structure MapCache where
  mode : Nat
  banksOk : BitVec 16
  lines : Tab Line
  plru : Tab Nat
  fills : List Fill
  hits : Nat
  misses : Nat
  busy : Bool
  deriving DecidableEq, Repr

/-- An image in the dump area (R376, R387, R391): what it holds, whether block 0 and the trailer are valid, and the
units it occupies. -/
structure Image where
  epoch : Nat
  time : Nat
  cause : DumpCause
  metaBlocks : Nat
  pageBlocks : Nat
  block0 : Bool
  complete : Bool
  exposure : List Nat
  slots : Tab Slot
  ring : List JRec
  repair : List Repair
  poison : List Poison
  scrub : Tab (Nat × Nat)
  last : Nat
  units : Nat
  relocated : Nat
  deriving DecidableEq, Repr

/-- The results of the last dump and restore (R383). -/
structure DumpState where
  count : Nat
  result : Nat
  bytes : Nat
  time : Nat
  energy : Nat
  restoreTime : Nat
  image : Option Image
  unplaced : Tab Slot
  tripTime : Nat
  sourceLost : Bool
  dumped : Bool
  marked : Bool
  deriving DecidableEq, Repr

/-- HBM, the write cache and the read cache (R354 to R368). `ecc24` are the corrected errors of each stack with their
times (R360). -/
structure Cache where
  stacksOk : BitVec 4
  retiring : BitVec 4
  corrected : List Nat
  uncorrected : List Nat
  ecc24 : List (Nat × Nat × Nat)
  slots : Tab Slot
  hand : Nat
  mode : Nat
  wtCause : Nat
  destaged : Nat
  stalls : Nat
  rc : List RcEntry
  rcHand : Nat
  rcHits : Nat
  rcMisses : Nat
  deriving DecidableEq, Repr

/-! ### Vault (12) -/

/-- SSTATE (R398), in the order of its codes. -/
inductive SState where
  | free | erased | opened | closed | verified | parity | dumpArmed | dumpUsed | system | retired
  deriving DecidableEq, Repr

/-- A set table entry (R398). -/
structure VSet where
  state : SState
  mode : Nat
  valid : Nat
  wear : Nat
  rewrites : Nat
  worst : Nat
  stripe : Nat
  closedAt : Nat
  deriving DecidableEq, Repr

/-- A block map entry (R397), with the pages of the block that its set holds and no newer copy has made invalid. -/
structure BlockMap where
  set : Nat
  mode : Nat
  third : Nat
  logged : Nat
  pages : List Nat
  deriving DecidableEq, Repr

/-- A stripe (R402): its number, channel group, mode, data sets with the rows filled, and parity set. -/
structure Stripe where
  id : Nat
  target : Nat
  tlc : Bool
  sets : List Nat
  parity : Nat
  closed : Bool
  deriving DecidableEq, Repr

/-- A die-page program in flight (R402): the logical page, its set and row, and whether the page's own program and the
program of its parity row have reported, and the page's tag (R394). -/
structure Program where
  lpn : Nat
  set : Nat
  row : Nat
  own : Bool
  tag : Bytes
  deriving DecidableEq, Repr

/-- A collection copy that runs (R404): source and target sets, the store blocks it moves, the log pages it copied with
their places, and whether its sources are retired when it is done. -/
structure Collect where
  sources : List Nat
  targets : List Nat
  blocks : List Nat
  moved : Tab Nat
  deriving DecidableEq, Repr

/-- Counters since manufacture (R417, R418). -/
structure VaultHealth where
  bytesWritten : Nat
  bytesRead : Nat
  retryReads : Nat
  uncorrectable : Nat
  programFails : Nat
  eraseFails : Nat
  rewrites : Nat
  tempMax : Int
  tempHours : List Nat
  retiredSets : Nat
  deriving DecidableEq, Repr

/-- DUMP_AREA_STATE is computed; `rearming` says a re-arm runs (R392). -/
structure Vault where
  failed : Bool
  failedDies : List Nat
  live : List Nat
  slots : Tab (List Nat)
  sets : Tab VSet
  blocks : Tab BlockMap
  logPages : Tab Nat
  logBlocks : List Nat
  openRows : Tab Nat
  stripes : List Stripe
  nextStripe : Nat
  wseq : Nat
  flushSeq : Nat
  flushes : Nat
  snapshot : Nat
  pendingErase : List Nat
  erasing : List Nat
  writes : List Nat
  programs : List Program
  collects : List Collect
  condemned : List Nat
  timeouts : Tab Nat
  retiredTimes : List (Nat × Nat)
  rearming : Bool
  replace : Bool
  mountTime : Nat
  mountPages : Nat
  folding : Bool
  logCap : Option Nat
  lastState : Nat
  lastArea : Nat
  lastRequest : Option Nat
  health : VaultHealth
  deriving DecidableEq, Repr

/-! ### Energy store (13) -/

/-- CHARGER_STATE (R424). -/
inductive ChState where
  | noPack | qualify | precharge | cc | cv | done | rest | tempHold | learn | fault | noInput | disabled
  deriving DecidableEq, Repr

/-- LEARN_STATE (R446), in the order of its codes. -/
inductive LearnState where
  | idle | preparing | discharging | resting | done | abandoned | invalid
  deriving DecidableEq, Repr

/-- One gauge slot in NOR (R443). -/
structure NvSlot where
  valid : Bool
  seq : Nat
  written : Nat
  inserted : Nat
  capLearned : Nat
  learnTime : Nat
  learnCount : Nat
  learnActive : Bool
  learnDue : Bool
  rScale : List Nat
  refTime : Nat
  refCells : List Nat
  refTemp : Int
  est : Nat
  u0 : Nat
  soc : Nat
  bytes : Bytes
  deriving DecidableEq, Repr

/-- A sample kept for the conditions of R432 and R441: time, cell voltages in mV, pack voltage, temperature. -/
structure GaugeSample where
  time : Nat
  cells : List Nat
  pack : Nat
  temp : Int
  deriving DecidableEq, Repr

/-- The pack as the sense contacts show it (R419 to R422). Temperature in tenths of a degree (PACK_TEMP). -/
structure BatPack where
  state : Nat
  mv : Nat
  cells : List Nat
  temp : Int
  ntcFault : Bool
  inserted : Nat
  latched : Bool
  deriving DecidableEq, Repr

/-- The charger (R423 to R426). `before` is the state REST interrupted; `extended` that a rest window was extended. -/
structure Charger where
  state : ChState
  fault : Nat
  before : ChState
  qualifyLong : Bool
  extended : Bool
  restOpen : Bool
  restSince : Nat
  deriving DecidableEq, Repr

/-- The learn cycle (R439 to R442). -/
structure Learn where
  state : LearnState
  active : Bool
  due : Bool
  lost : Bool
  started : Nat
  step2 : Nat
  step3 : Nat
  onVoltage : Bool
  refStart : Rat
  samples : List GaugeSample
  deriving DecidableEq, Repr

/-- The estimator (R427 to R437). Percentages are exact. -/
structure Gauge where
  running : Bool
  e : Rat
  u0 : Rat
  u : Rat
  r : Rat
  refTime : Nat
  refCells : List Nat
  refTemp : Int
  refE : Rat
  sinceTime : Nat
  insertEst : Bool
  tableChanged : Bool
  stale : Bool
  reserveOk : Bool
  rateSeen : Nat
  rateSince : Nat
  history : List GaugeSample
  capLearned : Nat
  learnTime : Nat
  learnCount : Nat
  rScale : List Nat
  energyLow : Rat
  lastUpdate : Nat
  dumpDebit : Nat
  offSince : Option Nat
  offTime : Nat
  deriving DecidableEq, Repr

/-- Tallyman (13). `lastSlot` is the time of the last NOR slot write and `slotDue` that a merged
write is due (R444). -/
structure Tallyman where
  pack : BatPack
  charger : Charger
  gauge : Gauge
  learn : Learn
  slot0 : NvSlot
  slot1 : NvSlot
  lastSlot : Nat
  slotDue : Bool
  deriving DecidableEq, Repr

/-! ### Locksmith (14) -/

/-- A key held (R450, R452). `value` is the key itself, which no operation returns in the clear. -/
structure Key where
  kind : Nat
  flags : Nat
  id : Nat
  parent : Nat
  arrayId : Bytes
  value : Bytes
  deriving DecidableEq, Repr

/-- A GCM key family: its current generation, its invocation count and the reserved mark (R457, R458). -/
structure GcmFamily where
  g : Nat
  count : Nat
  reserved : Nat
  deriving DecidableEq, Repr

/-- An image slot in NOR (R471): what is in it. -/
structure ImageSlot where
  present : Bool
  header : Bytes
  body : Bytes
  deriving DecidableEq, Repr

/-- FW_UPDATE_STATE (R478), in the order of its codes. -/
inductive FwState where
  | idle | receiving | verified | failed
  deriving DecidableEq, Repr

/-- A quote of one session or mailbox (R477): its nonce and, once signed, its bytes. -/
structure Quote where
  channel : Nat
  nonce : Bytes
  quote : Option Bytes
  deriving DecidableEq, Repr

/-- One of the 48 lanes (R466): the DRBG request that seeded its mask generator, the blocks computed since then, and how often
key shares were drawn. -/
structure CipherLane where
  seed : Nat
  blocks : Nat
  draws : Nat
  deriving DecidableEq, Repr, Inhabited

/-- Locksmith (R448 to R479). `jobs` counts the cipher jobs that lanes have taken. `metaKey` is the array's metadata key, `metaPending` the one held for an import. `store` is the
newest valid copy of the NOR key store and `storeSeq` its sequence. `unitsSince` counts each volume's XTS units since
the last checkpoint that recorded them (R463). -/
structure Locksmith where
  keys : List Key
  metaKey : Option Key
  metaPending : Option Key
  store : List Key
  storeMeta : Option Key
  storeSeq : Nat
  mkGen : GcmFamily
  vskGen : GcmFamily
  dmpkGen : GcmFamily
  gcmRolls : Nat
  lanesOk : BitVec 48
  lanes : List CipherLane
  jobs : Nat
  engineOk : Bool
  drbg : Nat
  drbgRequests : Nat
  drbgSince : Nat
  drbgSeeds : Nat
  katResult : Nat
  katLastPass : Nat
  imageA : ImageSlot
  imageB : ImageSlot
  fuses : Nat
  fwState : FwState
  fwData : Bytes
  fwOwner : Option Nat
  mrs : List Bytes
  quotes : List Quote
  bootCount : Nat
  unitsSince : Tab Nat
  recovery : Bool
  deriving DecidableEq, Repr

/-! ### Dictionary, sessions, paths and time (15), tests (17) -/

/-- The value of a dictionary object: a number (two's complement for a signed type) or octets (R17). -/
inductive OVal where
  | num (n : Nat)
  | bytes (b : Bytes)
  deriving DecidableEq, Repr

/-- An open session (R489 to R495). `port` is the port of a mailbox session, `setup`
that it was opened with the factory credential (R497). -/
structure Session where
  id : Nat
  port : Option PortId
  role : Nat
  slot : Nat
  setup : Bool
  opened : Nat
  last : Nat
  cached : Option Bytes
  mak : Bytes
  swk : Bytes
  deriving DecidableEq, Repr

/-- A session that waits for its PROVE (R489, R491). `slot` is none for a decoy. -/
structure PendingSession where
  id : Nat
  port : Option PortId
  source : Bytes
  name : Bytes
  role : Nat
  cnonce : Bytes
  snonce : Bytes
  slot : Option Nat
  deriving DecidableEq, Repr

/-- A credential (R496, R497, R514). -/
structure Cred where
  slot : Nat
  role : Nat
  kind : Nat
  iter : Nat
  salt : Bytes
  name : Bytes
  k : Bytes
  setup : Bool
  lastUsed : Nat
  deriving DecidableEq, Repr

/-- Sessions and credentials (R489 to R497, R512). `fails` are the times of failed PROVEs by name, `opens` the times of
OPENs by source address. -/
structure Sessions where
  sessions : List Session
  pending : List PendingSession
  nextId : Nat
  creds : List Cred
  fails : List (Bytes × Nat)
  locked : List Bytes
  opens : List (Bytes × Nat)
  authFailures : Nat
  macInvalid : Nat
  rejected : Nat
  openDropped : Nat
  net : List Bytes
  deriving DecidableEq, Repr

/-- PATH_STATE (R505), in the order of its codes. -/
inductive PathState where
  | down | syncing | standby | active | failed
  deriving DecidableEq, Repr

/-- A management path (R505): its state and link code; `testOk` is the result of its MAC self-test. -/
structure MPath where
  state : PathState
  link : Nat
  testOk : Bool
  deriving DecidableEq, Repr

/-- The management paths, addresses and PTP (R504 to R511). `right` is true when path B holds the transmit right. -/
structure Paths where
  a : MPath
  b : MPath
  right : Bool
  failovers : Nat
  slaac : Option Bytes
  dhcp : Option Bytes
  source : Nat
  offset : Int
  freq : Int
  master : Bytes
  lockedSince : Option Nat
  deriving DecidableEq, Repr

/-- One entry of the NOR configuration area for a drive number (R483). -/
structure DriveNv where
  guid : Bytes
  dense : Bool
  cls : Nat
  deriving DecidableEq, Repr

/-- The dictionary's own state (R480 to R483). `objs` are the objects that hold a value, `nv` the NOR copy, keyed by
item × 2^24 + index × 256 + subindex; `selects` the objects kept per session or mailbox. `last` is the outcome of the
last operation. -/
structure Dict where
  objs : Tab OVal
  nv : Tab OVal
  nvSeq : Nat
  driveNv : Tab DriveNv
  selects : Tab OVal
  last : Option (Nat × Option OVal)
  deriving DecidableEq, Repr

/-- An accepted test (R540, R542). -/
structure TestReq where
  interface : Nat
  depth : Nat
  lanes : Nat
  duration : Nat
  limit : Nat
  rate : Nat
  start : Nat
  deriving DecidableEq, Repr

/-- TEST_STATE (R548), in the order of its codes. -/
inductive TState where
  | idle | running | done | aborted
  deriving DecidableEq, Repr

/-- The test controller (R536 to R549). `bad` are the interfaces whose last test in this MAINTENANCE failed, `out` those
that did not return to service, with the depth. -/
structure TestUnit where
  maint : List Nat
  running : Option TestReq
  state : TState
  result : Bytes
  bad : List (Nat × Nat)
  out : List (Nat × Nat)
  patrolLast : Nat
  runs : Nat
  fails : Nat
  deriving DecidableEq, Repr


/-! ### Outcomes and the whole state -/

/-- No command stops the machine with a fault: every row of the table has an effect in the spec (NOTES.md, Stops). -/
inductive Fault where
  deriving DecidableEq, Repr

/-- Why a command is refused. -/
inductive Refusal where
  /-- Raised by the dispatch arm of a command that has no meaning in the model yet. Safe: the machine stops. -/
  | notModelled (mnemonic : String)
  deriving DecidableEq, Repr

/-- The module (00 R2): every part the spec names, the queue of waiting commands, and the counter that numbers the free
values (log entry 1). -/
structure State where
  pending : List Instr
  free : Nat
  pw : Power
  clk : Clock
  side : Sideband
  ports : Ports
  rings : Tab Ring
  ce : CmdEngine
  led : Ledger
  tabs : Tables
  etu : Etu
  jr : Journal
  dur : Durability
  qm : Quarry
  cooper : Cooper
  drv : Drives
  cache : Cache
  mc : MapCache
  dump : DumpState
  vault : Vault
  tally : Tallyman
  lock : Locksmith
  sess : Sessions
  paths : Paths
  dict : Dict
  test : TestUnit
  deriving DecidableEq, Repr

/-! ### The state right after a power-on reset

The standby rail has just come up and P12V is not yet above the start threshold (R58, R62). Where the spec gives no
value, INVENTORY.md names the log entry. -/

/-- Power and resets after a power-on reset (R57, R62, R71). -/
def Power.reset : Power :=
  { state := .off, startStep := 0, p12v := false, rail := true, rails := false, lockout := false, hold := false,
    capped := false, cause := none, resetCause := 0, resetRecorded := false, bootImage := 0, coresOk := 0xFF#8,
    mgmtRestarting := false, lastWatchdog := none, faults := [], pllLocked := true, holdover := false,
    oscFault := false, startTrigger := 0, restart := false, portsFailed := [], groupsFailed := [],
    known := false, lastDegraded := 0 }

/-- The device clock after a power-on reset: zero, 10 ns a cycle (R53). -/
def Clock.reset : Clock := { now := 0, frac := 0, incr := 10 * 2 ^ 32, uptime := 0, early := true }

/-- Pins at the levels their pulls give (R34), nothing measured yet (log entry 5). -/
def Sideband.reset : Sideband :=
  { modReset := true, resetLatched := false, pathHold := false, pathSel := false, locateN := true, smbAddr := 3#2,
    alert := false, lastStatus := 0, smbReply := none, dumpAct := false, pwrGood := false,
    readings := List.replicate 8 25, levels := List.replicate 8 .none }

/-- Configuration space at its defaults (R75 to R96; log entry 7). -/
def PortCfg.reset : PortCfg :=
  { busMaster := false, d3hot := false, msixEnable := false, msixFunctionMask := false, msiEnable := false,
    msiVectors := 1, msiMask := 0#32,
    interruptDisable := false, cplTimeout := 0, extTag := false, tag10 := false, tag14 := false, mps := 128,
    mrrs := 512, relaxedOrd := true, ido := false, bar0 := 0, bar2 := 0 }

/-- The mailbox after a module reset, an FLR or a port reset (R499). -/
def Mailbox.reset : Mailbox :=
  { busy := false, done := false, overrun := false, doneCount := 0, request := [], response := [], reply := [],
    discard := false, session := none }

/-- A host port after a module reset (R85 to R87, R110, R147, R182). -/
def Port.reset : Port :=
  { link := { up := false, rate := 0, width := 0, flit := false, perst := true, surprise := false, trained := false,
              evenCable := false, oddCable := false, refclk := 0 },
    cfg := PortCfg.reset, state := .active, tagMode := 0, cause := 0, cto := 0, unexp := 0, quarantines := 0,
    ctoTimes := [], intPending := 0, inta := false, msiPending := 0, msixUnmasked := [], msixPending := [],
    msixWords := [], reqs := [], withheld := [],
    quarTags := [], notices := [], noticesDropped := 0, lost := 0, unacked := [], tagNext := 1, lastServed := 255,
    ringFaults := 0, ringResets := 0, decoded := 0, failed := 0, tx := [], mailbox := Mailbox.reset, maint := false }

/-- A ring's registers at their defaults (R113 to R118). -/
def Ring.reset : Ring :=
  { base := 0, sizeLog2 := 0, vector := 0, irqEn := false, pushRing := false, notice := false, coalCount := 0,
    coalTime := 0, state := .none, fault := 0, cmdRefused := false, db := ⟨false, 0⟩, acc := ⟨false, 0⟩, out := [],
    cplCount := 0, push := [], granules := [], fetchPos := ⟨false, 0⟩, timeouts := 0, refetch := .no, retry := [],
    coal := 0, snapshot := none }

/-- The Command Engine with nothing accepted (R182). -/
def CmdEngine.reset : CmdEngine :=
  { cmds := [], locks := [], nextOrder := 0, lockStalls := 0, lockTableFull := 0, decodeWaits := false,
    refusals := false, commits := 0 }

/-- The ledger before anything was recorded (R535; log entry 14). -/
def Ledger.reset : Ledger :=
  { ring := [], writeOff := 0, flushed := 0, nextSeq := 0, floor := 1, mounted := false, region := [], page := 0,
    bytes := 0, full := false, dropped := 0, lastFlush := 0, lastClear := 0, gen := 0, buckets := [], supp := [],
    suppressed := [], suppressedTotal := 0 }

/-- Empty tables (R192, R257). -/
def Tables.empty : Tables :=
  { vols := [], exts := [], groups := [], logs := [], dirs := [], mapPages := [], chunks := [], spans := [],
    repair := [], poison := [], scrub := [] }

/-- The ETU with no work (R226). -/
def Etu.reset : Etu := { inflight := [], packs := [], merges := [], merged := 0, abandoned := 0, nextTouch := 0 }

/-- An empty journal (R220). -/
def Journal.reset : Journal := { last := 0, ring := [], vault := [], toDrives := [], page := 0 }

/-- An empty checkpoint descriptor (R231). -/
def Ckpt.empty : Ckpt := { id := 0, covers := 0, epoch := 0, time := 0, slot := 0, drives := [] }

/-- Drives that hold nothing of an array (R228). -/
def ArrayRecord.empty : ArrayRecord := { images := [], segments := [], headersA := [], headersB := [], index := [] }

/-- A module that holds no array (R242, R254; log entry 8). -/
def Durability.reset : Durability :=
  { arrayId := zeros 16, mediaArray := zeros 16, epoch := 0, path := .empty, waitOver := false, ckpt0 := Ckpt.empty, ckpt1 := Ckpt.empty,
    nextCkpt := 1, lastCkptTime := 0, requested := false, taking := none, record := ArrayRecord.empty, headers := [],
    vaultCkpts := [], segSeq := 0, segsSinceCkpt := 0, lastSealed := 0, exposure := [], report := none, importState := .idle,
    scan := none, importDrives := 0, importMissing := 0 }

/-- Quarrymaster with no drives (R290). -/
def Quarry.reset : Quarry :=
  { reserved := 0, refusals := 0, allocFailures := 0, curveOut := List.replicate 7 0, shares := List.replicate 5 0,
    fastLimit := 0, migrating := false, dispatchers := [], residency := [], hand := 0, mapMisses := 0, queue := [],
    nextSince := 0, lastLowCkpt := none, tallies := [], decay := 0, tallyDropped := 0, windowStart := 0 }

/-- Cooper before its first test (R320; log entry 9). -/
def Cooper.reset : Cooper :=
  { fore := [], back := [], streak := 0, failed := false, katResult := 0, katLastPass := 0, reads := [], rebuilds := [], scrubFirst := [],
    scrubGroup := none, scrubBad := 0, scrubAsked := none, noReturn := [], katPending := false, verified := 0, decoded := 0, transient := 0, located := 0, unlocated := 0,
    unrecoverable := 0, scrubbed := 0, relocations := 0, rebuildsDone := 0, rebuildsAbandoned := 0,
    settsRebuilt := 0 }

/-- The twenty rows of the default recovery table (R346); a dash in Next is 0xFF. -/
def defaultRows : List RecRow :=
  [⟨0, 2, 0, 32, 6, 0x002, 0⟩, ⟨0, 3, 0, 4, 6, 0x002, 0⟩, ⟨0, 4, 0, 3, 3, 0x004, 0⟩, ⟨0, 1, 1, 0, 0, 0x00B, 50⟩,
   ⟨1, 0, 4, 0, 0, 0x040, 6000⟩, ⟨1, 10, 2, 0, 0, 0x090, 500⟩, ⟨2, 8, 4, 0, 0, 0x040, 6000⟩,
   ⟨2, 10, 3, 0, 0, 0x020, 500⟩, ⟨2, 9, 3, 0, 0, 0x020, 500⟩, ⟨3, 8, 4, 0, 0, 0x040, 6000⟩,
   ⟨3, 10, 5, 0, 0, 0x200, 0⟩, ⟨3, 9, 5, 0, 0, 0x200, 0⟩, ⟨3, 11, 0xFF, 0, 0, 0x021, 500⟩, ⟨4, 10, 0, 0, 0, 0, 0⟩,
   ⟨4, 1, 2, 1, 7, 0x093, 500⟩, ⟨6, 11, 0, 0, 0, 0x180, 0⟩, ⟨7, 11, 0xFF, 0, 0, 0x401, 0⟩,
   ⟨0xFF, 6, 5, 0, 0, 0x201, 0⟩, ⟨5, 7, 2, 0, 0, 0x010, 500⟩, ⟨0xFF, 12, 0xFF, 0, 0, 0x180, 0⟩]

/-- The default recovery table of a class (R346). -/
def defaultTable (cls : Nat) : RecTable :=
  { nstates := 8, cmdTimeout := if cls = 1 ∨ cls = 3 then 2000 else if cls = 2 ∨ cls = 4 then 20000 else 1000,
    adminTimeout := 5000, countWindow := 60, rows := defaultRows }

/-- The drive ports before any drive is found (R353; log entry 10). -/
def Drives.reset : Drives :=
  { drives := [], groupState := List.replicate 24 0, perst := List.range 24, tables := (List.range 8).map defaultTable,
    entries := List.replicate 8 0, ewRaised := 0, nextOp := 0, trace := [], silent := [], failedGuids := [] }

/-- Empty caches, all stacks healthy (R383). -/
def Cache.reset : Cache :=
  { stacksOk := 0xF#4, retiring := 0#4, corrected := [0, 0, 0, 0], uncorrected := [0, 0, 0, 0], ecc24 := [],
    slots := [], hand := 0, mode := 0, wtCause := 0, destaged := 0, stalls := 0,
    rc := [], rcHand := 0, rcHits := 0, rcMisses := 0 }

/-- An empty map cache (R374). -/
def MapCache.reset : MapCache :=
  { mode := 0, banksOk := 0xFFFF#16, lines := [], plru := [], fills := [], hits := 0, misses := 0, busy := false }

/-- No dump yet (R383). -/
def DumpState.reset : DumpState :=
  { count := 0, result := 0, bytes := 0, time := 0, energy := 0, restoreTime := 0, image := none, unplaced := [],
    tripTime := 0, sourceLost := false, dumped := false, marked := false }

/-- The vault as manufactured: every die live, 40 dump sets armed on each (R386, R387; log entry 11). -/
def Vault.reset : Vault :=
  { failed := false, failedDies := [], live := List.range 64,
    slots := (List.range 64).map (fun n => (n, (List.range 40).map (fun i => n * 4096 + i))),
    sets := [], blocks := [], logPages := [], logBlocks := [], openRows := [], stripes := [], nextStripe := 0,
    wseq := 0, flushSeq := 0, flushes := 0, snapshot := 0, pendingErase := [], erasing := [], writes := [], programs := [],
    collects := [], condemned := [], timeouts := [], retiredTimes := [], rearming := false, replace := false,
    mountTime := 0, mountPages := 0, folding := false, logCap := none, lastState := 0,
    lastArea := 0, lastRequest := none,
    health := { bytesWritten := 0, bytesRead := 0, retryReads := 0, uncorrectable := 0, programFails := 0,
                eraseFails := 0, rewrites := 0, tempMax := 0, tempHours := List.replicate 21 0, retiredSets := 0 } }

/-- A gauge slot that holds nothing (R443). -/
def NvSlot.empty : NvSlot :=
  { valid := false, seq := 0, written := 0, inserted := 0, capLearned := 0, learnTime := 0, learnCount := 0,
    learnActive := false, learnDue := false, rScale := List.replicate 8 1000, refTime := 0, refCells := [0, 0, 0, 0],
    refTemp := 0, est := 0, u0 := 0, soc := 0, bytes := [] }

/-- No pack, nothing learned (R446). -/
def Tallyman.reset : Tallyman :=
  { pack := { state := 0, mv := 0, cells := [0, 0, 0, 0], temp := 250, ntcFault := false, inserted := 0,
              latched := false },
    charger := { state := .noPack, fault := 0, before := .noPack, qualifyLong := false, extended := false,
                 restOpen := false, restSince := 0 },
    gauge := { running := false, e := 0, u0 := 5, u := 0, r := 0, refTime := 0, refCells := [0, 0, 0, 0],
               refTemp := 250, refE := 0, sinceTime := 0, insertEst := false, tableChanged := false, stale := false,
               reserveOk := false, rateSeen := 0, rateSince := 0, history := [], capLearned := 0, learnTime := 0, learnCount := 0,
               rScale := List.replicate 8 1000, energyLow := 0, lastUpdate := 0, dumpDebit := 0, offSince := none,
               offTime := 0 },
    learn := { state := .idle, active := false, due := false, lost := false, started := 0, step2 := 0, step3 := 0,
               onVoltage := false, refStart := 0, samples := [] },
    slot0 := NvSlot.empty, slot1 := NvSlot.empty, lastSlot := 0, slotDue := false }

/-- Locksmith as manufactured (R450 to R478; log entries 12, 13). -/
def Locksmith.reset : Locksmith :=
  { keys := [], metaKey := none, metaPending := none, store := [], storeMeta := none, storeSeq := 0,
    mkGen := ⟨0, 0, 0⟩, vskGen := ⟨0, 0, 0⟩, dmpkGen := ⟨0, 0, 0⟩, gcmRolls := 0, lanesOk := BitVec.allOnes 48,
    lanes := List.replicate 48 ⟨0, 0, 0⟩, jobs := 0, engineOk := true, drbg := 0, drbgRequests := 0, drbgSince := 0, drbgSeeds := 0, katResult := 0, katLastPass := 0,
    imageA := ⟨true, Config.factoryHeader false, Config.factoryBody false⟩,
    imageB := ⟨true, Config.factoryHeader true, Config.factoryBody true⟩,
    fuses := Config.factoryFuses, fwState := .idle, fwData := [], fwOwner := none, mrs := List.replicate 8 (zeros 64),
    quotes := [], bootCount := 1, unitsSince := [], recovery := false }

/-- The credential with which the module leaves the factory (R497). -/
def Cred.factory : Cred :=
  { slot := 0, role := 2, kind := 2, iter := Config.setupIter, salt := Config.setupSalt,
    name := fit 32 (ascii "setup"), k := Config.setupKey, setup := true, lastUsed := 0 }

/-- No sessions, the factory credential (R497, R512). -/
def Sessions.reset : Sessions :=
  { sessions := [], pending := [], nextId := 1, creds := [Cred.factory], fails := [], locked := [], opens := [],
    authFailures := 0, macInvalid := 0, rejected := 0, openDropped := 0, net := [] }

/-- Both paths without a link, the right with A (R505, R507). -/
def Paths.reset : Paths :=
  { a := ⟨.down, 0, true⟩, b := ⟨.down, 0, true⟩, right := false, failovers := 0, slaac := none, dhcp := none,
    source := 0, offset := 0, freq := 0, master := zeros 8, lockedSince := none }

/-- Every object at its default (R483). -/
def Dict.reset : Dict := { objs := [], nv := [], nvSeq := 0, driveNv := [], selects := [], last := none }

/-- No test run (R548). -/
def TestUnit.reset : TestUnit :=
  { maint := [], running := none, state := .idle, result := zeros 64, bad := [], out := [], patrolLast := 0, runs := 0,
    fails := 0 }

/-- The module right after a power-on reset. -/
def State.reset : State :=
  { pending := [], free := 0, pw := Power.reset, clk := Clock.reset, side := Sideband.reset,
    ports := ⟨Port.reset, Port.reset, Port.reset, Port.reset⟩, rings := [], ce := CmdEngine.reset,
    led := Ledger.reset, tabs := Tables.empty, etu := Etu.reset, jr := Journal.reset, dur := Durability.reset,
    qm := Quarry.reset, cooper := Cooper.reset, drv := Drives.reset, cache := Cache.reset, mc := MapCache.reset,
    dump := DumpState.reset, vault := Vault.reset, tally := Tallyman.reset, lock := Locksmith.reset,
    sess := Sessions.reset, paths := Paths.reset, dict := Dict.reset, test := TestUnit.reset }

end Sys2Proof.Machine
end

