-- ==== Sys2Proof/Machine/Settings.lean ====
section
/-! DEFINITION. The stored settings of the dictionary by name, each with the default its chapter's object table gives
(R17, R483). -/

namespace Sys2Proof.Machine

/-- The key under which an object's value is held: item × 2^24 + index × 256 + subindex. -/
def objKey (item index sub : Nat) : Nat := item * 2 ^ 24 + index * 256 + sub

/-- The number an object holds, or its default. -/
def objNum (s : State) (index sub dflt : Nat) : Nat :=
  match Tab.at? (objKey 0 index sub) s.dict.objs with
  | some (.num n) => n
  | _ => dflt

/-- The octets an object holds, or its default. -/
def objBytes (s : State) (index sub : Nat) (dflt : Bytes) : Bytes :=
  match Tab.at? (objKey 0 index sub) s.dict.objs with
  | some (.bytes b) => b
  | _ => dflt

/-- DRIVE_QDEPTH of a protocol (R353). -/
def cfgDriveQdepth (s : State) (p : Proto) : Nat :=
  match p with
  | .nvme => objNum s 0x4805 1 128
  | .sas => objNum s 0x4805 2 64
  | .sata => objNum s 0x4805 3 32

/-- AUTO_START (R71). -/
def cfgAutoStart (s : State) : Nat := objNum s 0x1100 0x05 1

/-- BOOT_NEXT (R71). -/
def cfgBootNext (s : State) : Nat := objNum s 0x1100 0x07 0

/-- DRIVE_WAIT (R71). -/
def cfgDriveWait (s : State) : Nat := objNum s 0x1100 0x08 60

/-- REFCLK_MODE of item `i`, counted from 0 (R71). -/
def cfgRefclkMode (s : State) (i : Nat) : Nat := objNum s 0x2010 (i + 1) 0

/-- PORT_ENABLE of item `i`, counted from 0 (R110). -/
def cfgPortEnable (s : State) (i : Nat) : Nat := objNum s 0x2000 (i + 1) 1

/-- MAX_RATE of item `i`, counted from 0 (R110). -/
def cfgMaxRate (s : State) (i : Nat) : Nat := objNum s 0x2003 (i + 1) 6

/-- MAX_WIDTH of item `i`, counted from 0 (R110). -/
def cfgMaxWidth (s : State) (i : Nat) : Nat := objNum s 0x2004 (i + 1) 16

/-- CTO_THRESHOLD of item `i`, counted from 0 (R110). -/
def cfgCtoThreshold (s : State) (i : Nat) : Nat := objNum s 0x2005 (i + 1) 8

/-- OUTSTANDING_LIMIT of item `i`, counted from 0 (R147). -/
def cfgOutstandingLimit (s : State) (i : Nat) : Nat := objNum s 0x2402 (i + 1) 65536

/-- ACCESS_TABLE of item `i`, counted from 0 (R182). -/
def cfgAccessTable (s : State) (i : Nat) : Bytes := objBytes s 0x2410 (i + 1) (zeros 1024)

/-- NOTICE_REPEAT (R182). -/
def cfgNoticeRepeat (s : State) : Nat := objNum s 0x2421 0x01 60

/-- FACES_MAX (R226). -/
def cfgFacesMax (s : State) : Nat := objNum s 0x3011 0x01 1024

/-- FACE_WINDOW (R226). -/
def cfgFaceWindow (s : State) : Nat := objNum s 0x3011 0x02 32

/-- FACE_HOLD (R226). -/
def cfgFaceHold (s : State) : Nat := objNum s 0x3011 0x03 2000

/-- LOG_HOLD (R226). -/
def cfgLogHold (s : State) : Nat := objNum s 0x3011 0x04 2000

/-- MERGE_LOG_FRACTION (R226). -/
def cfgMergeLogFraction (s : State) : Nat := objNum s 0x3012 0x01 25

/-- MERGES_MAX (R226). -/
def cfgMergesMax (s : State) : Nat := objNum s 0x3012 0x02 256

/-- MERGE_HOLD_MAX (R226). -/
def cfgMergeHoldMax (s : State) : Nat := objNum s 0x3012 0x03 4096

/-- JOURNAL_FLUSH (R226). -/
def cfgJournalFlush (s : State) : Nat := objNum s 0x3013 0x02 1000

/-- DISCARD_PARTIAL (R226). -/
def cfgDiscardPartial (s : State) : Nat := objNum s 0x3014 0x01 1

/-- CKPT_INTERVAL (R254). -/
def cfgCkptInterval (s : State) : Nat := objNum s 0x3021 0x01 300

/-- DRIVE_JOURNAL_FLUSH (R254). -/
def cfgDriveJournalFlush (s : State) : Nat := objNum s 0x3022 0x01 10

/-- AUTO_ACCEPT_LOSS (R254). -/
def cfgAutoAcceptLoss (s : State) : Nat := objNum s 0x3024 0x05 0

/-- IMPORT_ARRAY (R254). -/
def cfgImportArray (s : State) : Bytes := objBytes s 0x3025 0x03 (zeros 16)

/-- MERGE_RESERVE_PM (R290). -/
def cfgMergeReservePm (s : State) : Nat := objNum s 0x3801 0x04 20

/-- REBUILD_RESERVE_DRIVES (R290). -/
def cfgRebuildReserveDrives (s : State) : Nat := objNum s 0x3801 0x05 1

/-- DEALLOC_ON_RECLAIM (R290). -/
def cfgDeallocOnReclaim (s : State) : Nat := objNum s 0x3801 0x07 1

/-- WEAR_STEP (R290). -/
def cfgWearStep (s : State) : Nat := objNum s 0x3804 0x01 2

/-- PAIR_SLACK (R290). -/
def cfgPairSlack (s : State) : Nat := objNum s 0x3804 0x02 4

/-- MIGRATE_HYST_PM (R290). -/
def cfgMigrateHystPm (s : State) : Nat := objNum s 0x3805 0x04 20

/-- MAP_PREFETCH (R290). -/
def cfgMapPrefetch (s : State) : Nat := objNum s 0x3806 0x04 1

/-- PORT_WEIGHT of item `i`, counted from 0 (R290). -/
def cfgPortWeight (s : State) (i : Nat) : Nat := objNum s 0x3807 (i + 1) 16

/-- CLASS_WEIGHT of item `i`, counted from 0 (R290). -/
def cfgClassWeight (s : State) (i : Nat) : Nat := objNum s 0x3808 (i + 1) 16

/-- DESTAGE_WEIGHT (R290). -/
def cfgDestageWeight (s : State) : Nat := objNum s 0x3809 0x01 16

/-- BG_CAP (R290). -/
def cfgBgCap (s : State) : Nat := objNum s 0x3809 0x02 8000

/-- REBUILD_FULL (R290). -/
def cfgRebuildFull (s : State) : Nat := objNum s 0x3809 0x03 0

/-- FAST_OP_US (R290). -/
def cfgFastOpUs (s : State) : Nat := objNum s 0x3809 0x04 10

/-- FAST_RATE (R290). -/
def cfgFastRate (s : State) : Nat := objNum s 0x3809 0x05 6000

/-- DENSE_OP_US (R290). -/
def cfgDenseOpUs (s : State) : Nat := objNum s 0x3809 0x06 20

/-- DENSE_RATE (R290). -/
def cfgDenseRate (s : State) : Nat := objNum s 0x3809 0x07 3000

/-- CURVE of item `i`, counted from 0 (R290). -/
def cfgCurve (s : State) (i : Nat) : Bytes := objBytes s 0x380A (i + 1) ([])

/-- REBUILDS_MAX (R290). -/
def cfgRebuildsMax (s : State) : Nat := objNum s 0x380C 0x04 4096

/-- TALLY_HALF_LIFE (R290). -/
def cfgTallyHalfLife (s : State) : Nat := objNum s 0x380D 0x01 600

/-- KAT_INTERVAL (R320). -/
def cfgKatInterval (s : State) : Nat := objNum s 0x4001 0x04 86400

/-- SCRUB_ENABLE (R320). -/
def cfgScrubEnable (s : State) : Nat := objNum s 0x4003 0x01 1

/-- SCRUB_PERIOD (R320). -/
def cfgScrubPeriod (s : State) : Nat := objNum s 0x4003 0x02 672

/-- RELOCATE_THRESHOLD (R320). -/
def cfgRelocateThreshold (s : State) : Nat := objNum s 0x4004 0x01 64

/-- WEIGHT_RECOVERED (R320). -/
def cfgWeightRecovered (s : State) : Nat := objNum s 0x4004 0x02 1

/-- WEIGHT_UNRECOVERED (R320). -/
def cfgWeightUnrecovered (s : State) : Nat := objNum s 0x4004 0x03 16

/-- WEIGHT_MISMATCH (R320). -/
def cfgWeightMismatch (s : State) : Nat := objNum s 0x4004 0x04 64

/-- ERR_DECAY (R320). -/
def cfgErrDecay (s : State) : Nat := objNum s 0x4004 0x05 168

/-- REBUILD_VERIFY (R320). -/
def cfgRebuildVerify (s : State) : Nat := objNum s 0x4006 0x01 0

/-- GROUP_CFG of item `i`, counted from 0 (R353). -/
def cfgGroupCfg (s : State) (i : Nat) : Nat := objNum s 0x4800 (i + 1) 313

/-- AUTO_ADOPT (R353). -/
def cfgAutoAdopt (s : State) : Nat := objNum s 0x4804 0x01 1

/-- DRIVE_LOSS_WAIT (R353). -/
def cfgDriveLossWait (s : State) : Nat := objNum s 0x4804 0x02 30

/-- HEALTH_POLL (R353). -/
def cfgHealthPoll (s : State) : Nat := objNum s 0x4804 0x03 60

/-- RECOVERY_TABLE of item `i`, counted from 0 (R353). -/
def cfgRecoveryTable (s : State) (i : Nat) : Bytes := objBytes s 0x4810 (i + 1) ([])

/-- EW_WEAR (R353). -/
def cfgEwWear (s : State) : Nat := objNum s 0x4820 0x01 90

/-- EW_TEMP (R353). -/
def cfgEwTemp (s : State) : Nat := objNum s 0x4820 0x02 70

/-- EW_RELOCATE (R353). -/
def cfgEwRelocate (s : State) : Nat := objNum s 0x4820 0x03 16

/-- EVACUATE_PM (R353). -/
def cfgEvacuatePm (s : State) : Nat := objNum s 0x4820 0x04 50

/-- ECC_RETIRE_THRESHOLD (R383). -/
def cfgEccRetireThreshold (s : State) : Nat := objNum s 0x5003 0x01 100000

/-- CACHE_MODE (R383). -/
def cfgCacheMode (s : State) : Nat := objNum s 0x5010 0x01 0

/-- DIRTY_MAX (R383). -/
def cfgDirtyMax (s : State) : Nat := objNum s 0x5010 0x04 65536

/-- ADMIT_CLASS (R383). -/
def cfgAdmitClass (s : State) : Nat := objNum s 0x5011 0x01 2

/-- SLC_CURVE (R418). -/
def cfgSlcCurve (s : State) : Bytes := objBytes s 0x5802 0x03 ([])

/-- REWRITE_BITS (R418). -/
def cfgRewriteBits (s : State) : Nat := objNum s 0x5806 0x01 72

/-- REFRESH_DAYS (R418). -/
def cfgRefreshDays (s : State) : Nat := objNum s 0x5806 0x02 30

/-- REWRITE_RETIRE (R418). -/
def cfgRewriteRetire (s : State) : Nat := objNum s 0x5806 0x03 3

/-- CHARGE_ENABLE (R446). -/
def cfgChargeEnable (s : State) : Nat := objNum s 0x6002 0x03 1

/-- REST_PHASE (R446). -/
def cfgRestPhase (s : State) : Nat := objNum s 0x6002 0x04 10800

/-- REPORT_MODE (R446). -/
def cfgReportMode (s : State) : Nat := objNum s 0x6003 0x08 0

/-- CONVERGE_SLEW (R446). -/
def cfgConvergeSlew (s : State) : Nat := objNum s 0x6003 0x09 100

/-- LEARN_INTERVAL (R446). -/
def cfgLearnInterval (s : State) : Nat := objNum s 0x6004 0x07 90

/-- LEARN_AUTO (R446). -/
def cfgLearnAuto (s : State) : Nat := objNum s 0x6004 0x08 0

/-- LEARN_PHASE (R446). -/
def cfgLearnPhase (s : State) : Nat := objNum s 0x6004 0x09 14400

/-- OCV_TABLE (R446). -/
def cfgOcvTable (s : State) : Bytes := objBytes s 0x6006 0x01 ([])

/-- RES_TABLE (R446). -/
def cfgResTable (s : State) : Bytes := objBytes s 0x6006 0x02 ([])

/-- XTS_LIMIT_LOG2 (R478). -/
def cfgXtsLimitLog2 (s : State) : Nat := objNum s 0x6802 0x01 44

/-- LOCK_KAT_INTERVAL (R478). -/
def cfgLockKatInterval (s : State) : Nat := objNum s 0x6805 0x03 86400

/-- MODULE_LABEL (R512). -/
def cfgModuleLabel (s : State) : Bytes := objBytes s 0x1000 0x07 ([])

/-- PTP_ENABLE (R512). -/
def cfgPtpEnable (s : State) : Nat := objNum s 0x1010 0x04 0

/-- PTP_DOMAIN (R512). -/
def cfgPtpDomain (s : State) : Nat := objNum s 0x1010 0x05 0

/-- PTP_TRANSPORT (R512). -/
def cfgPtpTransport (s : State) : Nat := objNum s 0x1010 0x06 0

/-- PTP_STEP_THRESHOLD (R512). -/
def cfgPtpStepThreshold (s : State) : Nat := objNum s 0x1010 0x07 1000000

/-- SESSION_LIFETIME (R512). -/
def cfgSessionLifetime (s : State) : Nat := objNum s 0x1020 0x02 86400

/-- SESSION_IDLE (R512). -/
def cfgSessionIdle (s : State) : Nat := objNum s 0x1020 0x03 900

/-- DECOY_ITER (R512). -/
def cfgDecoyIter (s : State) : Nat := objNum s 0x1030 0x05 210000

/-- PATH_ENABLE of item `i`, counted from 0 (R512). -/
def cfgPathEnable (s : State) (i : Nat) : Nat := objNum s 0x7002 (i + 1) 1

/-- PATH_RATE_MAX of item `i`, counted from 0 (R512). -/
def cfgPathRateMax (s : State) (i : Nat) : Nat := objNum s 0x7003 (i + 1) 4

/-- ADDR_MODE (R512). -/
def cfgAddrMode (s : State) : Nat := objNum s 0x7010 0x02 1

/-- IPV6_ADDR (R512). -/
def cfgIpv6Addr (s : State) : Bytes := objBytes s 0x7010 0x03 (zeros 16)

/-- IPV6_PREFIX_LEN (R512). -/
def cfgIpv6PrefixLen (s : State) : Nat := objNum s 0x7010 0x04 64

/-- IPV6_GATEWAY (R512). -/
def cfgIpv6Gateway (s : State) : Bytes := objBytes s 0x7010 0x05 (zeros 16)

/-- IPV4_ADDR (R512). -/
def cfgIpv4Addr (s : State) : Bytes := objBytes s 0x7010 0x06 (zeros 4)

/-- IPV4_PREFIX_LEN (R512). -/
def cfgIpv4PrefixLen (s : State) : Nat := objNum s 0x7010 0x07 24

/-- IPV4_GATEWAY (R512). -/
def cfgIpv4Gateway (s : State) : Bytes := objBytes s 0x7010 0x08 (zeros 4)

/-- MTU (R512). -/
def cfgMtu (s : State) : Nat := objNum s 0x7010 0x09 1500

/-- LOCATE (R512). -/
def cfgLocate (s : State) : Nat := objNum s 0x7030 0x01 0

/-- MB_ANON_READ of item `i`, counted from 0 (R512). -/
def cfgMbAnonRead (s : State) (i : Nat) : Nat := objNum s 0x7040 (i + 1) 1

/-- LEDGER_FLUSH (R535). -/
def cfgLedgerFlush (s : State) : Nat := objNum s 0x7801 0x01 10000

/-- HBM_TEST_NEXT_START (R548). -/
def cfgHbmTestNextStart (s : State) : Nat := objNum s 0x7C02 0x01 0

/-- PATROL_INTERVAL (R548). -/
def cfgPatrolInterval (s : State) : Nat := objNum s 0x7C02 0x02 24

end Sys2Proof.Machine
end

