-- ==== Sys2Proof/Machine/Ops.lean ====
section
/-! DEFINITION. The named operations over the state that many commands share: access to ports, rings and tables, free
values and random octets, recording an event, queueing a notice. -/

namespace Sys2Proof.Machine

/-! ### Access -/

/-- Port `p` of the four. -/
def Ports.get (ps : Ports) (p : PortId) : Port :=
  if p = 0 then ps.h0 else if p = 1 then ps.h1 else if p = 2 then ps.h2 else ps.h3

/-- The four ports with port `p` replaced. -/
def Ports.set (ps : Ports) (p : PortId) (v : Port) : Ports :=
  if p = 0 then { ps with h0 := v } else if p = 1 then { ps with h1 := v }
  else if p = 2 then { ps with h2 := v } else { ps with h3 := v }

/-- The state with port `p` changed by `f`. -/
def modPort (p : PortId) (f : Port → Port) (s : State) : State :=
  { s with ports := s.ports.set p (f (s.ports.get p)) }

/-- The four port numbers. -/
def allPorts : List PortId := [0, 1, 2, 3]

/-- The place of ring `r` of port `p` in the table of rings. -/
def ringKey (p : PortId) (r : Nat) : Nat := p.val * 256 + r

/-- Ring `r` of port `p` (R113). -/
def getRing (s : State) (p : PortId) (r : Nat) : Ring := Tab.atD s.rings (ringKey p r) Ring.reset

/-- The state with ring `r` of port `p` replaced; a ring at its defaults is not listed. -/
def setRing (p : PortId) (r : Nat) (v : Ring) (s : State) : State :=
  { s with rings := Tab.putD s.rings (ringKey p r) v Ring.reset }

/-- The state with ring `r` of port `p` changed by `f`. -/
def modRing (p : PortId) (r : Nat) (f : Ring → Ring) (s : State) : State := setRing p r (f (getRing s p r)) s

/-- The numbers of the rings of a port that are not at their defaults, rising. -/
def ringsOf (s : State) (p : PortId) : List Nat :=
  ((Tab.keys s.rings).filter (fun k => k / 256 == p.val)).map (· % 256)

/-- Volume `v`, if it is defined (R185). -/
def getVol (s : State) (v : Nat) : Option Volume := Tab.at? v s.tabs.vols

/-- The state with the tables changed by `f`. -/
def modTabs (f : Tables → Tables) (s : State) : State := { s with tabs := f s.tabs }

/-- The state with volume `v` changed by `f`. -/
def modVol (v : Nat) (f : Volume → Volume) (s : State) : State :=
  modTabs (fun t => { t with vols := Tab.mod t.vols v f }) s

/-- Drive `d`, if its number is not NONE (R335). -/
def getDrive (s : State) (d : Nat) : Option Drive := Tab.at? d s.drv.drives

/-- The state with drive `d` changed by `f`. -/
def modDrive (d : Nat) (f : Drive → Drive) (s : State) : State :=
  { s with drv := { s.drv with drives := Tab.mod s.drv.drives d f } }

/-- Group descriptor `g`, if it is not free (R193). -/
def getGroup (s : State) (g : Nat) : Option Group := Tab.at? g s.tabs.groups

/-- The state with group descriptor `g` changed by `f`. -/
def modGroup (g : Nat) (f : Group → Group) (s : State) : State :=
  modTabs (fun t => { t with groups := Tab.mod t.groups g f }) s

/-! ### Power state -/

/-- SERVICE, THROTTLE or LEARN (R41, R57). -/
def serving (s : State) : Bool :=
  s.pw.state == .service || s.pw.state == .throttle || s.pw.state == .learn

/-- Do destage and the data path behind it run: in service, and in a START that restores an image in rounds (R382)? -/
def dataRuns (s : State) : Bool :=
  serving s || (s.pw.state == .start && s.pw.startStep == 12 && !s.dump.unplaced.isEmpty)

/-- Do the rings run: in service, and in START from its step 7 on (R66, R67)? -/
def ringsRun (s : State) : Bool := serving s || (s.pw.state == .start && decide (7 ≤ s.pw.startStep))

/-- The code of a power state (R57). -/
def PState.code : PState → Nat
  | .off => 0 | .standby => 1 | .start => 2 | .service => 3 | .throttle => 4 | .learn => 5 | .dump => 6

/-- Does the standby domain run whole: core 0, the dictionary, charger and gauge (R57)? -/
def awake (s : State) : Bool := s.pw.state != .off && s.pw.state != .dump

/-! ### Free values and random octets -/

/-- A value the spec leaves open, and the state with the counter advanced (log entry 1). -/
def drawNat (s : State) : Nat × State := (Config.freeNat s.free, { s with free := s.free + 1 })

/-- `n` requests to the DRBG, which is reseeded every 2^20 (R467). -/
def drbgUse (n : Nat) (l : Locksmith) : Locksmith :=
  { l with
    drbgRequests := l.drbgRequests + n, drbgSince := (l.drbgSince + n) % 2 ^ 20
    drbgSeeds := l.drbgSeeds + (l.drbgSince + n) / 2 ^ 20 }

/-- The DRBG is instantiated from the entropy source (R467). -/
def drbgStart (l : Locksmith) : Locksmith :=
  drbgUse 1 { l with drbg := 1, drbgSince := 0, drbgSeeds := l.drbgSeeds + 1 }

/-- `n` octets from the DRBG (R467). -/
def drbgBytes (n : Nat) (s : State) : Bytes × State :=
  ((List.range n).map (Config.drbgByte s.lock.drbgRequests),
   { s with lock := drbgUse 1 s.lock })

/-! ### Notices (R140, R532) -/

/-- The length of a port's notice queue at most (R140). -/
def noticeMax : Nat := 1024

/-- A notice joins a port's queue, or is dropped and counted when the queue is full (R140). -/
def queueNotice (n : Notice) (q : Port) : Port :=
  if q.notices.length < noticeMax then { q with notices := q.notices ++ [n] }
  else { q with noticesDropped := q.noticesDropped + 1, lost := satAdd 0xFFFFFFFF q.lost 1 }

/-- The access code of volume `v` in a port's access table (R167). -/
def accessCode (s : State) (p : PortId) (v : Nat) : Nat :=
  bitsOf ((cfgAccessTable s p.val).getD (v / 4) 0).toNat (2 * (v % 4) + 1) (2 * (v % 4))

/-- Read access: code 0b01 or 0b11 (R167). -/
def mayRead (s : State) (p : PortId) (v : Nat) : Bool := accessCode s p v == 1 || accessCode s p v == 3

/-- Read-write access: code 0b11 (R167). -/
def mayWrite (s : State) (p : PortId) (v : Nat) : Bool := accessCode s p v == 3

/-- To which ports an event code's notice goes (R532, the Notice column of R534). -/
inductive NoticeKind where
  | none | port | volume | all
  deriving DecidableEq, Repr

/-- The Notice column of R534. -/
def noticeKind (code : Nat) : NoticeKind :=
  if code ∈ [0x2104] then .port
  else if code ∈ [0x3201, 0x3203, 0x4302, 0x4303] then .volume
  else if code ∈ [0x1003, 0x1004, 0x1005, 0x2101, 0x3202, 0x4305, 0x5401, 0x6501, 0x7601, 0x7603, 0x8701, 0x9801,
    0x9803, 0xA905, 0xBA01, 0xCB01, 0xCB02, 0xDC01] then .all
  else .none

/-- The ports that receive a notice of an event (R532). -/
def noticePorts (s : State) (code subject : Nat) : List PortId :=
  match noticeKind code with
  | .none => []
  | .port => allPorts.filter (fun p => p.val == subject % 4)
  | .volume => allPorts.filter (fun p => mayRead s p (subject % 4096))
  | .all => allPorts

/-- The notice of a record joins the queue of every port that receives it (R532). -/
def sendNotices (n : Notice) (s : State) : State :=
  (noticePorts s n.code n.subject).foldl (fun s p => modPort p (queueNotice n) s) s

/-! ### Recording an event (R516 to R527) -/

/-- One token in the units of `Bucket.level`. -/
def tokenUnit : Nat := 60000000000

/-- The size of the SRAM ring (R521). -/
def ledRingSize : Nat := 8 * 2 ^ 20

/-- Record bytes of a ledger page (R523). -/
def ledPageBytes : Nat := 65408

/-- Pages of the ledger region (R523). -/
def ledPages : Nat := 16384

/-- LIMIT_RATE of a code (R526). -/
def limitRate (s : State) (code : Nat) : Nat :=
  match Tab.at? (objKey code 0x7803 2) s.dict.objs with
  | some (.num n) => n
  | _ => 60

/-- LIMIT_BURST of a code (R526). -/
def limitBurst (s : State) (code : Nat) : Nat :=
  match Tab.at? (objKey code 0x7803 3) s.dict.objs with
  | some (.num n) => n
  | _ => 64

/-- The level of a code's bucket now (R526): full before its first event (log entry 16). -/
def bucketLevel (s : State) (code : Nat) : Nat :=
  let cap := limitBurst s code * tokenUnit
  match Tab.at? code s.led.buckets with
  | some b => min cap (b.level + limitRate s code * (s.clk.uptime - b.time))
  | none => cap

/-- Events that are never suppressed (R527). -/
def neverSuppressed (code sev : Nat) : Bool := sev == 2 || code / 4096 == 6

/-- LEN of a record (R516): the fixed fields and DETAIL, padded to 16 bytes, at least 48. -/
def ledLen (detail : Bytes) : Nat := max 48 (roundUp (40 + detail.length) 16)

/-- The layout of a record (R516), with the CRC given. -/
def ledBytesCrc (r : LedRec) (crc : Nat) : Bytes :=
  fit (ledLen r.detail)
    (leBytes 2 (ledLen r.detail) ++ leBytes 2 r.code ++ leBytes 4 crc ++ leBytes 8 r.seq ++ leBytes 8 r.time ++
      leBytes 1 r.sev ++ leBytes 1 (packBits [r.early, r.notice, r.truncated]) ++ leBytes 2 r.supp ++
      leBytes 2 r.detail.length ++ [0, 0] ++ leBytes 8 r.subject ++ r.detail)

/-- The layout of a record with its CRC (R516). -/
def ledBytes (r : LedRec) : Bytes := ledBytesCrc r (crc32c (ledBytesCrc r 0))

/-- Where a record of `len` bytes goes in the SRAM ring: at the write offset, or at 0 behind a PAD (R517, R521). -/
def ledPlace (l : Ledger) (len : Nat) : Nat := if l.writeOff + len ≤ ledRingSize then l.writeOff else 0

/-- Would a record at `off` cover any byte of the record at `o`, or the PAD before it cover one (R517)? -/
def ledCovers (l : Ledger) (off len : Nat) (e : Nat × LedRec) : Bool :=
  let n := ledLen e.2.detail
  (e.1 < off + len && off < e.1 + n) || (off == 0 && l.writeOff != 0 && l.writeOff ≤ e.1)

/-- Is a record of the ring in the vault region too? -/
def ledFlushed (l : Ledger) (r : LedRec) : Bool := r.seq != 0 && r.seq ≤ l.flushed

/-- A record enters the SRAM ring at the place of R517 and R521; the flushed records it covers go. -/
def ledPut (r : LedRec) (l : Ledger) : Ledger :=
  let len := ledLen r.detail
  let off := ledPlace l len
  { l with
    ring := l.ring.filter (fun e => !ledCovers l off len e) ++ [(off, r)]
    writeOff := if off + len = ledRingSize then 0 else off + len
    gen := l.gen + 2 }

/-- May the ring take a record of `len` bytes without overwriting an unflushed one (R525)? -/
def ledRoom (l : Ledger) (len : Nat) : Bool :=
  l.ring.all (fun e => ledFlushed l e.2 || !ledCovers l (ledPlace l len) len e)

/-- Does the next record of `len` bytes fit the region (R524)? -/
def ledFits (l : Ledger) (len : Nat) : Bool := l.bytes + len ≤ ledPageBytes || l.page + 1 < ledPages

/-- The region's place after a record of `len` bytes (R523: a record never spans two pages). -/
def ledAdvance (len : Nat) (l : Ledger) : Ledger :=
  if l.bytes + len ≤ ledPageBytes then { l with bytes := l.bytes + len }
  else { l with page := l.page + 1, bytes := len }

/-- The region's place found at mount: the last page that holds records and the record bytes in it (R523). -/
def ledRegionPlace (region : List (Nat × LedRec)) : Nat × Nat :=
  match region.getLast? with
  | none => (0, 0)
  | some e => (e.1, sumNat ((region.filter (fun x => x.1 == e.1)).map (fun x => ledLen x.2.detail)))

/-- The next SEQ, with the sequence floor kept above it (R519). -/
def takeSeq (l : Ledger) : Nat × Ledger :=
  let n := l.nextSeq
  let f := if l.floor < n + 1 + 2 ^ 31 then l.floor + 2 ^ 32 else l.floor
  (n, { l with nextSeq := n + 1, floor := f })

/-- What becomes of a record that has its SEQ (R524, R525): stored, or dropped and counted. The Bool says that this
drop made the region full for the first time. -/
def ledStore (vaultFailed : Bool) (r : LedRec) (l : Ledger) : Ledger × Bool :=
  let len := ledLen r.detail
  if l.full then ({ l with dropped := l.dropped + 1 }, false)
  else if !vaultFailed && !ledFits l len then ({ l with full := true, dropped := l.dropped + 1 }, true)
  else if !ledRoom l len then
    if vaultFailed then ({ l with full := true, dropped := l.dropped + 1 }, true)
    else ({ l with dropped := l.dropped + 1 }, false)
  else (ledPut r (if vaultFailed then l else ledAdvance len l), false)

/-- The record of the LEDGER_FULL event: dropped itself, its notice sent (R524). -/
def ledFullNotice (s : State) : State :=
  let d := leBytes 8 s.led.dropped
  let (q, l) := takeSeq s.led
  sendNotices { seq := q, time := s.clk.now, code := 0xCB02, sev := 2, subject := 0, detail := d }
    { s with led := { l with dropped := l.dropped + 1 } }

/-- NOTICE of LFLAGS (R516): does some port that receives the event's notice have room in its queue (R140)? -/
def noticeQueued (s : State) (code subject : Nat) : Bool :=
  (noticePorts s code subject).any (fun p => decide ((s.ports.get p).notices.length < noticeMax))

/-- A record that passed its rate limit takes its SEQ, is stored or dropped, and yields its notices (R519, R524,
R532). -/
def ledSequence (r : LedRec) (s : State) : State :=
  let (q, l) := takeSeq s.led
  let r := { r with seq := q, notice := noticeQueued s r.code r.subject }
  let (l, first) := ledStore s.vault.failed r l
  let s := sendNotices { seq := q, time := r.time, code := r.code, sev := r.sev, subject := r.subject,
                         detail := r.detail } { s with led := l }
  if first then ledFullNotice s else s

/-- The record of an event (R516, R520, R526): with the pending SUPP of its code. -/
def ledRecord (code sev subject : Nat) (detail : Bytes) (s : State) : LedRec :=
  { seq := 0, time := s.clk.now, code := code, sev := sev, early := s.clk.early,
    notice := false, truncated := decide (984 < detail.length),
    supp := (Tab.at? code s.led.supp).getD 0, subject := subject, detail := detail.take 984 }

/-- An event that passed its rate limit: recorded at once when the vault is mounted, otherwise kept in the ring without
a SEQ until it is (R521). -/
def ledPass (code sev subject : Nat) (detail : Bytes) (s : State) : State :=
  let r := ledRecord code sev subject detail s
  let s := { s with led := { s.led with supp := Tab.putD s.led.supp code 0 0 } }
  if s.led.mounted then ledSequence r s
  else if ledRoom s.led (ledLen r.detail) then { s with led := ledPut r s.led }
  else { s with led := { s.led with dropped := s.led.dropped + 1 } }

/-- An event without a token is suppressed (R526). -/
def ledSuppress (code : Nat) (l : Ledger) : Ledger :=
  { l with
    supp := Tab.put code (satAdd 65535 ((Tab.at? code l.supp).getD 0) 1) l.supp
    suppressed := Tab.put code (satAdd 0xFFFFFFFF ((Tab.at? code l.suppressed).getD 0) 1) l.suppressed
    suppressedTotal := l.suppressedTotal + 1 }

/-- An event occurs (R516 to R527). -/
def event (code sev subject : Nat) (detail : Bytes) (s : State) : State :=
  let rate := limitRate s code
  let level := bucketLevel s code
  let token := tokenUnit ≤ level && (rate != 0 || neverSuppressed code sev)
  let level' := if token then level - tokenUnit else level
  let s := { s with led := { s.led with buckets := Tab.put code ⟨level', s.clk.uptime⟩ s.led.buckets } }
  if token || neverSuppressed code sev || rate == 65535 then ledPass code sev subject detail s
  else { s with led := ledSuppress code s.led }

/-- The module moves to a power state, and the change is recorded (R58, R534). -/
def setPower (st : PState) (s : State) : State :=
  if s.pw.state = st then s
  else
    event 0x1002 0 0 (leBytes 1 s.pw.state.code ++ leBytes 1 st.code) { s with pw := { s.pw with state := st } }

/-- The slots that hold dirty data: DIRTY or DESTAGING (R383). -/
def dirtySlots (s : State) : List (Nat × Slot) :=
  s.cache.slots.filter (fun e => e.2.state == .dirty || e.2.state == .destaging)

/-- At mount the records that waited take their SEQ in order and their notices are queued (R521). -/
def ledMount (s : State) : State :=
  let waiting := (s.led.ring.filter (fun e => e.2.seq == 0)).map (·.2)
  let next := max s.led.floor (s.led.region.foldl (fun m e => max m (e.2.seq + 1)) 0)
  let place := ledRegionPlace s.led.region
  let l := { s.led with ring := [], writeOff := 0, page := place.1, bytes := place.2, flushed := next - 1,
                        nextSeq := next, mounted := true,
                        floor := if s.led.floor < next + 2 ^ 31 then s.led.floor + 2 ^ 32 else s.led.floor }
  waiting.foldl (fun s r => ledSequence r s) { s with led := l }

end Sys2Proof.Machine
end

