-- ==== Sys2Proof/Machine/Flags.lean ====
section
/-! DEFINITION. What the state implies: STATUS, the causes of FAULT, DEGRADED_SET, the rate index, the state of the dump
area and of the vault, the causes of write-through, the members that volumes reach; and `settle`, which every command
ends with: it carries out what a change of these brings with it. -/

namespace Sys2Proof.Machine

/-! ### Sensors (R49) -/

/-- The place of a sensor in `Sideband.readings` and `Sideband.levels`. -/
def sensorIndex : Sensor → Nat
  | .inlet => 0 | .die => 1 | .hbm0 => 2 | .hbm1 => 3 | .hbm2 => 4 | .hbm3 => 5 | .vault => 6 | .regulator => 7

/-- LEVEL of event 0x1003 (R534). -/
def levelCode : Level → Nat
  | .none => 0 | .throttle => 1 | .critical => 2 | .trip => 3

/-- The inlet limit of the ordering code at up to 950 m (R48). -/
def inletLimit : Int := if Config.isE then 55 else 40

/-- The threshold of a sensor for a level, where R49 gives one. -/
def threshold : Sensor → Level → Option Int
  | .inlet, .critical => some (inletLimit + 5)
  | .die, .throttle => some 100
  | .die, .critical => some 110
  | .die, .trip => some 118
  | .hbm0, .throttle | .hbm1, .throttle | .hbm2, .throttle | .hbm3, .throttle => some 85
  | .hbm0, .critical | .hbm1, .critical | .hbm2, .critical | .hbm3, .critical => some 95
  | .hbm0, .trip | .hbm1, .trip | .hbm2, .trip | .hbm3, .trip => some 105
  | .vault, .throttle => some 70
  | .vault, .critical => some 85
  | .regulator, .throttle => some 110
  | .regulator, .critical => some 120
  | .regulator, .trip => some 125
  | _, _ => none

/-- The sensors on the module, all but the inlet (R40, R49). -/
def moduleSensors : List Sensor := [.die, .hbm0, .hbm1, .hbm2, .hbm3, .vault, .regulator]

/-- The last reading of a sensor. -/
def reading (s : State) (x : Sensor) : Int := s.side.readings.getD (sensorIndex x) 0

/-- The level at which a sensor stands, withdrawn 5 °C below its threshold (R49). -/
def levelOf (s : State) (x : Sensor) : Level := s.side.levels.getD (sensorIndex x) .none

/-- Does a sensor on the module stand at its throttle level or above (R49)? -/
def sensorsHot (s : State) : Bool := moduleSensors.any (fun x => levelOf s x != .none)

/-- SERVICE gives way to THROTTLE, its input capped (R49, R58). -/
def throttled (s : State) : State :=
  if s.pw.state = .service then setPower .throttle { s with pw := { s.pw with capped := true } } else s

/-- THROTTLE is entered while a sensor stands at its throttle level (R49, R58). -/
def throttleNow (s : State) : State := if sensorsHot s then throttled s else s

/-- SERVICE is entered, and left again at once for THROTTLE where a sensor asks for it (R58, R442). -/
def enterService (s : State) : State := throttleNow (setPower .service s)

/-- Is a reading at or above the sensor's threshold for a level? -/
def atOrAbove (s : State) (x : Sensor) (l : Level) : Bool :=
  match threshold x l with
  | some t => decide (t ≤ reading s x)
  | none => false

/-- STATUS.THERMAL: a sensor at or above its throttle threshold (R41). -/
def thermalWarm (s : State) : Bool := moduleSensors.any (fun x => atOrAbove s x .throttle)

/-- A sensor on the module stands at its critical level (R49). -/
def thermalCritical (s : State) : Bool :=
  moduleSensors.any (fun x => levelOf s x == .critical || levelOf s x == .trip)

/-- Every sensor reads below its critical threshold: what ends a thermal lockout (R58). -/
def belowCritical (s : State) : Bool :=
  !atOrAbove s .inlet .critical && moduleSensors.all (fun x => !atOrAbove s x .critical)

/-! ### MAINTENANCE (R537, R538) -/

/-- Is an interface in MAINTENANCE? Codes are those of INTERFACE (R540). -/
def inMaint (s : State) (i : Nat) : Bool := decide (i ∈ s.test.maint)

/-- A drive group in MAINTENANCE carries no drive commands and enumerates nothing (R538). -/
def groupHeld (s : State) (g : Nat) : Bool := inMaint s (5 + g)

/-- While a vault channel is in MAINTENANCE every store operation waits (R538). -/
def vaultHeld (s : State) : Bool := s.test.maint.any (fun i => decide (0x1D ≤ i) && decide (i ≤ 0x24))

/-! ### Locksmith (R70, R468, R470) -/

/-- All Locksmith lanes failed, or the module runs as if they had (R468, R470). -/
def cipherLost (s : State) : Bool := s.lock.lanesOk == 0 || s.lock.drbg == 2 || !s.lock.engineOk

/-! ### Vault (R386, R390, R413) -/

/-- The store sets of one die as manufactured, at least (R386; log entry 11). -/
def storeSetsPerDie : Nat := 2646

/-- The number of the first store set of die `n`. -/
def firstStoreSet (n : Nat) : Nat := n * 4096 + 44

/-- Is a set number one of a store set as manufactured? -/
def isStoreSet (i : Nat) : Bool := decide (44 ≤ i % 4096) && decide (i % 4096 < 44 + storeSetsPerDie)

/-- The state of a set (R398): a store set that the table does not list is ERASED. -/
def setState (s : State) (i : Nat) : SState :=
  match Tab.at? i s.vault.sets with
  | some v => v.state
  | none => if isStoreSet i then .erased else if i % 4096 < 40 then .dumpArmed else .system

/-- F: ERASED and FREE store sets of working dies; those held for an open stripe are OPEN (R413). -/
def freeStoreSets (s : State) : Nat :=
  s.vault.live.length * storeSetsPerDie -
    (s.vault.sets.filter (fun e => decide (e.1 / 4096 ∈ s.vault.live) && isStoreSet e.1 &&
      e.2.state != .free && e.2.state != .erased)).length

/-- The state for `f` free sets after a state: a state is left when F rises above twice its threshold (R413). -/
def storeLevel (last f : Nat) : Nat :=
  if f ≤ 1024 ∨ (last = 2 ∧ f ≤ 2048) then 2
  else if f ≤ 4096 ∨ (1 ≤ last ∧ last ≤ 2 ∧ f ≤ 8192) then 1
  else 0

/-- VAULT_STATE (R413). -/
def vaultState (s : State) : Nat :=
  if s.vault.failed then 3 else storeLevel s.vault.lastState (freeStoreSets s)

/-- The armed dump sets of die `n`, in order (R387). -/
def armedSets (s : State) (n : Nat) : List Nat :=
  (Tab.atD s.vault.slots n []).filter (fun i => setState s i == .dumpArmed)

/-- Every live die holds at least 34 armed sets (R390). -/
def diesArmed (s : State) : Bool := s.vault.live.all (fun n => decide (34 ≤ (armedSets s n).length))

/-- DUMP_AREA_STATE (R390, R392, R415). -/
def dumpAreaState (s : State) : Nat :=
  if s.dump.image.isSome then 1
  else if s.vault.rearming && !diesArmed s then 2
  else if decide (s.vault.failedDies.length ≤ 1) && diesArmed s then 0
  else 3

/-! ### Rate index (R61, R424) -/

/-- Does the charger charge: PRECHARGE, CC or CV (R424)? -/
def ChState.charging : ChState → Bool
  | .precharge | .cc | .cv => true
  | _ => false

/-- RATE_INDEX (R61). -/
def rateIndex (s : State) : Nat :=
  match s.pw.state with
  | .off => 0
  | .dump => 3
  | .learn => 2
  | _ => if s.tally.charger.state.charging then 1 else 0

/-! ### The causes of FAULT and STATUS (R41, R51) -/

/-- Does any cause that lights FAULT hold (R51), or does the ROM's recovery service run (R472)? What the vault shows counts
from its mount on. -/
def faultLit (s : State) : Bool :=
  s.pw.lockout || s.pw.hold || !s.pw.faults.isEmpty || s.pw.oscFault ||
    levelOf s .inlet == .critical || thermalCritical s ||
    (allPorts.any (fun p => (s.ports.get p).state == .quarantined)) || s.cache.stacksOk != 0xF#4 ||
    s.tally.charger.state == .fault || (s.led.mounted && (vaultState s == 2 || s.vault.replace)) || s.lock.drbg == 2 ||
    s.lock.recovery

/-- STATUS.PACK_OK (R41, R437). -/
def packOk (s : State) : Bool := s.tally.pack.state == 1 && s.tally.gauge.reserveOk

/-- STATUS (R41). -/
def statusByte (s : State) : Nat :=
  packBits [serving s, s.cache.mode == 1, s.side.dumpAct, faultLit s, thermalWarm s, packOk s, s.paths.right]

/-! ### Write-through and the degraded set (R68, R72, R365, R437) -/

/-- WT_CAUSE: every cause that keeps the cache in write-through (R365, R383, R437). -/
def wtCause (s : State) : Nat :=
  let noPack := s.tally.pack.state != 1
  let stale := s.tally.gauge.stale
  let ok := s.tally.gauge.reserveOk
  packBits
    [cfgCacheMode s == 1, !ok && noPack, !ok && !noPack && !stale, !ok && stale,
     s.vault.failed || dumpAreaState s != 0, cipherLost s,
     s.pw.state == .learn || s.tally.learn.state == .preparing || s.tally.learn.state == .discharging,
     thermalCritical s]

/-- CACHE_STATE for the conditions as they stand: 0 no service, 1 write-back, 2 write-through (R365, R383). -/
def cacheState (s : State) : Nat := if !serving s then 0 else if wtCause s = 0 then 1 else 2

/-- A management path that carries nothing (R505). -/
def MPath.isDown (p : MPath) : Bool := p.state == .down || p.state == .failed

/-- NO_RESERVE: no pack, pack below reserve, or estimate stale (R72). -/
def noReserve (s : State) : Bool :=
  s.tally.pack.state != 1 || s.tally.gauge.stale || (s.tally.gauge.running && !s.tally.gauge.reserveOk)

/-- DEGRADED_SET (R70, R72). It reads its default in OFF, where no core runs; the bits of units that a START checks count
from step 8 of that START on (R66; log entry 17). -/
def degradedSet (s : State) : Nat :=
  if s.pw.state == .off then 0
  else
    let k := s.pw.known
    packBits
      [k && s.cache.stacksOk != 0xF#4, k && (s.vault.failed || dumpAreaState s != 0), noReserve s,
       s.paths.a.isDown && s.paths.b.isDown, k && !s.pw.portsFailed.isEmpty, k && s.pw.coresOk != 0xFF#8,
       k && s.lock.lanesOk != BitVec.allOnes 48, k && cipherLost s, k && !s.pw.groupsFailed.isEmpty,
       s.cache.mode == 2]

/-! ### What volumes reach (R246) -/

/-- The drive whose span holds a chunk, if one does (R256). -/
def chunkDrive (s : State) (c : Nat) : Option Nat :=
  (s.tabs.spans.find? (fun e => decide (e.2.base ≤ c) && decide (c < e.2.base + e.2.count))).map (·.1)

/-- ONLINE or EVACUATING (R246). -/
def driveUp (s : State) (d : Nat) : Bool :=
  match getDrive s d with
  | some v => v.state == .online || v.state == .evacuating
  | none => false

/-- Does a chunk lie on a drive that is ONLINE or EVACUATING? -/
def chunkUp (s : State) (c : Nat) : Bool :=
  match chunkDrive s c with
  | some d => driveUp s d
  | none => false

/-- Is a member reachable: OK or STALE, on a drive that is ONLINE or EVACUATING (R246)? -/
def reachable (s : State) (m : Member) : Bool := (m.state == .ok || m.state == .stale) && chunkUp s m.chunk

/-- The number of reachable members of a group (R246). -/
def reachCount (s : State) (g : Group) : Nat := (g.members.filter (reachable s)).length

/-- Does a group hold an extent's data: a face, a closed extent or a log extent (R193)? -/
def Group.holds (g : Group) : Bool := g.state == .face || g.state == .closed || g.state == .log

/-- The groups that hold data of volume `v`. -/
def volGroups (s : State) (v : Nat) : List Group :=
  (Tab.vals s.tabs.groups).filter (fun g => g.volume == v && g.holds)

/-- Has every extent of the volume at least k reachable members (R246)? -/
def volReaches (s : State) (v : Nat) : Bool := (volGroups s v).all (fun g => decide (g.k ≤ reachCount s g))

/-- REDUNDANCY_LEFT of a group: M less the members that are not OK (R279). -/
def groupRedundancy (g : Group) : Nat := g.m - (g.members.filter (fun m => m.state != .ok)).length

/-- REDUNDANCY_LEFT of a volume: the least of its groups, M with none (R159, R279; log entry 149). -/
def redundancyLeft (s : State) (v : Nat) (m : Nat) : Nat :=
  (volGroups s v).foldl (fun r g => min r (groupRedundancy g)) m

/-- The code of a volume state (R159). -/
def VState.code : VState → Nat
  | .recovering => 1 | .ready => 2 | .offline => 3

/-- Does a loss report that is not accepted name an extent of the volume (R246, R248)? -/
def lossNames (s : State) (v : Nat) : Bool :=
  match s.dur.report with
  | some r => !r.accepted && r.entries.any (fun e => e.1 == v)
  | none => false

/-- Is a volume encrypted (R185)? -/
def Volume.encrypted (v : Volume) : Bool := bit v.vcflags 0

/-- May a RECOVERING volume be declared READY: no unaccepted report names it, its extents reach k members, the restore
is over (R246, R382), an encrypted volume has lanes (R70), and the restart was not STALE (R242). -/
def volMayServe (s : State) (v : Nat) (vol : Volume) : Bool :=
  (s.dur.path != .stale || s.dur.importState == .done) && !lossNames s v && volReaches s v &&
    s.dump.unplaced.isEmpty && !(vol.encrypted && cipherLost s)

/-- The state and the LOSS mark a volume takes as things stand (R246). A volume that is READY stays so without lanes: its
commands fail check 12 of R163 (R70, R468; log entry 33). -/
def volNext (s : State) (v : Nat) (vol : Volume) : VState × Bool :=
  match vol.state with
  | .recovering =>
    if lossNames s v then (.recovering, true)
    else if volMayServe s v vol then (.ready, false)
    else if s.dur.waitOver && !volReaches s v then (.offline, false)
    else (.recovering, false)
  | .ready =>
    if volReaches s v then (.ready, false) else (.offline, false)
  | .offline => if volReaches s v then (.ready, false) else (.offline, false)

/-- A volume takes a state and a LOSS mark; a change is recorded (R246, R534). -/
def volTake (v : Nat) (st : VState) (loss : Bool) (s : State) : State :=
  match getVol s v with
  | none => s
  | some vol =>
    if vol.state = st ∧ vol.loss = loss then s
    else
      event 0x3201 (if st = .offline ∨ (st = .recovering ∧ loss) then 2 else 1) v
        (leBytes 1 vol.state.code ++ leBytes 1 st.code ++ leBytes 1 (redundancyLeft s v vol.m))
        (modVol v (fun x => { x with state := st, loss := loss }) s)

/-- Volume `v` takes the state that R246 gives it as things stand in `s`. -/
def volStep (s : State) (v : Nat) (t : State) : State :=
  match getVol t v with
  | some vol => volTake v (volNext s v vol).1 (volNext s v vol).2 t
  | none => t

/-- Every volume takes the state that R246 gives it, while the module serves. -/
def volumesSettle (s : State) : State :=
  if serving s then (Tab.keys s.tabs.vols).foldl (fun t v => volStep s v t) s else s

/-! ### What follows from a change -/

/-- A change of VAULT_STATE or DUMP_AREA_STATE is recorded; NOT_GUARANTEED asks for replacement, and when FULL begins the
log extents in use are counted (R413 to R415). The
states of a vault that is mounted are compared, so in service and in a dump. -/
def vaultSettle (s : State) : State :=
  let v := vaultState s
  let a := dumpAreaState s
  if (v = s.vault.lastState ∧ a = s.vault.lastArea) ∨ !(serving s || s.pw.state == .dump) then s
  else
    let cap := if v = 2 then some (s.vault.logCap.getD s.tabs.logs.length) else none
    let s := { s with vault := { s.vault with
      lastState := v, lastArea := a, replace := s.vault.replace || a == 3, logCap := cap } }
    event 0x8701 (if v = 2 ∨ v = 3 ∨ a = 3 then 2 else 1) 0 (leBytes 1 v ++ leBytes 1 a) s

/-- The cache takes the mode that the conditions give; a change to write-back or write-through is recorded (R68,
R365). -/
def cacheSettle (s : State) : State :=
  let m := cacheState s
  let w := if m = 2 then wtCause s else 0
  let s' := { s with cache := { s.cache with mode := m, wtCause := w } }
  if m = s.cache.mode ∨ m = 0 then s'
  else event 0x7603 1 0 (leBytes 1 m ++ leBytes 2 w) s'

/-- A change of DEGRADED_SET is recorded (R70, R534). The return to the default in OFF is none. -/
def degradedSettle (s : State) : State :=
  let d := degradedSet s
  if d = s.pw.lastDegraded then s
  else
    let old := s.pw.lastDegraded
    let s' := { s with pw := { s.pw with lastDegraded := d } }
    if s.pw.state == .off then s' else event 0x1005 1 0 (leBytes 4 old ++ leBytes 4 d) s'

/-- SMB_ALERT_N is asserted when any bit of STATUS changes (R39); with neither 12 V nor a pack it is not driven (R35; log
entry 183). -/
def statusSettle (s : State) : State :=
  let b := statusByte s
  if b = s.side.lastStatus then s
  else { s with side := { s.side with alert := s.pw.rail, lastStatus := b } }

/-- The gauge notes a change of the rate index and when it came (R61, R432). -/
def rateSettle (s : State) : State :=
  let r := rateIndex s
  if r = s.tally.gauge.rateSeen then s
  else { s with tally := { s.tally with gauge := { s.tally.gauge with rateSeen := r, rateSince := s.clk.uptime } } }

/-- What every command ends with: volumes, vault, cache mode, degraded set, rate index and STATUS follow what it
changed. -/
def settle (s : State) : State :=
  statusSettle (rateSettle (degradedSettle (cacheSettle (vaultSettle (volumesSettle s)))))

/-- The outcome of a command whose effect is `s`. -/
def finish (s : State) : Host.Outcome State Fault Refusal := .next (settle s)

end Sys2Proof.Machine
end

