-- ==== Sys2Proof/Machine/Geometry.lean ====
section
/-! DEFINITION. Geometry of volumes, extents and benches (R185 to R194), access to the ETU's tables, and the layouts of
the journal records (R223, R224). -/

namespace Sys2Proof.Machine

/-! ### Geometry (R159, R185, R189) -/

/-- The logical block size of a volume (R185). -/
def Volume.bs (v : Volume) : Nat := if v.emul then 512 else 4096

/-- EXTENT_BLOCKS: the blocks of one extent (R189). -/
def Volume.extentBlocks (v : Volume) : Nat := v.k * 2 ^ 28 / v.bs

/-- The 4 KiB pages of one extent. -/
def Volume.extentPages (v : Volume) : Nat := v.k * 65536

/-- Blocks in a page: 8 in a 512-byte volume (R195). -/
def Volume.pageBlocks (v : Volume) : Nat := if v.emul then 8 else 1

/-- BMASK of a whole page (R203). -/
def fullMask : Nat := 0xFF

/-- Bytes of a sett, pages of a sett, benches of a group (R189). -/
def settBytes : Nat := 131072
/-- See `settBytes`. -/
def settPages : Nat := 32
/-- See `settBytes`. -/
def benchesPerGroup : Nat := 2048

/-- The pages of a bench of a scheme with `k` data members. -/
def benchPages (k : Nat) : Nat := k * settPages

/-- The member that carries sett position `pos` of bench `b` of a group of `n` members (R189). -/
def settMember (n b pos : Nat) : Nat := (pos + b) % n

/-- The sett position that member `mem` carries in bench `b` (R189). -/
def memberPos (n b mem : Nat) : Nat := (mem + n - b % n) % n

/-- The bench of page `p` of an extent, and its data sett position (R189). -/
def pageBench (k p : Nat) : Nat := p / benchPages k
/-- See `pageBench`. -/
def pageSett (k p : Nat) : Nat := p % benchPages k / settPages

/-- The extents a volume of `cap` blocks has (R191). -/
def Volume.extents (v : Volume) : Nat := if v.extentBlocks = 0 then 0 else v.capacity / v.extentBlocks

/-- The index of extent `x` of a volume in the extent map (R191). -/
def extIndex (v : Volume) (x : Nat) : Option Nat := (v.segments[x / 1024]?).map (fun g => g * 1024 + x % 1024)

/-- An extent map entry of a new volume (R192). -/
def Extent.empty : Extent := { state := .none, queued := none, group := none, pmd := none, logPages := 0, touched := 0 }

/-- Extent `x` of volume `v` (R192). -/
def getExt (s : State) (v x : Nat) : Extent :=
  match getVol s v with
  | some vol => match extIndex vol x with
    | some i => Tab.atD s.tabs.exts i Extent.empty
    | none => Extent.empty
  | none => Extent.empty

/-- The state with extent `x` of volume `v` changed by `f`; an entry at its defaults is not listed. -/
def modExt (v x : Nat) (f : Extent → Extent) (s : State) : State :=
  match getVol s v with
  | some vol => match extIndex vol x with
    | some i =>
      modTabs (fun t => { t with exts := Tab.putD t.exts i (f (Tab.atD t.exts i Extent.empty)) Extent.empty }) s
    | none => s
  | none => s

/-- The volume and extent of an extent map entry, if a volume holds its segment. -/
def extOwner (s : State) (i : Nat) : Option (Nat × Nat) :=
  s.tabs.vols.findSome? (fun e => (e.2.segments.findIdx? (· == i / 1024)).map (fun q => (e.1, q * 1024 + i % 1024)))

/-- The members of a group. -/
def Group.size (g : Group) : Nat := g.k + g.m

/-- The chunk of a member, if the group has that member. -/
def Group.chunk? (g : Group) (mem : Nat) : Option Nat := (g.members[mem]?).map (·.chunk)

/-- GATTR (R193). -/
def Group.gattr (g : Group) : Nat := g.xgen % 16 + 16 * b2n g.dense

/-- A log extent, if it is not free (R207). -/
def getLog (s : State) (ix : Nat) : Option LogExtent := Tab.at? ix s.tabs.logs

/-- The state with a log extent changed by `f`. -/
def modLog (ix : Nat) (f : LogExtent → LogExtent) : State → State :=
  modTabs (fun t => { t with logs := Tab.mod t.logs ix f })

/-! ### Page maps (R204) -/

/-- The number of the map page for page `p` of an extent, if it has been created. -/
def mapPageOf (s : State) (v x p : Nat) : Option Nat :=
  match (getExt s v x).pmd with
  | some d => Tab.at? (p / 8192) (Tab.atD s.tabs.dirs d [])
  | none => none

/-- The VALID page-map entry of page `p` of an extent (R204). -/
def pmEntry (s : State) (v x p : Nat) : Option PmEntry :=
  match mapPageOf s v x p with
  | some n => Tab.at? (p % 8192) (Tab.atD s.tabs.mapPages n [])
  | none => none

/-- The valid pages of an extent with their entries. -/
def extPages (s : State) (v x : Nat) : List (Nat × PmEntry) :=
  match (getExt s v x).pmd with
  | some d => ((Tab.atD s.tabs.dirs d []).map (fun e =>
      (Tab.atD s.tabs.mapPages e.2 []).map (fun q => (e.1 * 8192 + q.1, q.2)))).flatten
  | none => []

/-! ### Journal records (R223, R224) -/

/-- A member list, padded to a multiple of 16 bytes (R224). -/
def memberList (chunks : List Nat) : Bytes :=
  let b := (chunks.map (leBytes 4)).flatten
  fit (roundUp b.length 16) b

/-- RTYPE (R224). -/
def JBody.rtype : JBody → Nat
  | .writeCommit .. => 0x01 | .clean .. => 0x02 | .discard .. => 0x03 | .faceOpen .. => 0x10 | .faceAdvance .. => 0x11
  | .faceClose .. => 0x12 | .logOpen .. => 0x20 | .logBench .. => 0x21 | .logClose .. => 0x22 | .logFree .. => 0x23
  | .mergeStart .. => 0x30 | .mergeDone .. => 0x31 | .mergeAbandon .. => 0x32 | .memberReplace .. => 0x40
  | .memberState .. => 0x41 | .spoilReclaim .. => 0x50 | .volumeCreate .. => 0x60 | .volumeGrow .. => 0x61
  | .volumeDelete .. => 0x62 | .volumeSet .. => 0x63 | .xgenOpen .. => 0x70 | .checkpoint .. => 0x7F

/-- A LOG_BENCH entry (R224). -/
def LogEntry.bits (e : LogEntry) : Nat := e.extent + e.page * 2 ^ 22 + e.bmask * 2 ^ 43 + e.slot * 2 ^ 51

/-- The body of a record before padding (R224). -/
def JBody.bytes : JBody → Bytes
  | .writeCommit v p f n l t c =>
    leBytes 2 v ++ leBytes 1 p ++ leBytes 1 f ++ leBytes 4 n ++ leBytes 8 l ++ leBytes 4 t ++ zeros 4 ++ leBytes 8 c
  | .clean v n l c => leBytes 2 v ++ zeros 2 ++ leBytes 4 n ++ leBytes 8 l ++ leBytes 8 c ++ zeros 8
  | .discard v f l n => leBytes 2 v ++ zeros 2 ++ leBytes 4 f ++ leBytes 8 l ++ leBytes 8 n ++ zeros 8
  | .faceOpen v a k m x g ms | .logOpen v a k m x g ms =>
    leBytes 2 v ++ leBytes 1 a ++ leBytes 1 k ++ leBytes 1 m ++ zeros 3 ++ leBytes 4 x ++ leBytes 4 g ++ memberList ms
  | .faceAdvance g x o n v a => leBytes 4 g ++ leBytes 4 x ++ leBytes 2 o ++ leBytes 2 n ++ leBytes 2 v ++ leBytes 2 a
  | .faceClose g x o n v => leBytes 4 g ++ leBytes 4 x ++ leBytes 2 o ++ leBytes 2 n ++ leBytes 2 v ++ zeros 2
  | .logBench l v b a es =>
    leBytes 2 l ++ leBytes 2 v ++ leBytes 2 b ++ leBytes 2 es.length ++ leBytes 2 a ++ zeros 6 ++
      (es.map (fun e => leBytes 8 e.bits)).flatten
  | .logClose l v g | .logFree l v g => leBytes 2 l ++ leBytes 2 v ++ leBytes 4 g ++ zeros 8
  | .mergeStart x t v r a ms =>
    leBytes 4 x ++ leBytes 4 t ++ leBytes 2 v ++ leBytes 1 r ++ leBytes 1 a ++ zeros 4 ++ memberList ms
  | .mergeDone x t o v => leBytes 4 x ++ leBytes 4 t ++ leBytes 4 o ++ leBytes 2 v ++ zeros 2
  | .mergeAbandon x t v r => leBytes 4 x ++ leBytes 4 t ++ leBytes 2 v ++ leBytes 1 r ++ zeros 5
  | .memberReplace g m c o n => leBytes 4 g ++ leBytes 1 m ++ [0] ++ leBytes 2 c ++ leBytes 4 o ++ leBytes 4 n
  | .memberState g m st => leBytes 4 g ++ leBytes 1 m ++ leBytes 1 st ++ zeros 10
  | .spoilReclaim cs => leBytes 4 cs.length ++ zeros 12 ++ (cs.map (leBytes 4)).flatten
  | .volumeCreate b => fit 32 b
  | .volumeGrow v c => leBytes 2 v ++ zeros 6 ++ leBytes 8 c
  | .volumeDelete v => leBytes 2 v ++ zeros 14
  | .volumeSet v f c => leBytes 2 v ++ leBytes 1 f ++ leBytes 1 c ++ zeros 12
  | .xgenOpen v g => leBytes 2 v ++ leBytes 1 g ++ zeros 13
  | .checkpoint i c => leBytes 8 i ++ leBytes 8 c

/-- RLEN: header and body, a multiple of 16 (R223). -/
def JBody.rlen (b : JBody) : Nat := roundUp (16 + b.bytes.length) 16

/-- A record with its CRC field as given (R223). -/
def JRec.bytesCrc (r : JRec) (crc : Nat) : Bytes :=
  fit r.body.rlen (leBytes 2 r.body.rlen ++ leBytes 1 r.body.rtype ++ [0] ++ leBytes 4 crc ++ leBytes 8 r.seq ++
    r.body.bytes)

/-- A record as it stands in the journal (R223). -/
def JRec.bytes (r : JRec) : Bytes := r.bytesCrc (crc32c (r.bytesCrc 0))

/-- A commit record: WRITE_COMMIT or CLEAN; every other record is a map record (R220). -/
def JBody.isCommit : JBody → Bool
  | .writeCommit .. | .clean .. => true
  | _ => false

/-- The ring without the commits that no slot needs any more and the CLEANs that followed them (R220). -/
def retireCommits (live : List Nat) (ring : List JRec) : List JRec :=
  ring.filter (fun r => match r.body with
    | .writeCommit .. => decide (r.seq ∈ live)
    | .clean _ _ _ c => decide (c ∈ live)
    | _ => true)

/-- The sequences of the commits whose data is not yet clean. -/
def liveCommits (s : State) : List Nat :=
  (s.cache.slots.filter (fun e => e.2.state == .dirty || e.2.state == .destaging)).map (fun e => e.2.jseq)

/-- The journal ring of HBM in bytes, and the length of a commit record (R222, R224). -/
def ringSize : Nat := 2 ^ 31
/-- See `ringSize`. -/
def commitLen : Nat := 48

/-- Does a segment count as written: every copy has reported on media (R237)? -/
def Segment.written (g : Segment) : Bool := g.copies.all (fun d => decide (d ∈ g.media))

/-- The map records that no written segment carries yet (R220, R237). -/
def drivePending (s : State) : List JRec :=
  ((s.dur.record.segments.filter (fun g => !g.written)).map (fun g => g.records)).flatten ++ s.jr.toDrives

/-- Map records up to this sequence are in the vault journal, or in a written drive journal segment while the vault is failed
(R220): the ring no longer needs them. -/
def flushedSeq (s : State) : Nat :=
  if s.vault.failed then ((drivePending s).head?.map (fun r => r.seq - 1)).getD s.jr.last
  else (s.jr.vault.getLast?.map (·.seq)).getD 0

/-- Bytes of some records. -/
def recBytes (l : List JRec) : Nat := sumNat (l.map (fun r => r.body.rlen))

/-- A ring that has no room for `need` bytes gives up flushed map records at its old end; a live commit record that
reaches the old end is copied to the new end, where `moved` are (R222). -/
def recycleRing (need flushed : Nat) : List JRec → List JRec → List JRec
  | r :: t, moved =>
    if recBytes (r :: t) + recBytes moved + need ≤ ringSize then (r :: t) ++ moved
    else if r.body.isCommit then recycleRing need flushed t (moved ++ [r])
    else if r.seq ≤ flushed then recycleRing need flushed t moved
    else (r :: t) ++ moved
  | [], moved => moved

/-- A record enters the journal buffer with the next JSEQ (R220). Map records wait for the vault journal and for a
drive journal segment; retired commits leave the ring. -/
def journal (b : JBody) (s : State) : State :=
  let r : JRec := ⟨s.jr.last + 1, b⟩
  { s with jr := { s.jr with
      last := s.jr.last + 1
      ring := recycleRing b.rlen (flushedSeq s) s.jr.ring [] ++ [r]
      toDrives := if b.isCommit then s.jr.toDrives else s.jr.toDrives ++ [r] } }

/-- The commits whose data has become clean leave the ring (R220). -/
def retireRing (s : State) : State := { s with jr := { s.jr with ring := retireCommits (liveCommits s) s.jr.ring } }

/-- Bytes of the live span of the ring (R226). -/
def ringBytes (s : State) : Nat := recBytes s.jr.ring

/-- Has the ring no space for another commit record (R222)? What it holds only until it is overwritten does not count. -/
def ringFull (s : State) : Bool :=
  decide (ringSize < recBytes (s.jr.ring.filter (fun r => r.body.isCommit || decide (flushedSeq s < r.seq))) + commitLen)

end Sys2Proof.Machine
end

