-- ==== Sys2Proof/Machine/Lanes.lean ====
section
/-! DEFINITION. Locksmith's lanes (R466), and the generations and invocation counts of the GCM keys (R457, R458). -/

namespace Sys2Proof.Machine

/-- The state with Locksmith changed by `f`. -/
def modLock (f : Locksmith → Locksmith) (s : State) : State := { s with lock := f s.lock }

/-! ### Lanes (R466) -/

/-- The lanes that have not been removed (R470). -/
def lanesUp (s : State) : List Nat := setBits s.lock.lanesOk.toNat 48

/-- A job of a number of AES blocks enters a lane: key shares are drawn, and for every 65,536 blocks the lane's mask generator
is reseeded from the DRBG (R466). Without lanes the key engine does the work, unmasked (R468). -/
def lanePass (blocks : Nat) (s : State) : State :=
  if cipherLost s then s
  else
    let ls := lanesUp s
    let i := ls.getD (Config.laneOf s.lock.jobs % ls.length) 0
    let l := s.lock.lanes.getD i ⟨0, 0, 0⟩
    let due := (l.blocks + blocks) / 65536
    let l : CipherLane := {
      seed := if due = 0 then l.seed else s.lock.drbgRequests + due - 1, blocks := (l.blocks + blocks) % 65536, draws := l.draws + 1 }
    modLock (fun k => drbgUse due { k with jobs := k.jobs + 1, lanes := k.lanes.set i l }) s

/-- Every lane's mask generator is seeded when core 0 starts the DRBG (R466, R467). -/
def seedLanes (l : Locksmith) : Locksmith :=
  drbgUse 1 { l with lanes := l.lanes.map (fun x => { x with seed := l.drbgRequests, blocks := 0 }) }

/-- The AES blocks of `n` bytes under GCM: those of the counter mode, the hash key and the mask of the tag. -/
def gcmBlocks (n : Nat) : Nat := (n + 15) / 16 + 2

/-! ### GCM generations (R457, R458) -/

/-- The key families: MK, VSK and DMPK (R458). -/
inductive GcmFam where
  | mk | vsk | dmpk
  deriving DecidableEq, Repr

/-- The family's current generation and counts. -/
def gcmGet (l : Locksmith) : GcmFam → GcmFamily
  | .mk => l.mkGen
  | .vsk => l.vskGen
  | .dmpk => l.dmpkGen

/-- Locksmith with a family replaced. -/
def gcmSet (l : Locksmith) (f : GcmFam) (v : GcmFamily) : Locksmith :=
  match f with
  | .mk => { l with mkGen := v }
  | .vsk => { l with vskGen := v }
  | .dmpk => { l with dmpkGen := v }

/-- The next generation, with 16 more reserved when 8 remain (R458). -/
def gcmNext (v : GcmFamily) : GcmFamily :=
  { g := v.g + 1, count := 0, reserved := if v.reserved ≤ v.g + 1 + 8 then v.reserved + 16 else v.reserved }

/-- `n` invocations of a family over `bytes` bytes each; at 2^32 the generation rolls, and the key store is written when more
generations were reserved (R458). -/
def gcmUse (f : GcmFam) (n bytes : Nat) (s : State) : State :=
  let v := gcmGet s.lock f
  let s := lanePass (n * gcmBlocks bytes) s
  if v.count + n < 2 ^ 32 then modLock (fun l => gcmSet l f { v with count := v.count + n }) s
  else modLock (fun l => { gcmSet l f { gcmNext v with count := v.count + n - 2 ^ 32 } with
                           gcmRolls := l.gcmRolls + 1
                           storeSeq := l.storeSeq + b2n ((gcmNext v).reserved != v.reserved) }) s

/-- The roll of a START (R458): the first generation above the reserved mark after a power loss, else the next one. -/
def gcmStart (lost : Bool) (v : GcmFamily) : GcmFamily :=
  if lost then { g := v.reserved + 1, count := 0, reserved := v.reserved + 1 + 16 } else gcmNext v

/-- The IV of the next invocation of a family: KGEN, then the invocation count (R457). -/
def gcmIv (s : State) (f : GcmFam) : Bytes := leBytes 4 (gcmGet s.lock f).g ++ leBytes 8 (gcmGet s.lock f).count

end Sys2Proof.Machine
end

