-- ==== Sys2Proof/Machine/Crypt.lean ====
section
/-! DEFINITION. Locksmith's derivation, the XTS generations and the cipher of setts (R448, R449, R459 to R465). -/

namespace Sys2Proof.Machine

/-- One block of the KDF of R449: counter, label, zero, context, length in bits. -/
def kdfBlock (key : Bytes) (label : String) (ctx : Bytes) (bits i : Nat) : Bytes :=
  Config.hmac512 key (beBytes 4 i ++ ascii label ++ [0] ++ ctx ++ beBytes 4 bits)

/-- KDF(K, label, context, L) (R449). -/
def kdf (key : Bytes) (label : String) (ctx : Bytes) (bits : Nat) : Bytes :=
  fit (bits / 8) (((List.range ((bits + 511) / 512)).map (fun i => kdfBlock key label ctx bits (i + 1))).flatten)

/-- A loaded key by its KEY_ID. -/
def getKey (s : State) (id : Nat) : Option Key := s.lock.keys.find? (fun k => k.id == id)

/-- The loaded VOLUME_KEY of an encrypted volume, bound to it by the KEY_ID of its entry (R453, R461). -/
def volumeKey (s : State) (_v : Nat) (vol : Volume) : Option Key :=
  (getKey s vol.keyId).filter (fun k => k.kind == 3)

/-- May the volume's setts be enciphered and deciphered: plaintext, or its key loaded and lanes left (R163, R454)? -/
def cipherReady (s : State) (v : Nat) (vol : Volume) : Bool :=
  !vol.encrypted || ((volumeKey s v vol).isSome && !cipherLost s)

/-- The XTS keys of generation G of a volume (R460). -/
def xtsKeys (s : State) (v : Nat) (key : Bytes) (g : Nat) : Bytes :=
  kdf key "YE-XTS" (s.dur.arrayId ++ leBytes 2 v ++ leBytes 1 g) 512

/-- A generation whose key 1 equals key 2 is skipped (R460). -/
def xtsSkip (s : State) (v : Nat) (vol : Volume) (g : Nat) : Bool :=
  match volumeKey s v vol with
  | some k => (xtsKeys s v k.value g).take 32 == (xtsKeys s v k.value g).drop 32
  | none => false

/-- The tweak of a data unit (R459). -/
def xtsTweak (chunk off unit : Nat) : Nat := (chunk * 2 ^ 28 + off) / unit

/-- The absolute generation of a group (R461). -/
def absoluteGen (vol : Volume) (g : Group) : Nat :=
  ((List.range 16).map (fun i => vol.xgOldest + i)).find? (fun a => a % 16 == g.xgen) |>.getD vol.xgCur

/-- May a roll take place (R464)? -/
def rollAllowed (vol : Volume) : Bool := decide (vol.xgCur - vol.xgOldest < 15) && decide (vol.xgCur < 255)

/-- An XGEN event (R534). -/
def xgenEvent (v g action : Nat) : State → State :=
  event 0xA902 (if action = 1 then 0 else 1) v (leBytes 1 g ++ leBytes 1 action)

/-- The volume opens XG_CUR + 1; a generation with equal keys is skipped once more (R460, R462). -/
def openGen (v : Nat) (s : State) : State :=
  match getVol s v with
  | none => s
  | some vol =>
    let g := vol.xgCur + 1
    let skip := xtsSkip s v vol g && decide (g < 255)
    let s := if skip then xgenEvent v g 2 s else s
    let g := if skip then g + 1 else g
    let s := journal (.xgenOpen v g) s
    xgenEvent v g 1 (modVol v (fun x => { x with xgCur := g, xgUnits := 0 }) s)

/-- The volume rolls, or a deferral is recorded (R462, R464). -/
def rollOrDefer (v : Nat) (s : State) : State :=
  match getVol s v with
  | none => s
  | some vol => if rollAllowed vol then openGen v s else xgenEvent v vol.xgCur 3 s

/-- Data units of whole benches of a volume: every sett of every member counts (R459, R462). -/
def benchUnits (vol : Volume) : Nat := (vol.k + vol.m) * settBytes / vol.bs

/-- Data units written under XG_CUR are counted; a limit reached rolls the generation, 2^36 ask for a checkpoint and
2^37 without one roll it (R462, R463). -/
def countUnits (v n : Nat) (s : State) : State :=
  match getVol s v with
  | none => s
  | some vol =>
    if vol.encrypted then
      let limit := 2 ^ cfgXtsLimitLog2 s
      let since := Tab.atD s.lock.unitsSince v 0 + n
      let s := modVol v (fun x => { x with xgUnits := x.xgUnits + n }) s
      let s := modLock (fun l => { l with unitsSince := Tab.put v since l.unitsSince }) s
      let s := if 2 ^ 36 ≤ since then { s with dur := { s.dur with requested := true } } else s
      let reached := decide (vol.xgUnits < limit) && decide (limit ≤ vol.xgUnits + n)
      if reached then rollOrDefer v s
      else if limit ≤ vol.xgUnits + n ∧ rollAllowed vol = true then openGen v s
      else if 2 ^ 37 ≤ since ∧ since - n < 2 ^ 37 then rollOrDefer v s
      else s
    else s

/-- A deferred volume past twice its limit: only REKEY merges of XG_OLDEST proceed (R464). -/
def keySpent (s : State) (vol : Volume) : Bool :=
  vol.encrypted && !rollAllowed vol && decide (2 * 2 ^ cfgXtsLimitLog2 s ≤ vol.xgUnits)

/-- XG_OLDEST advances past the generations that no group carries any more (R465). -/
def advanceOldest (v : Nat) (s : State) : State :=
  match getVol s v with
  | none => s
  | some vol =>
    let live := (Tab.vals s.tabs.groups).filter (fun g => g.volume == v && g.state != .spoil)
    let gens := (live.map (absoluteGen vol)) ++ [vol.xgCur]
    let o := gens.foldl min vol.xgCur
    if vol.xgOldest < o then modVol v (fun x => { x with xgOldest := o }) s else s

/-! ### The cipher of setts (R294, R448, R459) -/

/-- A sett under the XTS keys of its group's generation, with the tweak of its place on the drive; plaintext where the
volume is not encrypted (R294, R448, R459, R460). -/
def settCipher (f : Bytes → Nat → Nat → Bytes → Bytes) (s : State) (grp : Group) (chunk b : Nat) (data : Bytes) : Bytes :=
  match getVol s grp.volume with
  | some vol =>
    match vol.encrypted, volumeKey s grp.volume vol with
    | true, some k =>
      f (xtsKeys s grp.volume k.value (absoluteGen vol grp)) (xtsTweak chunk (b * settBytes) vol.bs) vol.bs data
    | _, _ => data
  | none => data

/-- Does a group belong to an encrypted volume? -/
def groupEncrypted (s : State) (grp : Group) : Bool := ((getVol s grp.volume).map (fun v => v.encrypted)).getD false

/-- A sett of an encrypted volume passes through a lane. -/
def settPass (grp : Group) (s : State) : State := if groupEncrypted s grp then lanePass (settBytes / 16) s else s

/-- May the setts of a group be enciphered and deciphered? -/
def groupReady (s : State) (grp : Group) : Bool :=
  match getVol s grp.volume with
  | some vol => cipherReady s grp.volume vol
  | none => true

/-! ### Keys derived from the device key (R450) -/

/-- MSK, which wraps the key store. -/
def storageKey : Bytes := kdf Config.deviceKey "YE-MSK" (fit 12 Config.serial) 256

/-- VSK_g. -/
def vaultStoreKey (g : Nat) : Bytes := kdf Config.deviceKey "YE-VAULT" (leBytes 4 g) 256

/-- DMPK_g. -/
def dumpKey (g : Nat) : Bytes := kdf Config.deviceKey "YE-DUMP" (leBytes 4 g) 256

/-! ### Metadata seals (R450, R457) -/

/-- The metadata key of the current generation (R450). -/
def metaKeyNow (s : State) : Bytes :=
  kdf ((s.lock.metaKey.map (·.value)).getD []) "YE-META" (s.dur.arrayId ++ leBytes 4 s.lock.mkGen.g) 256

/-- The count of invocations that a checkpoint, a label or an index page takes is that of its sealed parts. -/
def mkSeal (n bytes : Nat) : State → State := gcmUse .mk n bytes

end Sys2Proof.Machine
end

