-- ==== Sys2Proof/Machine/Media.lean ====
section
/-! DEFINITION. What the module writes to drives: the queues of drive operations (R280, R281, R338), and the metadata area of
a drive with its labels, chunk headers, checkpoint images and journal segments (R228 to R238). -/

namespace Sys2Proof.Machine

/-! ### HBM partitions (R354, R357, R364) -/

/-- Healthy HBM stacks. -/
def healthyStacks (s : State) : Nat := (setBits s.cache.stacksOk.toNat 4).length

/-- Bytes that write and read cache share: 48 GiB a stack less 32 GiB (R357). -/
def cacheShare (s : State) : Nat := (healthyStacks s * 48 - 32) * 2 ^ 30

/-- WCACHE_BYTES (R357). -/
def wcacheBytes (s : State) : Nat :=
  if 112 * 2 ^ 30 ≤ cacheShare s then 64 * 2 ^ 30 else cacheShare s / 2

/-- RCACHE_BYTES (R357). -/
def rcacheBytes (s : State) : Nat := cacheShare s - wcacheBytes s

/-- Bytes of the read-cache directory, with which its partition begins (R354, R357). -/
def rcDirBytes (s : State) : Nat := rcacheBytes s / 192

/-- 4 KiB slots of the read-cache partition behind its directory (R354, R357). -/
def rcSlotCount (s : State) : Nat := (rcacheBytes s - rcDirBytes s) / 4096

/-- DIRTY_LIMIT in MiB (R364). -/
def dirtyLimit (s : State) : Nat := min (cfgDirtyMax s) (wcacheBytes s / 2 ^ 20)

/-- The slots that count toward the dirty fill: DIRTY, DESTAGING and reserved FETCHING (R364). -/
def fillSlots (s : State) : Nat :=
  (s.cache.slots.filter (fun e => e.2.state == .dirty || e.2.state == .destaging || e.2.state == .fetching)).length

/-- DIRTY_FILL in basis points; restored slots may take it above 10,000 (R364, R382, R383). -/
def dirtyFill (s : State) : Nat :=
  if dirtyLimit s = 0 then 0 else min 0xFFFF (fillSlots s * 4096 * 10000 / (dirtyLimit s * 2 ^ 20))

/-- The factor of the destage weight (R364, R365). -/
def destageFactor (s : State) : Nat :=
  if s.cache.mode = 2 ∧ (dirtySlots s).isEmpty = false then 16
  else if dirtyFill s < 5000 then 1 else if dirtyFill s < 7500 then 2 else if dirtyFill s < 9000 then 4 else 16

/-! ### Drive operations (R280, R281) -/

/-- A drive operation of what it does, with the next number. -/
def newOp (what : OpWhat) (s : State) : DriveOp × State :=
  (⟨s.drv.nextOp, what, false, false⟩, { s with drv := { s.drv with nextOp := s.drv.nextOp + 1 } })

/-- An operation goes out to a drive and joins its outstanding ones. -/
def sendOp (d : Nat) (op : DriveOp) (s : State) : State :=
  let s := modDrive d (fun v => { v with ops := v.ops ++ [op] }) s
  { s with drv := { s.drv with trace := s.drv.trace ++ [.issue d op] } }

/-- The dispatcher of a drive. -/
def getDispatcher (s : State) (d : Nat) : Dispatcher :=
  Tab.atD s.qm.dispatchers d { vtime := 0, last := [], queue := [], used := [] }

/-- The state with Quarrymaster changed by `f`. -/
def modQm (f : Quarry → Quarry) (s : State) : State := { s with qm := f s.qm }

/-- The state with the dispatcher of a drive changed by `f`. -/
def modDispatcher (d : Nat) (f : Dispatcher → Dispatcher) (s : State) : State :=
  modQm (fun q => { q with dispatchers := Tab.put d (f (getDispatcher s d)) q.dispatchers }) s

/-- The cost of an operation of `n` bytes on a drive, in µs (R280). -/
def opCost (s : State) (d n : Nat) : Rat :=
  let dense := match getDrive s d with
    | some v => v.dense
    | none => false
  if dense then (cfgDenseOpUs s : Rat) + (n : Rat) / cfgDenseRate s
  else (cfgFastOpUs s : Rat) + (n : Rat) / cfgFastRate s

/-- The weight of a flow: background kinds take their granted shares, at least 1 (R281, R283). -/
def flowWeight (s : State) : Flow → Nat
  | .host p c => cfgPortWeight s p * cfgClassWeight s c
  | .destage c => cfgDestageWeight s * destageFactor s * cfgClassWeight s c
  | .background k => max 1 (s.qm.shares.getD k 0)
  | .metadata => 1

/-- The last finish tag of a flow. -/
def lastFinish (q : Dispatcher) (f : Flow) : Rat := ((q.last.find? (fun e => e.1 == f)).map (·.2)).getD 0

/-- An operation joins a drive's queue with its finish tag (R281). -/
def enqueueOp (d : Nat) (flow : Flow) (n : Nat) (what : OpWhat) (s : State) : State :=
  let (op, s) := newOp what s
  let cost := opCost s d n
  let w : Rat := max 1 (flowWeight s flow)
  modDispatcher d (fun q =>
    let fin := max q.vtime (lastFinish q flow) + cost / w
    { q with queue := q.queue ++ [⟨op, flow, cost, fin⟩], last := q.last.filter (fun e => e.1 != flow) ++ [(flow, fin)] }) s

/-! ### Metadata operations (R228, R280, R338) -/

/-- Drive commands outstanding across all drives. -/
def allOps (s : State) : Nat := sumNat (s.drv.drives.map (fun e => e.2.ops.length))

/-- May a drive receive one more command (R338)? A drive that is being adopted takes the writes of its adoption (R337). -/
def mayReceive (s : State) (d : Nat) (v : Drive) : Bool :=
  (v.state == .online || v.state == .evacuating || v.state == .adopting) && !v.rcv.quiesced &&
    !groupHeld s (v.path.getD 0 0).toNat && decide (v.ops.length < cfgDriveQdepth s v.proto) && decide (allOps s < 131072) &&
    (Tab.at? d s.drv.drives).isSome

/-- Is a flow that of metadata and administrative operations? -/
def Flow.isMetadata : Flow → Bool
  | .metadata => true
  | _ => false

/-- What a kind has used of the window on a drive, in µs (R283). -/
def kindUsed (q : Dispatcher) (k : Nat) : Rat := ((q.used.find? (fun e => e.1 == k)).map (·.2)).getD 0

/-- A queued operation goes out: the virtual time is its finish tag, unless background goes before foreground that waits, and
a background kind's use rises by its cost (R281, R283). Metadata operations carry no tag (log entry 170). -/
def dispatchOp (d : Nat) (o : QueuedOp) (s : State) : State :=
  let s := modDispatcher d (fun q =>
    let kept := q.queue.filter (fun x => x.op.id != o.op.id)
    match o.flow with
    | .metadata => { q with queue := kept }
    | .background k => { q with
        queue := kept, used := q.used.filter (fun e => e.1 != k) ++ [(k, kindUsed q k + o.cost)]
        vtime := if kept.any (fun x => match x.flow with
          | .background _ | .metadata => false
          | _ => true) then q.vtime else o.finish }
    | _ => { q with queue := kept, vtime := o.finish }) s
  sendOp d o.op s

/-- The metadata operations at the head of a drive's queue go out, up to `n`, as far as the drive receives them. -/
def pumpMetadata (d : Nat) : Nat → State → State
  | 0, s => s
  | n + 1, s =>
    match getDrive s d with
    | none => s
    | some v =>
      if mayReceive s d v then
        match (getDispatcher s d).queue.find? (fun x => x.flow.isMetadata) with
        | some o => pumpMetadata d n (dispatchOp d o s)
        | none => s
      else s

/-- The offsets in a drive's metadata area (R228): LABEL_A and LABEL_B, HDR_A and HDR_B, the checkpoint slots, the journal
area, and where the chunks begin. -/
def labelOffset (copyB : Bool) : Nat := if copyB then 4096 else 0
/-- See `labelOffset`. -/
def headerOffset (copyB : Bool) : Nat := (if copyB then 65 else 1) * 2 ^ 20
/-- See `labelOffset`. -/
def slotOffset (slot : Nat) : Nat := if slot = 0 then 256 * 2 ^ 20 else 2 ^ 30
/-- See `labelOffset`. -/
def journalOffset : Nat := 2 * 2 ^ 30
/-- See `labelOffset`. -/
def areaBytes : Nat := 4 * 2 ^ 30

/-- Where a segment lies in the JOURNAL area of a drive: which of the 512 places it takes is not stated (log entry 171). -/
opaque segmentPlace : Nat → Nat → Nat

/-- The drive byte at which an operation begins (R189, R228). -/
def opOffset (s : State) (d : Nat) : OpWhat → Nat
  | .readSett g b mem | .writeSett g b mem _ =>
    let c := ((getGroup s g).bind (fun y => y.chunk? mem)).getD 0
    areaBytes + (c - ((Tab.at? d s.tabs.spans).map (·.base)).getD 0) * 2 ^ 28 + b * settBytes
  | .copySett c b => areaBytes + (c - ((Tab.at? d s.tabs.spans).map (·.base)).getD 0) * 2 ^ 28 + b * settBytes
  | .header c copyB _ => headerOffset copyB + (c - ((Tab.at? d s.tabs.spans).map (·.base)).getD 0) / 32 * 4096
  | .headerTable copyB => headerOffset copyB
  | .label copyB _ => labelOffset copyB
  | .checkpoint _ => slotOffset ((s.dur.taking.map (fun t => t.image.desc.slot)).getD 0)
  | .segment seq => journalOffset + segmentPlace d seq % 512 * (4 * 2 ^ 20)
  | .deallocate c _ => areaBytes + (c - ((Tab.at? d s.tabs.spans).map (·.base)).getD 0) * 2 ^ 28
  | .zeroArea | .identify | .admin => 0

/-- The bytes that an operation moves, of which its cost is made (R280). -/
def opBytes (s : State) : OpWhat → Nat
  | .readSett .. | .copySett .. | .writeSett .. => settBytes
  | .header .. | .label .. => 4096
  | .headerTable _ => 64 * 2 ^ 20
  | .zeroArea => areaBytes - 2 * 4096 - 2 * 64 * 2 ^ 20 - 2 * 768 * 2 ^ 20 - 2 * 2 ^ 30
  | .checkpoint _ => 64 * 1024 + 627 * 2 ^ 20
  | .segment seq => match s.dur.record.segments.find? (fun g => g.seq == seq) with
    | some g => roundUp (516 * 1024 + recBytes g.records) 4096
    | none => 0
  | .deallocate _ _ | .identify | .admin => 0

/-- A metadata or administrative operation joins a drive's queue and goes out as soon as the drive receives it (R280). -/
def issueOp (d : Nat) (what : OpWhat) (s : State) : State :=
  let (op, s) := newOp what s
  let cost := opCost s d (opBytes s what)
  let s := modDispatcher d (fun q => { q with queue := q.queue ++ [⟨op, .metadata, cost, q.vtime⟩] }) s
  pumpMetadata d (getDispatcher s d).queue.length s

/-- Is an operation a metadata write (R230)? -/
def OpWhat.isMeta : OpWhat → Bool
  | .header .. | .headerTable _ | .label .. | .zeroArea | .checkpoint _ | .segment _ => true
  | _ => false

/-- The operations of a drive that have not ended, outstanding or queued. -/
def openOps (s : State) (d : Nat) : List DriveOp :=
  ((((getDrive s d).map (·.ops)).getD []).filter (fun o => !o.ended)) ++ (getDispatcher s d).queue.map (·.op)

/-! ### Chunk headers (R232, R233) -/

/-- A header before its sealing: bytes 0 to 99 (R232). -/
def headerPlain (a : Bytes) (h : Header) : Bytes :=
  a ++ leBytes 4 h.chunk ++ leBytes 1 1 ++ zeros 3 ++ leBytes 1 (b2n h.allocated) ++ leBytes 1 h.kind ++ leBytes 1 h.member ++
    leBytes 1 h.gattr ++ leBytes 1 h.k ++ leBytes 1 h.m ++ leBytes 2 h.volume ++ leBytes 4 h.group ++ leBytes 4 h.owner ++
    leBytes 8 h.hjseq ++ leBytes 8 h.epoch ++ zeros 44

/-- A header as it is written: bytes 0 to 23 authenticated, 24 to 99 enciphered, IV and tag at the end (R232). -/
def headerBytes (key a : Bytes) (h : Header) : Bytes :=
  let p := headerPlain a h
  let c := Config.gcmSeal key h.iv (p.take 24) (p.drop 24)
  p.take 24 ++ fit 76 c.1 ++ h.iv ++ fit 16 c.2

/-- A FREE header that no record has set (R232, R337). -/
def freeHeader (c : Nat) : Header :=
  { chunk := c, allocated := false, kind := 0, member := 0, gattr := 0, k := 0, m := 0, volume := 0, group := 0, owner := 0
    hjseq := 0, epoch := 0, iv := zeros 12 }

/-- The 32 headers of the block in which a chunk's header lies, from the module's own copy (R233). -/
def headerBlock (s : State) (d c : Nat) : List Header :=
  let base := ((Tab.at? d s.tabs.spans).map (·.base)).getD 0
  (List.range 32).map (fun i =>
    let n := base + (c - base) / 32 * 32 + i
    Tab.atD s.dur.headers n (freeHeader n))

/-- A chunk's header is set in the module's own copy, sealed, and written to copy A; copy B follows its report (R233). -/
def writeHeader (d : Nat) (h : Header) (s : State) : State :=
  let h := { h with epoch := s.dur.epoch, iv := gcmIv s .mk }
  let s := mkSeal 1 76 { s with dur := { s.dur with headers := Tab.put h.chunk h s.dur.headers } }
  issueOp d (.header h.chunk false (headerBlock s d h.chunk)) s

/-- The headers of a block as a copy on the drives holds them. -/
def putHeaders (l : List Header) (t : Tab Header) : Tab Header := l.foldl (fun t h => Tab.put h.chunk h t) t

/-- Of two copies of a header, the one with a valid tag and the higher HJSEQ (R233). -/
def readHeader (a b : Option Header) : Option Header :=
  match a, b with
  | some x, some y => if x.hjseq < y.hjseq then some y else some x
  | some x, none => some x
  | none, y => y

/-! ### Checkpoint descriptors and labels (R229 to R231) -/

/-- A checkpoint descriptor (R231). -/
def ckptBytes (c : Ckpt) : Bytes :=
  if c.id = 0 then zeros 128
  else leBytes 8 c.id ++ leBytes 8 c.covers ++ leBytes 8 c.epoch ++ leBytes 8 c.time ++ leBytes 1 c.slot ++
    leBytes 1 c.drives.length ++ ((List.range 4).map (fun i => leBytes 2 (c.drives.getD i 0xFFFF))).flatten ++ zeros 22 ++
    fit 64 c.hash

/-- Bytes 0 to 4,067 of a label (R229). -/
def labelPlain (l : Label) : Bytes :=
  leBytes 4 0x59444C41 ++ leBytes 2 1 ++ leBytes 2 l.drive ++ leBytes 8 l.seq ++ fit 16 l.arrayId ++ fit 16 l.guid ++
    leBytes 8 l.epoch ++ leBytes 4 l.base ++ leBytes 4 l.count ++ leBytes 2 l.domain ++ leBytes 2 l.driveCount ++ zeros 12 ++
    ckptBytes l.ckpt0 ++ ckptBytes l.ckpt1 ++ zeros 3732

/-- A label as it is written: all but IV and TAG is authenticated, nothing is enciphered (R229). -/
def labelBytes (key : Bytes) (l : Label) : Bytes :=
  labelPlain l ++ l.iv ++ fit 16 (Config.gcmSeal key l.iv (labelPlain l) []).2

/-- The label that a reader takes of two valid copies (R230). -/
def readLabel (a b : Option Label) : Option Label :=
  match a, b with
  | some x, some y => if x.seq < y.seq then some y else some x
  | some x, none => some x
  | none, y => y

/-- The descriptors that labels carry now: while a checkpoint's labels are written, its own in place of the older one
(R235, step 4). -/
def labelCkpts (s : State) : Ckpt × Ckpt :=
  match s.dur.taking with
  | some t =>
    if t.labels then
      if t.image.desc.slot = 0 then (t.image.desc, s.dur.ckpt1) else (s.dur.ckpt0, t.image.desc)
    else (s.dur.ckpt0, s.dur.ckpt1)
  | none => (s.dur.ckpt0, s.dur.ckpt1)

/-- The label of a drive as it would be written now (R229). -/
def newLabel (s : State) (d : Nat) (v : Drive) : Label :=
  let p := (Tab.at? d s.tabs.spans).getD { base := 0, count := 0, retired := false }
  { drive := d, seq := v.labelSeq + 1, arrayId := s.dur.arrayId, guid := v.guid, epoch := s.dur.epoch, base := p.base
    count := p.count, domain := v.domain, driveCount := (s.tabs.spans.filter (fun e => !e.2.retired)).length
    ckpt0 := (labelCkpts s).1, ckpt1 := (labelCkpts s).2, iv := gcmIv s .mk }

/-- A label copy is written: the one with the lower LABEL_SEQ (R230). -/
def writeLabel (d : Nat) (v : Drive) (s : State) : State :=
  let l := newLabel s d v
  let s := mkSeal 1 0 (modDrive d (fun y => { y with labelSeq := l.seq, labelTop := !y.labelTop, labelDue := false }) s)
  issueOp d (.label (!v.labelTop) l) s

/-- Labels that wait are written once the drive has reported every earlier metadata write on media (R230). -/
def pumpLabel (d : Nat) (s : State) : State :=
  match getDrive s d with
  | some v => if driveUp s d && v.labelDue && !((openOps s d).any (fun o => o.what.isMeta)) then writeLabel d v s else s
  | none => s

/-- A drive's label is to be written again. -/
def writeLabels (d : Nat) (s : State) : State := pumpLabel d (modDrive d (fun y => { y with labelDue := true }) s)

/-- Does a drive in service still lack the label that was asked for? -/
def labelsPending (s : State) : Bool :=
  s.drv.drives.any (fun e => driveUp s e.1 && (e.2.labelDue || (openOps s e.1).any (fun o => match o.what with
    | .label _ _ => true
    | _ => false)))

/-! ### Checkpoint images (R191 to R193, R207, R234) -/

/-- Bytes 0 to 31 of a volume table entry (R191), whose layout is not stated (log entry 171). -/
opaque volumeHead : Nat → Option Volume → Bytes

/-- The key state of a volume table entry (R461). -/
def volumeKeys (v : Volume) : Bytes :=
  fit 32 (leBytes 1 v.xgCur ++ leBytes 1 v.xgOldest ++ zeros 2 ++ leBytes 4 v.keyId ++ leBytes 8 v.xgUnits)

/-- A volume table entry (R191, R461). -/
def volumeBytes (n : Nat) (v : Option Volume) : Bytes :=
  fit 32 (volumeHead n v) ++ fit 32 ((v.map volumeKeys).getD []) ++ ((List.range 4096).map (fun i => leBytes 2 (((v.map (·.segments)).getD []).getD i 0))).flatten

/-- An index field that is absent. -/
def indexOr (n : Option Nat) : Nat := n.getD 0xFFFFFFFF

/-- An extent map entry (R192). -/
def extentBytes (e : Extent) : Bytes :=
  let st : Nat := match e.state with
    | .none => 0 | .face => 1 | .closed => 2 | .merging => 3
  leBytes 1 st ++ leBytes 1 (b2n e.pmd.isSome + 2 * b2n e.queued.isSome) ++ zeros 2 ++ leBytes 4 (indexOr e.group) ++
    leBytes 4 (indexOr e.pmd) ++ leBytes 4 e.logPages

/-- A member entry (R194). -/
def memberBits (m : Member) : Nat :=
  let st : Nat := match m.state with
    | .ok => 0 | .missing => 1 | .rebuilding => 2 | .stale => 3
  m.chunk % 2 ^ 26 + st * 2 ^ 26

/-- A group descriptor (R193); one that is free is all zero. -/
def groupBytes : Option Group → Bytes
  | none => zeros 128
  | some g =>
    let st : Nat := match g.state with
      | .free => 0 | .face => 1 | .closed => 2 | .log => 3 | .target => 4 | .spoil => 5
    leBytes 1 g.k ++ leBytes 1 g.m ++ leBytes 1 st ++ leBytes 1 g.gattr ++ leBytes 2 g.volume ++ leBytes 2 g.fill ++
      leBytes 4 g.owner ++ leBytes 2 (b2n g.degraded + 2 * b2n g.rebuilding) ++ zeros 2 ++
      fit 112 ((g.members.map (fun m => leBytes 4 (memberBits m))).flatten)

/-- A log extent descriptor (R207); one that is free is all zero. -/
def logBytes : Option LogExtent → Bytes
  | none => zeros 32
  | some l =>
    let st : Nat := match l.state with
      | .free => 0 | .opened => 1 | .closed => 2
    leBytes 4 l.group ++ leBytes 2 l.volume ++ leBytes 1 st ++ [0] ++ leBytes 2 l.fill ++ zeros 2 ++ leBytes 4 l.live ++
      leBytes 8 l.openJseq ++ zeros 8

/-- The body of a checkpoint image before its sealing (R234): volume table, extent map, groups, log descriptors. -/
def imageBody (t : Tables) : Bytes :=
  ((List.range 4096).map (fun n => volumeBytes n (Tab.at? n t.vols))).flatten ++
    ((List.range 4194304).map (fun n => extentBytes (Tab.atD t.exts n Extent.empty))).flatten ++
    ((List.range 4325376).map (fun n => groupBytes (Tab.at? n t.groups))).flatten ++
    ((List.range 65536).map (fun n => logBytes (Tab.at? n t.logs))).flatten

/-- The body's 1 MiB blocks, the last padded with zeros (R234). -/
def imageBlock (t : Tables) (n : Nat) : Bytes := fit (2 ^ 20) (((imageBody t).drop (n * 2 ^ 20)).take (2 ^ 20))

/-- The IV of the n-th invocation from now (R457). -/
def gcmIvAt (s : State) (n : Nat) : Bytes := gcmIv (gcmUse .mk n 0 s) .mk

/-- A checkpoint image as it is written: header, tag table and 627 sealed blocks (R234). -/
def imageBytes (s : State) (c : Ckpt) (t : Tables) : Bytes :=
  let sealed := (List.range 627).map (fun n => Config.gcmSeal (metaKeyNow s) (gcmIvAt s n) [] (imageBlock t n))
  fit 4096 (fit 16 s.dur.arrayId ++ leBytes 8 c.id ++ leBytes 8 c.covers ++ leBytes 8 c.epoch ++ leBytes 4 627) ++
    fit 61440 (((List.range 627).map (fun n =>
      gcmIvAt s n ++ fit 16 ((sealed[n]?).getD ([], [])).2 ++ zeros 4)).flatten) ++
    (sealed.map (fun e => fit (2 ^ 20) e.1)).flatten

/-- The tables as the image on the drives has them: without directories, map pages and chunk table (R234, R259). -/
def driveImage (t : Tables) : Tables :=
  { t with dirs := [], mapPages := [], chunks := [], repair := [], poison := [], scrub := [] }

/-! ### Pages of the ledger region (R523) -/

/-- Page `p` of the LEDGER region as it is written under an IV, whose KGEN names the key (R457, R523). -/
def ledgerPage (s : State) (p : Nat) (iv : Bytes) : Bytes :=
  let rs := (s.led.region.filter (fun e => e.1 == p)).map (·.2)
  let body := (rs.map ledBytes).flatten
  let head := fit 64 (leBytes 4 0x594C4750 ++ leBytes 4 p ++ leBytes 8 ((rs.head?.map (·.seq)).getD 0) ++
    leBytes 8 ((rs.getLast?.map (·.seq)).getD 0) ++ leBytes 4 body.length)
  let c := Config.gcmSeal (vaultStoreKey (field iv 0 4)) iv head (fit 65440 body)
  head ++ fit 65440 c.1 ++ iv ++ zeros 4 ++ fit 16 c.2

/-! ### Journal segments (R238) -/

/-- The exposure bitmap (R239). -/
def exposureBytes (l : List Nat) : Bytes :=
  (List.range (512 * 1024)).map (fun b => BitVec.ofNat 8 (packBits ((List.range 8).map (fun i => decide (b * 8 + i ∈ l)))))

/-- Bytes 0 to 4,067 of copy `copy` of a segment (R238). -/
def segmentHead (s : State) (g : Segment) (copy : Nat) : Bytes :=
  fit 4068 (fit 16 s.dur.arrayId ++ leBytes 8 g.epoch ++ leBytes 8 g.seq ++ leBytes 8 g.firstJseq ++ leBytes 8 g.lastJseq ++
    leBytes 8 g.sealedAt ++ leBytes 4 (recBytes g.records) ++ leBytes 2 copy)

/-- A copy of a segment as it is written (R238). -/
def segmentBytes (s : State) (g : Segment) (copy : Nat) (iv : Bytes) : Bytes :=
  let h := segmentHead s g copy
  let c := Config.gcmSeal (metaKeyNow s) iv h (exposureBytes g.exposure ++ (g.records.map (fun r => r.bytes)).flatten)
  fit (roundUp (516 * 1024 + recBytes g.records) 4096) (h ++ iv ++ fit 16 c.2 ++ c.1)

end Sys2Proof.Machine
end

