-- ==== Sys2Proof/Machine/Alloc.lean ====
section
/-! DEFINITION. Quarrymaster's allocation: chunk states, drive keys, the pair rule, tiers, free space and the reserve
(R255 to R272). -/

namespace Sys2Proof.Machine

/-! ### Chunks (R256 to R258) -/

/-- The span that holds a chunk, with its drive. -/
def chunkSpan (s : State) (c : Nat) : Option (Nat × Span) :=
  s.tabs.spans.find? (fun e => decide (e.2.base ≤ c) && decide (c < e.2.base + e.2.count))

/-- Is a drive being adopted, so that its chunks are not FREE yet (R258)? -/
def driveAdopting (s : State) (d : Nat) : Bool := ((getDrive s d).map (fun v => v.state == .adopting)).getD false

/-- The chunk table entry of a chunk (R257). -/
def getChunk (s : State) (c : Nat) : Chunk :=
  match Tab.at? c s.tabs.chunks with
  | some v => v
  | none =>
    let st : CState := match chunkSpan s c with
      | some e => if e.2.retired then .retired else if driveAdopting s e.1 then .absent else .free
      | none => .absent
    { state := st, hdrPending := false, relocate := false, dense := false,
      drive := ((chunkSpan s c).map (·.1)).getD 0, group := none, member := 0, kind := 0, volume := 0, allocCount := 0,
      errTally := 0, allocTime := 0, spoilJseq := 0 }

/-- The state with a chunk table entry changed by `f`. -/
def modChunk (c : Nat) (f : Chunk → Chunk) (s : State) : State :=
  let v := f (getChunk s c)
  modTabs (fun t => { t with chunks := Tab.put c v t.chunks }) s

/-- Is a drive failed or removed, so that its chunks retire (R258, R348)? -/
def driveGone (s : State) (d : Nat) : Bool :=
  match getDrive s d with
  | some v => v.state == .failed || v.state == .removeReady || v.state == .evacuating
  | none => true

/-- The chunks that the table lists of a span. -/
def spanListed (s : State) (p : Span) : List (Nat × Chunk) :=
  s.tabs.chunks.filter (fun e => decide (p.base ≤ e.1) && decide (e.1 < p.base + p.count))

/-- A span of a drive that is gone returns to ABSENT when none of its chunks is ALLOCATED or SPOIL any more (R258). -/
def dropSpan (d : Nat) (s : State) : State :=
  match Tab.at? d s.tabs.spans with
  | some p =>
    if p.retired && (spanListed s p).all (fun c => c.2.state != .allocated && c.2.state != .spoil) then
      modTabs (fun t => { t with
        spans := Tab.del t.spans d
        chunks := t.chunks.filter (fun e => !(decide (p.base ≤ e.1) && decide (e.1 < p.base + p.count))) }) s
    else s
  | none => s

/-- No journal record names a chunk any more: SPOIL, or RETIRED when its drive is failed or removed or it was to be
relocated (R210, R258). With the last chunk of a drive that is gone its span returns. -/
def releaseChunk (c : Nat) (s : State) : State :=
  let v := getChunk s c
  if v.state = .allocated ∨ v.state = .spoil then
    let gone := v.relocate || (match getDrive s v.drive with
      | some x => x.state == .failed || x.state == .removeReady
      | none => true)
    let s := modChunk c (fun x => { x with
      state := if gone then .retired else .spoil, group := none, hdrPending := false, relocate := false
      spoilJseq := if gone then 0 else s.jr.last }) s
    match chunkSpan s c with
    | some e => dropSpan e.1 s
    | none => s
  else s

/-- The entries of the repair, poison and scrub tables of a group leave (R303, R305, R306). -/
def dropGroupMarks (g : Nat) : State → State :=
  modTabs (fun t => { t with repair := t.repair.filter (fun r => r.group != g)
                             poison := t.poison.filter (fun r => r.group != g), scrub := Tab.del t.scrub g })

/-- The repair entries of a member whose chunk is replaced leave (R303). -/
def dropRepairs (g mem : Nat) : State → State :=
  modTabs (fun t => { t with repair := t.repair.filter (fun r => !(r.group == g && r.member == mem)) })

/-- The rebuilds of a group that becomes spoil are abandoned and counted, its scrub is dropped; a chunk that was the
source of a relocation is released too (R306, R309, R314). -/
def abandonRebuilds (g : Nat) (s : State) : State :=
  let mine := s.cooper.rebuilds.filter (fun r => r.group == g)
  let s := (mine.filter (fun r => r.copy)).foldl (fun s r => releaseChunk r.oldChunk s) s
  { s with cooper := { s.cooper with
      rebuilds := s.cooper.rebuilds.filter (fun r => r.group != g)
      rebuildsAbandoned := s.cooper.rebuildsAbandoned + mine.length
      reads := s.cooper.reads.filter (fun r => !(r.group == g && (r.reader == .scrub || r.reader == .rebuild)))
      noReturn := s.cooper.noReturn.filter (fun e => e.1 != g)
      scrubFirst := s.cooper.scrubFirst.filter (· != g)
      scrubGroup := if s.cooper.scrubGroup = some g then none else s.cooper.scrubGroup
      scrubBad := if s.cooper.scrubGroup = some g then 0 else s.cooper.scrubBad
      scrubAsked := if s.cooper.scrubAsked = some g then none else s.cooper.scrubAsked } }

/-- A group becomes spoil: its chunks are released (R210). -/
def spoilGroup (g : Nat) (s : State) : State :=
  match getGroup s g with
  | some v =>
    let s := v.members.foldl (fun s m => releaseChunk m.chunk s) s
    let s := dropGroupMarks g (modGroup g (fun x => { x with state := .spoil, degraded := false, rebuilding := false }) s)
    let s := modQm (fun q => { q with queue := q.queue.filter (fun e => e.group != g) }) s
    abandonRebuilds g s
  | none => s

/-- Group descriptors in use (R226). -/
def groupsUsed (s : State) : Nat := s.tabs.groups.length

/-- Group descriptors at most (R190). -/
def groupMax : Nat := 4325376

/-! ### Choosing drives (R262 to R265) -/

/-- The drives in service: ONLINE (R262). -/
def inService (s : State) : List Nat := (s.drv.drives.filter (fun e => e.2.state == .online)).map (·.1)

/-- The listed chunks of a drive. -/
def listedChunks (s : State) (d : Nat) : List (Nat × Chunk) :=
  match Tab.at? d s.tabs.spans with
  | some p => spanListed s p
  | none => []

/-- The lowest chunk of a drive that the table does not list: FREE, never allocated. -/
def lowestUnlisted (s : State) (d : Nat) : Option Nat :=
  match Tab.at? d s.tabs.spans with
  | some p =>
    if p.retired then none
    else if (listedChunks s d).length < p.count then
      Tab.firstFree s.tabs.chunks p.base ((listedChunks s d).length + 1)
    else none
  | none => none

/-- The FREE chunk of a drive with the lowest ALLOC_COUNT, the lowest number among equals (R263); one whose reclaimed
header is still pending is not allocated (R233). -/
def freeChunk (s : State) (d : Nat) : Option Nat :=
  let listed := (listedChunks s d).filter (fun e => e.2.state == .free && !e.2.hdrPending)
  let all := listed.map (fun e => (e.1, e.2.allocCount)) ++ ((lowestUnlisted s d).map (fun c => (c, 0))).toList
  (minBy (fun e => e.2 * 2 ^ 26 + e.1) all).map (·.1)

/-- FREE chunks of a drive. -/
def freeCount (s : State) (d : Nat) : Nat :=
  match Tab.at? d s.tabs.spans with
  | some p =>
    if p.retired || driveAdopting s d then 0
    else p.count - ((listedChunks s d).filter (fun e => e.2.state != .free)).length
  | none => 0

/-- ALLOCATED chunks of a drive. -/
def allocatedCount (s : State) (d : Nat) : Nat :=
  ((listedChunks s d).filter (fun e => e.2.state == .allocated)).length

/-- The live groups that have members on both drives (R264). -/
def pairCount (s : State) (a b : Nat) : Nat :=
  (s.tabs.groups.filter (fun e => e.2.state != .spoil && e.2.state != .free &&
    e.2.members.any (fun m => chunkDrive s m.chunk == some a) &&
    e.2.members.any (fun m => chunkDrive s m.chunk == some b))).length

/-- P(d): the sum of a drive's pair counts (R264). Every drive with chunks of a group has a span. -/
def pairSum (s : State) (d : Nat) : Nat := sumNat (((Tab.keys s.tabs.spans).filter (· != d)).map (pairCount s d))

/-- Is a candidate passed over for a chosen drive (R264)? -/
def passedOver (s : State) (d c : Nat) : Bool :=
  let n := (inService s).length - 1
  decide (pairSum s d + cfgPairSlack s * n < pairCount s d c * n)

/-- The drive key (R263) as one number: its fields from the most significant. The hash takes the group's index as U32
and the drive's number as U16, little-endian (log entry 23). -/
def driveKey (s : State) (g d : Nat) : Nat :=
  let wear := ((getDrive s d).map (·.wear)).getD 0 / max 1 (cfgWearStep s)
  let chunks := ((Tab.at? d s.tabs.spans).map (·.count)).getD 1
  let fill := 16 * allocatedCount s d / max 1 chunks
  (wear * 32 + fill) * 2 ^ 32 + crc32c (leBytes 4 g ++ leBytes 2 d)

/-- The domain of a drive (R260). -/
def domainOf (s : State) (d : Nat) : Nat := ((getDrive s d).map (·.domain)).getD d

/-- The tier of a drive: dense or not (R261). -/
def denseOf (s : State) (d : Nat) : Bool := ((getDrive s d).map (·.dense)).getD false

/-- The drive for one member: eligible, passed by the pair rule unless that leaves none, of lowest key (R262 to R264). -/
def pickDrive (s : State) (g : Nat) (dense : Bool) (chosen domains : List Nat) (never : Option Nat) : Option Nat :=
  let ok := (inService s).filter (fun d =>
    denseOf s d == dense && some d != never && (freeChunk s d).isSome && !decide (domainOf s d ∈ domains))
  let paired := ok.filter (fun c => !(chosen.any (fun d => passedOver s d c)))
  minBy (driveKey s g) (if paired.isEmpty then ok else paired)

/-- Drives for `n` members in one tier, in member order; none if a member finds no drive (R263). -/
def pickDrives (s : State) (g : Nat) (dense : Bool) : Nat → List Nat → Option (List Nat)
  | 0, acc => some acc
  | n + 1, acc =>
    match pickDrive s g dense acc (acc.map (domainOf s)) none with
    | some d => pickDrives s g dense n (acc ++ [d])
    | none => none

/-- Drives for a group, in the tier asked for or, failing that, in the other (R265). The Bool is the tier used. -/
def pickGroup (s : State) (g n : Nat) (dense : Bool) : Option (List Nat × Bool) :=
  match pickDrives s g dense n [] with
  | some l => some (l, dense)
  | none => (pickDrives s g (!dense) n []).map (fun l => (l, !dense))

/-- The lowest free group descriptor. -/
def nextGroup (s : State) : Nat := (Tab.firstFree s.tabs.groups 0 (s.tabs.groups.length + 1)).getD 0

/-- The header of a chunk that a member of a group holds (R232). -/
def chunkHeader (s : State) (c g member kind vol hjseq : Nat) : Header :=
  match getGroup s g with
  | some y => { freeHeader c with
      allocated := true, kind := kind, member := member, gattr := y.gattr, k := y.k, m := y.m, volume := vol, group := g
      owner := y.owner, hjseq := hjseq }
  | none => freeHeader c

/-- A chunk is allocated to a member of a group; its header is to be written, copy A first (R233, R258). `hjseq` is the
sequence of the record that names it. -/
def allocChunk (c g member kind vol hjseq : Nat) (s : State) : State :=
  let d := (chunkDrive s c).getD 0
  let s := modChunk c (fun x => { x with
    state := .allocated, hdrPending := true, relocate := false, dense := denseOf s d, drive := d, group := some g
    member := member, kind := kind, volume := vol, allocCount := satAdd 0xFFFFFFFF x.allocCount 1
    allocTime := bitsOf s.clk.now 61 30, spoilJseq := 0 }) s
  writeHeader d (chunkHeader s c g member kind vol hjseq) s

/-- An allocation fails: ALLOC_FAILURES rises and an event is recorded (R265). -/
def allocFails (v g member : Nat) (dense : Bool) (s : State) : State :=
  event 0x3206 1 v (leBytes 4 g ++ leBytes 1 member ++ leBytes 1 (b2n dense))
    (modQm (fun q => { q with allocFailures := q.allocFailures + 1 }) s)

/-- A new group of a volume, with its chunks, in a tier (R196, R262 to R265): the group's index, or none, also when every
descriptor is in use (R190). The record that opens it is the next one. -/
def allocGroup (v : Nat) (st : GState) (kind owner : Nat) (dense : Bool) (s : State) : Option Nat × State :=
  match getVol s v with
  | none => (none, s)
  | some vol =>
    let g := nextGroup s
    match if groupMax ≤ g then none else pickGroup s g (vol.k + vol.m) dense with
    | none => (none, allocFails v g 0 dense s)
    | some (ds, tier) =>
      let chunks := ds.filterMap (freeChunk s)
      let grp : Group := { k := vol.k, m := vol.m, state := st, xgen := vol.xgCur % 16, dense := tier, volume := v,
                           fill := 0, owner := owner, degraded := false, rebuilding := false,
                           members := chunks.map (fun c => ⟨c, .ok⟩) }
      let s := modTabs (fun t => { t with
        groups := Tab.put g grp t.groups
        scrub := Tab.put g (bitsOf s.clk.now 61 30, bitsOf s.clk.now 61 30) t.scrub }) s
      (some g, (chunks.zip (List.range chunks.length)).foldl (fun s e => allocChunk e.1 g e.2 kind v (s.jr.last + 1) s) s)

/-- The domains that a replacement member of a group may not take (R262). -/
def otherDomains (s : State) (g : Group) (mem : Nat) : List Nat :=
  ((g.members.zip (List.range g.members.length)).filter (fun e => e.2 != mem && e.1.state != .missing)).filterMap
    (fun e => (chunkDrive s e.1.chunk).map (domainOf s))

/-- The drives of a group's other members. -/
def otherDrives (s : State) (g : Group) (mem : Nat) : List Nat :=
  ((g.members.zip (List.range g.members.length)).filter (fun e => e.2 != mem)).filterMap
    (fun e => chunkDrive s e.1.chunk)

/-- A chunk to replace a member, in the group's tier or, failing that, in the other (R211, R262, R265). The drive of a
member that has failed is never eligible; that of one that is relocated, or begins again, stays so (R262). -/
def pickReplacement (failed : Bool) (s : State) (gi : Nat) (g : Group) (mem : Nat) : Option Nat :=
  let old := if failed then (g.chunk? mem).bind (chunkDrive s) else none
  let pick (t : Bool) := pickDrive s gi t (otherDrives s g mem) (otherDomains s g mem) old
  ((pick g.dense).orElse (fun _ => pick (!g.dense))).bind (freeChunk s)

/-! ### Space (R266 to R268, R270, R271) -/

/-- The chunks of a drive's span that are not ABSENT or RETIRED. -/
def spanChunks (s : State) (e : Nat × Span) : Nat :=
  if e.2.retired then ((listedChunks s e.1).filter (fun c => c.2.state == .allocated || c.2.state == .spoil)).length
  else if driveAdopting s e.1 then 0
  else e.2.count - ((listedChunks s e.1).filter (fun c => c.2.state == .retired || c.2.state == .absent)).length

/-- Chunks not ABSENT or RETIRED. -/
def rawChunks (s : State) : Nat := sumNat (s.tabs.spans.map (spanChunks s))

/-- FREE chunks of the array. -/
def freeChunks (s : State) : Nat := sumNat (s.tabs.spans.map (fun e => freeCount s e.1))

/-- SPOIL chunks of the array. -/
def spoilChunks (s : State) : Nat := (s.tabs.chunks.filter (fun e => e.2.state == .spoil)).length

/-- ALLOCATED chunks of the array. -/
def allocatedChunks (s : State) : Nat := (s.tabs.chunks.filter (fun e => e.2.state == .allocated)).length

/-- AVAILABLE_BYTES (R266). -/
def availableBytes (s : State) : Nat :=
  (freeChunks s + spoilChunks s) * 2 ^ 28 +
    sumNat ((s.tabs.groups.filter (fun e => e.2.state == .face ||
        (e.2.state == .log && s.tabs.logs.any (fun l => l.2.group == e.1 && l.2.state == .opened)))).map
      (fun e => (benchesPerGroup - e.2.fill) * e.2.size * settBytes))

/-- The reserve (R267). -/
def reserveBytes (s : State) : Nat :=
  let merge := max (cfgMergesMax s * 28) ((rawChunks s * cfgMergeReservePm s + 999) / 1000)
  let sizes := (sortBy (fun n => 2 ^ 26 - n) ((inService s).map (fun d =>
    ((Tab.at? d s.tabs.spans).map (·.count)).getD 0))).take (cfgRebuildReserveDrives s)
  (merge + sumNat sizes) * 2 ^ 28

/-- The reservation of a write of `pages` pages (R266). -/
def reservationOf (k m pages : Nat) : Nat := (pages * 4096 * (k + m) * 32 + 31 * k - 1) / (31 * k)

/-- FAST_CAPACITY: fast chunks not ABSENT or RETIRED (R270). -/
def fastCapacity (s : State) : Nat :=
  sumNat ((s.tabs.spans.filter (fun e => !denseOf s e.1)).map (spanChunks s))

/-- FAST_USED: ALLOCATED chunks of groups whose tier is fast (R270). -/
def fastUsed (s : State) : Nat :=
  (s.tabs.chunks.filter (fun e => e.2.state == .allocated && (match e.2.group with
    | some g => match getGroup s g with
      | some v => !v.dense
      | none => false
    | none => false))).length

/-- The curve of an ID in force (R278, R279). -/
def curveOf (s : State) (id : Nat) : Curve :=
  let b := cfgCurve s id
  if b.isEmpty then defaultCurve id else Curve.ofBytes b

/-- FILL in basis points (R270). -/
def arrayFill (s : State) : Nat := allocatedChunks s * 10000 / max 1 (rawChunks s)

/-- FAST_LIMIT as the TIER curve gives it now (R270). -/
def fastLimitNow (s : State) : Nat := (curveOf s 0).at (arrayFill s) * fastCapacity s / 10000

/-- The tier of a new face or log extent: dense or not (R271). -/
def newTier (s : State) (n : Nat) : Bool := !decide (fastUsed s + n ≤ s.qm.fastLimit)

end Sys2Proof.Machine
end

