-- ==== Sys2Proof/Machine/CacheOps.lean ====
section
/-! DEFINITION. The write cache, the read cache, the popularity tallies and the map cache as operations (R288, R289,
R361 to R374). -/

namespace Sys2Proof.Machine

/-- The state with the caches changed by `f`. -/
def modCache (f : Cache → Cache) (s : State) : State := { s with cache := f s.cache }

/-! ### Write cache (R361 to R363) -/

/-- The state with slot `i` changed by `f`. -/
def modSlot (i : Nat) (f : Slot → Slot) : State → State := modCache (fun c => { c with slots := Tab.mod c.slots i f })

/-- The state with slot `i` FREE. -/
def freeSlot (i : Nat) : State → State := modCache (fun c => { c with slots := Tab.del c.slots i })

/-- Slots of the write-cache partition. -/
def slotCount (s : State) : Nat := wcacheBytes s / 4096

/-- Is a slot the newest committed copy of its page (R206, R363)? -/
def Slot.current (x : Slot) : Bool :=
  x.state == .dirty || (x.state == .destaging && !x.old) || x.state == .clean

/-- The slot that holds the newest committed copy of a page of a volume. -/
def findSlot (s : State) (v page : Nat) : Option (Nat × Slot) :=
  s.cache.slots.find? (fun e => e.2.volume == v && e.2.page == page && e.2.current)

/-- The newest copy that a commit of the page unites with: the newest STAGED one, else the current one (R201). -/
def findUnion (s : State) (v page port tag : Nat) : Option (Nat × Slot) :=
  let staged := s.cache.slots.filter (fun e => e.2.volume == v && e.2.page == page && e.2.state == .staged &&
    !(e.2.port.val == port && e.2.tag == tag))
  match staged.getLast? with
  | some e => some e
  | none => findSlot s v page

/-- CLEAN slots in the order of the second-chance sweep from the hand (R362). -/
def cleanSweep (s : State) : List (Nat × Slot) :=
  let c := s.cache.slots.filter (fun e => e.2.state == .clean)
  let o := c.filter (fun e => decide (s.cache.hand ≤ e.1)) ++ c.filter (fun e => decide (e.1 < s.cache.hand))
  o.filter (fun e => !e.2.used) ++ o.filter (fun e => e.2.used)

/-- A FREE slot of the partition, else the CLEAN one the sweep finds (R362). The sweep clears the second-chance marks
it passes. -/
def takeSlot (s : State) : Option (Nat × State) :=
  match Tab.firstFree s.cache.slots 0 (s.cache.slots.length + 1) with
  | some i =>
    if i < slotCount s then some (i, s)
    else match cleanSweep s with
      | (j, _) :: _ =>
        some (j, modCache (fun c => { c with
          hand := j + 1
          slots := (Tab.del c.slots j).map (fun e => (e.1, { e.2 with used := e.2.used && e.1 > j })) }) s)
      | [] => none
  | none => none

/-- Slots that a write may still reserve under the dirty limit (R362, R364). -/
def slotRoom (s : State) : Nat := dirtyLimit s * 256 - fillSlots s

/-- One FETCHING slot is reserved for a page of a command (R362). -/
def reserveSlot (v page : Nat) (p : PortId) (tag reserved : Nat) (s : State) : State :=
  match takeSlot s with
  | some (i, s) =>
    let x : Slot := { volume := v, page := page, state := .fetching, bmask := 0, atomic := false, link := none,
                      jseq := 0, data := [], port := p, tag := tag, old := false, since := 0, used := false,
                      borrowed := false, reserved := reserved }
    modCache (fun c => { c with slots := Tab.put i x c.slots }) s
  | none => s

/-- The slots that a command holds FETCHING or STAGED, in page order. -/
def slotsOf (s : State) (p : PortId) (tag : Nat) : List (Nat × Slot) :=
  sortBy (fun e => e.2.page) (s.cache.slots.filter (fun e =>
    e.2.port == p && e.2.tag == tag && (e.2.state == .fetching || e.2.state == .staged)))

/-- A write that ends without a commit frees its slots (R362); what they reserved returns. -/
def dropSlots (p : PortId) (tag : Nat) (s : State) : State :=
  let mine := slotsOf s p tag
  let s := mine.foldl (fun s e => freeSlot e.1 s) s
  modQm (fun q => { q with reserved := q.reserved - sumNat (mine.map (fun e => e.2.reserved)) }) s

/-- The bytes of a page with the blocks of a mask taken from `new` and the rest from `old` (R205, R363). -/
def mergeBlocks (mask : Nat) (new old : Bytes) : Bytes :=
  ((List.range 8).map (fun j => if mask.testBit j then slice new (512 * j) 512 else slice old (512 * j) 512)).flatten

/-- The earlier copy of a page is superseded by a newer commit (R363). -/
def supersede (v page : Nat) (s : State) : State :=
  match findSlot s v page with
  | some (i, x) =>
    if x.state = .destaging then modSlot i (fun y => { y with old := true }) s
    else modQm (fun q => { q with reserved := q.reserved - x.reserved }) (freeSlot i s)
  | none => s

/-- The extent map entries of a write are exposed until a segment names what made them durable (R239). -/
def expose (vol : Volume) (pages : List Nat) (s : State) : State :=
  let ns := dedup (pages.filterMap (fun g => extIndex vol (g / max 1 vol.extentPages)))
  { s with dur := { s.dur with exposure := s.dur.exposure ++ ns.filter (fun n => !decide (n ∈ s.dur.exposure)) } }

/-! ### Popularity tallies (R288, R289) -/

/-- The key of a bench (R288). -/
def tallyKey (v x b : Nat) : Nat := v + x * 2 ^ 12 + b * 2 ^ 34

/-- The set of a key (R288). -/
def tallySet (key : Nat) : Nat := crc32c (leBytes 8 key) % 2 ^ 22

/-- The decay epoch now, modulo 256. -/
def decayNow (s : State) : Nat := s.qm.decay % 256

/-- COUNT after the shifts of the epochs passed, at most 16 (R289). -/
def decayed (s : State) (t : Tally) : Nat := t.count >>> min 16 ((decayNow s + 256 - t.epoch) % 256)

/-- A READ adds 1 to the tally of a bench; a bench without an entry replaces the lowest of its set (R289). -/
def countTally (key : Nat) (s : State) : State :=
  let now := decayNow s
  match s.qm.tallies.find? (fun t => t.key == key) with
  | some t =>
    let n := satAdd 65535 (decayed s t) 1
    modQm (fun q => { q with tallies := q.tallies.map (fun u => if u.key = key then ⟨key, n, now⟩ else u) }) s
  | none =>
    let mine := s.qm.tallies.filter (fun t => tallySet t.key == tallySet key)
    let out := if mine.length < 4 then none else minBy (decayed s) mine
    modQm (fun q => { q with tallies := q.tallies.filter (fun t => some t.key != out.map (·.key)) ++ [⟨key, 1, now⟩] }) s

/-- The popularity class of a bench (R289). -/
def tallyClass (s : State) (key : Nat) : Nat :=
  match s.qm.tallies.find? (fun t => t.key == key) with
  | some t => min 7 (decayed s t + 1).log2
  | none => 0

/-! ### Read cache (R367, R368) -/

/-- The read-cache page of a place, while its chunk has not been allocated anew (R367). -/
def findRc (s : State) (chunk cpage : Nat) : Option RcEntry :=
  s.cache.rc.find? (fun e => e.chunk == chunk && e.cpage == cpage && e.alloc == (getChunk s chunk).allocCount)

/-- A hit counts and may raise RETAIN (R368). -/
def hitRc (chunk cpage cls : Nat) : State → State :=
  modCache (fun c => { c with
    rcHits := c.rcHits + 1
    rc := c.rc.map (fun e => if e.chunk = chunk ∧ e.cpage = cpage then { e with retain := max e.retain cls } else e) })

/-- Pages the read cache holds at most: its partition less the pages that borrowed slots take (R368, R382). -/
def rcCapacity (s : State) : Nat :=
  rcSlotCount s - (s.cache.slots.filter (fun e => e.2.borrowed)).length

/-- One step of the sweep: the page at the hand goes at RETAIN 0, else its RETAIN falls (R368). -/
def rcSweep : Nat → List RcEntry → List RcEntry
  | 0, l => l
  | _ + 1, [] => []
  | n + 1, e :: t => if e.retain = 0 then t else rcSweep n (t ++ [{ e with retain := e.retain - 1 }])

/-- A verified page is admitted when its class reaches ADMIT_CLASS (R368). -/
def admitRc (chunk cpage cls : Nat) (data : Bytes) (s : State) : State :=
  if cls < cfgAdmitClass s ∨ (findRc s chunk cpage).isSome = true ∨ rcCapacity s = 0 then s
  else
    modCache (fun c => { c with
      rc := (if c.rc.length < rcCapacity s then c.rc else rcSweep (8 * c.rc.length) c.rc) ++
        [⟨chunk, (getChunk s chunk).allocCount, cpage, cls, data⟩] }) s

/-! ### Map cache (R369 to R374) -/

/-- The state with the map cache changed by `f`. -/
def modMc (f : MapCache → MapCache) (s : State) : State := { s with mc := f s.mc }

/-- The set and tag of a 28-bit line address in normal mode (R369). -/
def normalPlace (a : Nat) : Nat × Nat :=
  let h := a >>> 15
  (((a % 2 ^ 15) ^^^ (h <<< 2)) ^^^ h, h)

/-- The set and tag of a 26-bit block address in sectored mode (R374). -/
def sectoredPlace (b : Nat) : Nat × Nat :=
  let h := b >>> 13
  (((b % 2 ^ 13) ^^^ ((h <<< 2) % 2 ^ 13)) ^^^ h, h)

/-- The set and tag of a line address in the mode in force. -/
def mcPlace (m : MapCache) (a : Nat) : Nat × Nat := if m.mode = 1 then sectoredPlace (a / 4) else normalPlace a

/-- The way that holds a tag in a set, if one does. -/
def mcWay (m : MapCache) (set tag : Nat) : Option (Nat × Line) :=
  (List.range 16).findSome? (fun w => match Tab.at? (set * 16 + w) m.lines with
    | some l => if l.tag = tag then some (w, l) else none
    | none => none)

/-- The nodes of the pseudo-LRU tree from the root to a way, each with the side taken. -/
def plruPath (w : Nat) : List (Nat × Bool) :=
  let n1 := w / 8
  let n2 := w / 4
  let n3 := w / 2
  [(1, n1 % 2 == 1), (2 + n1, n2 % 2 == 1), (4 + n2, n3 % 2 == 1), (8 + n3, w % 2 == 1)]

/-- The tree bits after a use of a way: each node on its path points away from it. -/
def plruTouch (bits w : Nat) : Nat :=
  (plruPath w).foldl (fun b e => if e.2 then b &&& (0xFFFF ^^^ 2 ^ e.1) else b ||| 2 ^ e.1) bits

/-- The way that the tree names among those allowed: at each node the side it points to when that side has an allowed
way (R369). -/
def plruVictim (bits : Nat) (ok : Nat → Bool) : Option Nat :=
  let rec walk (fuel node lo n : Nat) : Option Nat :=
    match fuel with
    | 0 => if ok lo then some lo else none
    | f + 1 =>
      let half := n / 2
      let left := (List.range half).any (fun i => ok (lo + i))
      let right := (List.range half).any (fun i => ok (lo + half + i))
      if right && (bits.testBit node || !left) then walk f (2 * node + 1) (lo + half) half
      else if left then walk f (2 * node) lo half
      else none
  walk 4 1 0 16

/-- A read of the line at address `a` (R369 to R372): a hit, a merge onto an outstanding fill, or a miss that asks for
a fill. -/
def mcRead (a : Nat) (s : State) : State :=
  let m := s.mc
  if m.mode = 2 then s
  else
    let pl := mcPlace m a
    let found := mcWay m pl.1 pl.2
    let hit := match found with
      | some (_, l) => m.mode == 0 || l.sectors.testBit (a % 4)
      | none => false
    if hit then
      let w := (found.map (·.1)).getD 0
      modMc (fun m => { m with hits := m.hits + 1, plru := Tab.put pl.1 (plruTouch (Tab.atD m.plru pl.1 0) w) m.plru }) s
    else if m.fills.any (fun f => f.line == a) then
      modMc (fun m => { m with
        misses := m.misses + 1
        fills := m.fills.map (fun f => if f.line = a then { f with merged := f.merged + 1 } else f) }) s
    else if 256 ≤ m.fills.length then s
    else
      match found with
      | some (w, _) =>
        modMc (fun m => { m with misses := m.misses + 1, fills := m.fills ++ [⟨a, pl.1 * 16 + w, 0, false⟩] }) s
      | none =>
        let busy (w : Nat) : Bool := m.fills.any (fun f => f.way == pl.1 * 16 + w)
        match plruVictim (Tab.atD m.plru pl.1 0) (fun w => !busy w) with
        | some w =>
          modMc (fun m => { m with
            misses := m.misses + 1, fills := m.fills ++ [⟨a, pl.1 * 16 + w, 0, false⟩]
            lines := Tab.mod m.lines (pl.1 * 16 + w) (fun l => { l with state := .evictPending }) }) s
        | none => s

/-- The fill of a line completes: its way is reassigned and VALID (R372); in sectored mode its sector is. A line that was
to be invalidated goes instead, and with the last such one the operation ends (R373). -/
def mcFill (a : Nat) (s : State) : State :=
  match s.mc.fills.find? (fun f => f.line == a) with
  | none => s
  | some f =>
    let pl := mcPlace s.mc a
    let left := s.mc.fills.filter (fun g => g.line != a)
    if f.drop then
      modMc (fun m => { m with
        fills := left, busy := left.any (fun g => g.drop)
        lines := m.lines.filter (fun e => !(e.1 == f.way && e.2.state == .evictPending)) }) s
    else
      modMc (fun m =>
        let sectors := if m.mode = 1 then
            (match Tab.at? f.way m.lines with
              | some l => if l.tag = pl.2 then l.sectors ||| 2 ^ (a % 4) else 2 ^ (a % 4)
              | none => 2 ^ (a % 4))
          else 0xF
        { m with fills := left, lines := Tab.put f.way ⟨pl.2, .valid, sectors⟩ m.lines
                 plru := Tab.put pl.1 (plruTouch (Tab.atD m.plru pl.1 0) (f.way % 16)) m.plru }) s

/-- The lines of a place and tag are invalidated at once where `hit` names them, those being filled when their fill
completes; until then the operation runs (R373; log entry 37). -/
def mcInvalidate (hit : Nat → Nat → Bool) : State → State :=
  modMc (fun m =>
    let fills := m.fills.map (fun f => { f with drop := f.drop || hit f.way (mcPlace m f.line).2 })
    { m with lines := m.lines.filter (fun e => !hit e.1 e.2.tag), fills := fills, busy := fills.any (fun f => f.drop) })

/-- Where a table begins in the maps-and-tables partition: 0 extent map, 1 group descriptors, 2 log extents, 3
directories, 4 volume table (R355). -/
def tableBase : Nat → Nat
  | 0 => 0
  | 1 => 0x4000000
  | 2 => 0x25000000
  | 3 => 0x25200000
  | _ => 0x31200000

/-- Where an entry of a table of R190 lies, as a line address (R355, R369). -/
def tableLine (table size i : Nat) : Nat := (tableBase table + size * i) / 128 % 2 ^ 28

/-- The line of page-map entry `p` of the map page in a pool slot (R369). -/
def poolLine (slot p : Nat) : Nat := (2 ^ 32 + slot * 65536 + p % 8192 * 8) / 128 % 2 ^ 28

/-- MCACHE_OP: the check of a value's fields (R373). A field that its MODE does not use, and the reserved byte, are
ignored (R14; log entry 39). -/
def mcOpOk (s : State) (b : Bytes) : Bool :=
  let op := field b 0 1
  let md := field b 1 1
  let sets := if s.mc.mode = 1 then 8192 else 32768
  let line := if s.mc.mode = 1 then 512 else 128
  b.length == 16 && decide (1 ≤ op) && decide (op ≤ 3) && decide (md ≤ 2) &&
    (if md = 0 then decide (1 ≤ field b 2 2) && field b 8 8 % line == 0 && decide (field b 8 8 < 28 * 2 ^ 30)
     else if md = 1 then decide (field b 4 2 < sets) && decide (field b 6 1 < 16)
     else true)

/-- MCACHE_OP: the operation itself. CLEAN changes nothing (R370, R373). -/
def mcOp (b : Bytes) (s : State) : State :=
  if field b 0 1 = 1 then s
  else if field b 1 1 = 2 then mcInvalidate (fun _ _ => true) s
  else if field b 1 1 = 1 then mcInvalidate (fun k _ => k == field b 4 2 * 16 + field b 6 1) s
  else
    let step := if s.mc.mode = 1 then 4 else 1
    let places := (List.range (field b 2 2)).map (fun i => mcPlace s.mc (field b 8 8 / 128 + i * step))
    mcInvalidate (fun k tag => places.any (fun p => p.1 == k / 16 && p.2 == tag)) s

/-- MCACHE_FILL_DONE (R371, R372). -/
def execMcacheFillDone (line : Nat) (s : State) : Host.Outcome State Fault Refusal := finish (mcFill line s)

end Sys2Proof.Machine
end

