-- ==== Sys2Proof/Machine/Gf.lean ====
section
/-! DEFINITION. Cooper's arithmetic: GF(2^8) over 0x11D, the generator, passes and the location of one bad sett (R291
to R296, R301). -/

namespace Sys2Proof.Machine

/-- Multiplication by α (R291). -/
def gfDouble (a : Nat) : Nat := if a < 128 then 2 * a else (2 * a) ^^^ 0x11D

/-- The sum of the doublings of `a` that the bits of `b` choose, from the lowest of `n` bits. -/
def gfMulBits : Nat → Nat → Nat → Nat
  | 0, _, _ => 0
  | n + 1, a, b => (if b % 2 = 1 then a else 0) ^^^ gfMulBits n (gfDouble a) (b / 2)

/-- Multiplication in GF(2^8) (R291). -/
def gfMul (a b : Nat) : Nat := gfMulBits 8 a b

/-- α to the power `n` (R291). -/
def gfPow : Nat → Nat
  | 0 => 1
  | n + 1 => gfDouble (gfPow n)

/-- The inverse of an element other than 0: its 254th power (R291). -/
def gfInv (a : Nat) : Nat :=
  let a2 := gfMul a a
  let a4 := gfMul a2 a2
  let a8 := gfMul a4 a4
  let a16 := gfMul a8 a8
  let a32 := gfMul a16 a16
  let a64 := gfMul a32 a32
  let a128 := gfMul a64 a64
  gfMul a2 (gfMul a4 (gfMul a8 (gfMul a16 (gfMul a32 (gfMul a64 a128)))))

/-- The coefficient g(i, j) (R292). -/
def gfCoeff (i j : Nat) : Nat := gfMul (j + 4) (gfInv (i ^^^ (j + 4)))

/-- Row `pos` of the full generator: the identity above g; of a mirror every row is 1 (R292, R295). -/
def genRow (k pos : Nat) : List Nat :=
  if k = 1 then [1]
  else (List.range k).map (fun j => if pos < k then b2n (j == pos) else gfCoeff (pos - k) j)

/-- The sum of the products of two rows. -/
def gfDot (a b : List Nat) : Nat := (List.zipWith gfMul a b).foldl (· ^^^ ·) 0

/-- One byte of an output: the inputs' bytes at an offset under a row of coefficients. -/
def gfByte (row : List Nat) (setts : List Bytes) (t : Nat) : Byte :=
  BitVec.ofNat 8 (gfDot row (setts.map (fun s => (s.getD t 0).toNat)))

/-- An output sett of `n` bytes. -/
def gfSett (row : List Nat) (setts : List Bytes) (n : Nat) : Bytes := (List.range n).map (gfByte row setts)

/-- A row scaled. -/
def gfScale (c : Nat) (r : List Nat) : List Nat := r.map (gfMul c)

/-- Two rows added. -/
def gfAddRow (a b : List Nat) : List Nat := List.zipWith (· ^^^ ·) a b

/-- One step of the elimination on column `c`: a row with a pivot there is scaled and cleared from the others. -/
def gfEliminate (c : Nat) (rows : List (List Nat)) : List (List Nat) :=
  match (List.range rows.length).find? (fun i => decide (c ≤ i) && (rows.getD i []).getD c 0 != 0) with
  | none => rows
  | some p =>
    let piv := gfScale (gfInv ((rows.getD p []).getD c 0)) (rows.getD p [])
    let rows := (rows.set p (rows.getD c [])).set c piv
    (rows.zip (List.range rows.length)).map (fun e =>
      if e.2 = c then e.1 else gfAddRow e.1 (gfScale (e.1.getD c 0) piv))

/-- The inverse of a k × k matrix (R295). -/
def gfInverse (k : Nat) (rows : List (List Nat)) : List (List Nat) :=
  let aug := (rows.zip (List.range k)).map (fun e => e.1 ++ (List.range k).map (fun j => b2n (j == e.2)))
  ((List.range k).foldl (fun a c => gfEliminate c a) aug).map (fun r => r.drop k)

/-- The coefficients that give position `out` from the setts at the k positions `ins` (R295). -/
def passRow (k : Nat) (ins : List Nat) (out : Nat) : List Nat :=
  if k = 1 then [1]
  else
    let inv := gfInverse k (ins.map (genRow k))
    let row := genRow k out
    (List.range k).map (fun j => gfDot row (inv.map (fun r => r.getD j 0)))

/-- A pass: the sett at position `out` from k setts at distinct positions (R295). -/
def gfPass (k : Nat) (ins : List (Nat × Bytes)) (out n : Nat) : Bytes :=
  gfSett (passRow k (ins.map (·.1)) out) (ins.map (·.2)) n

/-- The encode pass: the m parity setts, or copies, of k data setts (R292, R296). -/
def gfEncode (k m : Nat) (data : List Bytes) (n : Nat) : List Bytes :=
  (List.range m).map (fun i => gfSett (genRow k (k + i)) data n)

/-- Does every sett beyond the first k equal what the pass over those gives (R300)? -/
def comparesEqual (k : Nat) (setts : List (Nat × Bytes)) (n : Nat) : Bool :=
  let ins := setts.take k
  (setts.drop k).all (fun e => gfPass k ins e.1 n == fit n e.2)

/-- The one bad sett, when leaving out exactly one candidate makes every comparison equal (R301). -/
def locate (k : Nat) (setts : List (Nat × Bytes)) (n : Nat) : Option Nat :=
  match setts.filter (fun c => comparesEqual k (setts.filter (fun e => e.1 != c.1)) n) with
  | [c] => some c.1
  | _ => none

end Sys2Proof.Machine
end

