-- ==== Sys2Proof/Machine/Status.lean ====
section
/-! DEFINITION. The status codes of R181. -/

namespace Sys2Proof.Machine

/-- SUCCESS (R181). -/
def stSuccess : Nat := 0x0000
/-- SUCCESS_RECOVERED (R181). -/
def stRecovered : Nat := 0x0001
/-- HOST_FETCH_TIMEOUT (R181). -/
def stFetchTimeout : Nat := 0x0101
/-- LENGTH_MISMATCH (R181). -/
def stLengthMismatch : Nat := 0x0102
/-- INVALID_OPCODE (R181). -/
def stInvalidOpcode : Nat := 0x0201
/-- INVALID_FIELD (R181). -/
def stInvalidField : Nat := 0x0202
/-- ENTRY_TOO_SHORT (R181). -/
def stTooShort : Nat := 0x0203
/-- TOO_LARGE (R181). -/
def stTooLarge : Nat := 0x0204
/-- RANGE_INVALID (R181). -/
def stRangeInvalid : Nat := 0x0301
/-- ATOMIC_BOUNDARY (R181). -/
def stAtomicBoundary : Nat := 0x0302
/-- ACCESS_DENIED (R181). -/
def stAccessDenied : Nat := 0x0401
/-- READ_ONLY (R181). -/
def stReadOnly : Nat := 0x0402
/-- BUSY (R181). -/
def stBusy : Nat := 0x0501
/-- VOLUME_OFFLINE (R181). -/
def stOffline : Nat := 0x0502
/-- KEY_UNAVAILABLE (R181). -/
def stKeyUnavailable : Nat := 0x0503
/-- NOT_FOUND (R181). -/
def stNotFound : Nat := 0x0504
/-- CAPACITY_EXHAUSTED (R181). -/
def stCapacity : Nat := 0x0601
/-- METADATA_EXHAUSTED (R181). -/
def stMetadata : Nat := 0x0602
/-- DATA_UNRECOVERABLE (R181). -/
def stUnrecoverable : Nat := 0x0701
/-- ABORTED (R181). -/
def stAborted : Nat := 0x0801
/-- TYPE_MISMATCH (R181). -/
def stType : Nat := 0x0901
/-- VALUE_OUT_OF_RANGE (R181). -/
def stValue : Nat := 0x0902
/-- WRITE_ONLY (R181). -/
def stWriteOnly : Nat := 0x0903
/-- AUTH_FAILED (R181). -/
def stAuthFailed : Nat := 0x0904
/-- SESSION_EXPIRED (R181). -/
def stExpired : Nat := 0x0905
/-- SEQUENCE_ERROR (R181). -/
def stSequence : Nat := 0x0906
/-- MAC_INVALID (R181). -/
def stMacInvalid : Nat := 0x0907
/-- UNWRAP_FAILED (R181). -/
def stUnwrapFailed : Nat := 0x0A01
/-- SIGNATURE_INVALID (R181). -/
def stSignature : Nat := 0x0A02
/-- ROLLBACK_REFUSED (R181). -/
def stRollback : Nat := 0x0A03
/-- KEY_LIMIT (R181). -/
def stKeyLimit : Nat := 0x0A04
/-- SELFTEST_FAILED (R181). -/
def stSelftest : Nat := 0x0B01

end Sys2Proof.Machine
end

