-- ==== Sys2Proof/Machine/Vault.lean ====
section
/-! DEFINITION. The vault (12): the store with its log blocks, stripes and collection copies, the media journal, wear,
retirement and the dump area. -/

namespace Sys2Proof.Machine

/-- The state with the vault changed by `f`. -/
def modVault (f : Vault → Vault) (s : State) : State := { s with vault := f s.vault }

/-- The state with the vault's counters changed by `f` (R417, R418). -/
def modHealth (f : VaultHealth → VaultHealth) : State → State := modVault (fun v => { v with health := f v.health })

/-- Bytes of a die-page (R384). -/
def diePage : Nat := 65536

/-- Rows of a set in SLC mode (R384). -/
def slcRows : Nat := 512

/-- Logical pages of the store (R395). -/
def storePages : Nat := 41184 * 512

/-- First LPN of the JOURNAL and LEDGER regions (R395). -/
def journalLpn : Nat := 32768 * 512
/-- See `journalLpn`. -/
def ledgerLpn : Nat := 41152 * 512

/-- The rated wear of a set (R409). -/
def ratedWear : Nat := 30000

/-- The entry of a set (R398). -/
def getSet (s : State) (i : Nat) : VSet :=
  Tab.atD s.vault.sets i
    { state := setState s i, mode := if i % 4096 < 40 then 1 else 0, valid := 0, wear := 0, rewrites := 0, worst := 0,
      stripe := 0, closedAt := 0 }

/-- The state with the entry of a set changed by `f`. -/
def modSet (i : Nat) (f : VSet → VSet) (s : State) : State :=
  let v := f (getSet s i)
  modVault (fun t => { t with sets := Tab.put i v t.sets }) s

/-- The die of a set (R397). -/
def setDie (i : Nat) : Nat := i / 4096

/-- The block map entry of a store block (R397). -/
def getBlock (s : State) (b : Nat) : BlockMap :=
  Tab.atD s.vault.blocks b { set := 0, mode := 0, third := 0, logged := 0, pages := [] }

/-- The state with the entry of a store block replaced. -/
def setBlock (b : Nat) (m : BlockMap) : State → State :=
  modVault (fun v => { v with
    blocks := Tab.putD v.blocks b m { set := 0, mode := 0, third := 0, logged := 0, pages := [] } })

/-! ### Sets and stripes (R402, R409) -/

/-- The ERASED store set of a die with the fewest wear units, the lowest number among equals (R409). -/
def leastWorn (s : State) (die : Nat) : Option Nat :=
  let all := (List.range storeSetsPerDie).map (fun i => firstStoreSet die + i)
  let ok := all.filter (fun i => setState s i == .erased)
  minBy (fun i => (getSet s i).wear) ok

/-- Has a die not failed (R410)? -/
def dieOk (s : State) (d : Nat) : Bool := !decide (d ∈ s.vault.failedDies)

/-- The dies of a channel group (R384, R385). -/
def groupDies (target : Nat) : List Nat := (List.range 8).map (fun c => target * 8 + c)

/-- A channel group may hold a new stripe of a mode: no open one, all eight dies live, an ERASED set on each (R402). -/
def mayOpenStripe (s : State) (tlc : Bool) (target : Nat) : Bool :=
  !(s.vault.stripes.any (fun x => !x.closed && x.tlc == tlc && x.target == target)) &&
    (groupDies target).all (fun d => decide (d ∈ s.vault.live) && dieOk s d && (leastWorn s d).isSome)

/-- A new stripe opens on a channel group, its parity die rotating with its number (R402). -/
def openStripe (tlc : Bool) (target : Nat) (s : State) : State :=
  let n := s.vault.nextStripe
  let members := (groupDies target).filterMap (leastWorn s)
  let parity := members.getD (n % 8) 0
  let data := members.filter (· != parity)
  let md := if tlc then 2 else 1
  let s := data.foldl (fun s i => modSet i (fun v => { v with state := .opened, mode := md, valid := 0, stripe := n }) s) s
  let s := modSet parity (fun v => { v with state := .parity, mode := md, stripe := n }) s
  modVault (fun v => { v with
    stripes := v.stripes ++ [{ id := n, target := target, tlc := tlc, sets := data, parity := parity, closed := false }]
    nextStripe := n + 1 }) s

/-- Rows filled of a set of an open stripe. -/
def rowsOf (s : State) (i : Nat) : Nat := Tab.atD s.vault.openRows i 0

/-- A data set of an open stripe of a mode that nothing fills yet. -/
def unusedSet (s : State) (tlc : Bool) : Option Nat :=
  ((s.vault.stripes.filter (fun x => !x.closed && x.tlc == tlc)).map (·.sets)).flatten.find? (fun i =>
    rowsOf s i == 0 && !decide (i ∈ s.vault.logBlocks) && setState s i == .opened && dieOk s (setDie i))

/-- A data set to fill, from an open stripe or from one that opens for it (R402). -/
def takeDataSet (tlc : Bool) (s : State) : Option (Nat × State) :=
  match unusedSet s tlc with
  | some i => some (i, s)
  | none =>
    match ((List.range 8).map (fun k => (s.vault.nextStripe + k) % 8)).find? (mayOpenStripe s tlc) with
    | some t =>
      let s := openStripe tlc t s
      (unusedSet s tlc).map (fun i => (i, s))
    | none => none

/-- A stripe closes when its data sets are full, those of a failed die apart (R403, R410). -/
def closeStripes (s : State) : State :=
  modVault (fun v => { v with
    stripes := v.stripes.map (fun x =>
      if x.sets.all (fun i => setState s i == .closed || !dieOk s (setDie i)) then { x with closed := true } else x) }) s

/-- A set is full and closes (R398, R403). -/
def closeSet (i : Nat) (s : State) : State :=
  closeStripes (modSet i (fun v => { v with state := .closed, closedAt := bitsOf s.clk.now 61 30 }) s)

/-- A set is retired (R410). -/
def retireSet (i : Nat) (s : State) : State :=
  let s := modSet i (fun v => { v with state := .retired, valid := 0 }) s
  modVault (fun v => { v with openRows := Tab.del v.openRows i, logBlocks := v.logBlocks.filter (· != i),
                              condemned := v.condemned.filter (· != i),
                              pendingErase := v.pendingErase.filter (· != i), erasing := v.erasing.filter (· != i),
                              health := { v.health with retiredSets := v.health.retiredSets + b2n (isStoreSet i) } }) s

/-- A set that holds nothing valid any more becomes FREE and waits for its erase (R404, R405); one that is to leave use, or has
reached the rated wear, is retired (R409, R410). -/
def freeSet (i : Nat) (s : State) : State :=
  if i ∈ s.vault.condemned ∨ ratedWear ≤ (getSet s i).wear then retireSet i s
  else
    let s := modSet i (fun v => { v with state := .free, valid := 0 }) s
    modVault (fun v => { v with openRows := Tab.del v.openRows i, logBlocks := v.logBlocks.filter (· != i),
                                pendingErase := v.pendingErase ++ [i] }) s

/-- A set is to leave use once what it holds has moved (R410). -/
def condemn (i : Nat) (s : State) : State :=
  if i ∈ s.vault.condemned then s else modVault (fun v => { v with condemned := v.condemned ++ [i] }) s

/-- A dump set is replaced by the least-worn erased store set of its die (R393). -/
def replaceDumpSet (i : Nat) (s : State) : State :=
  let d := setDie i
  let s := retireSet i s
  let slots := Tab.atD s.vault.slots d []
  match leastWorn s d with
  | some n =>
    let s := modSet n (fun v => { v with state := .dumpArmed, mode := 1 }) s
    modVault (fun v => { v with slots := Tab.put d (slots.map (fun x => if x = i then n else x)) v.slots }) s
  | none => modVault (fun v => { v with slots := Tab.put d (slots.filter (· != i)) v.slots }) s

/-- The vault becomes FAILED: too few free sets, a failed channel, or two failed dies in one channel group (R413). -/
def vaultCheck (s : State) : State :=
  let two := (List.range 8).any (fun t =>
    decide (2 ≤ (s.vault.failedDies.filter (fun d => d / 8 == t)).length))
  let channel := (List.range 8).any (fun c => (List.range 8).all (fun t => !dieOk s (t * 8 + c)))
  if freeStoreSets s < 256 ∨ two = true ∨ channel = true then modVault (fun v => { v with failed := true }) s else s

/-! ### Log blocks and store writes (R399) -/

/-- Most log blocks at a time (R399). -/
def logBlocksMax : Nat := 256

/-- The log block that takes pages now. -/
def openLogBlock (s : State) : Option Nat := s.vault.logBlocks.find? (fun i => decide (rowsOf s i < slcRows))

/-- The log block that a page goes to, opened when none takes pages and fewer than 256 exist (R399). -/
def needLogBlock (s : State) : Option (Nat × State) :=
  match openLogBlock s with
  | some i => some (i, s)
  | none =>
    if s.vault.logBlocks.length < logBlocksMax then
      match takeDataSet false s with
      | some (i, s) => some (i, modVault (fun v => { v with logBlocks := v.logBlocks ++ [i] }) s)
      | none => none
    else none

/-- The older copy of a logical page becomes invalid (R399). -/
def dropOldPage (lpn : Nat) (s : State) : State :=
  let b := lpn / 512
  let m := getBlock s b
  match Tab.at? lpn s.vault.logPages with
  | some loc =>
    let s := modSet (loc / slcRows) (fun v => { v with valid := v.valid - 1 }) s
    setBlock b { m with logged := m.logged - 1 }
      (modVault (fun v => { v with logPages := Tab.del v.logPages lpn }) s)
  | none =>
    if lpn % 512 ∈ m.pages then
      let s := modSet m.set (fun v => { v with valid := v.valid - 1 }) s
      setBlock b { m with pages := m.pages.filter (· != lpn % 512) } s
    else s

/-- The tag of a die-page (R394): logical page, kind, flags, write sequence and the TIME64 of a dump unit's trip. -/
def pageTag (lpn kind flags wseq image : Nat) : Bytes :=
  let b := leBytes 4 lpn ++ leBytes 1 kind ++ leBytes 1 flags ++ leBytes 2 0 ++ leBytes 8 wseq ++ leBytes 8 image ++
    leBytes 4 0
  b ++ leBytes 4 (crc32c b)

/-- The tag of unit `u` of the image of a trip, or of its copy in the relocation tail (R388, R391). -/
def unitTag (u trip : Nat) (relocated : Bool) : Bytes := pageTag 0xFFFFFFFF 5 (b2n relocated) u trip

/-- A page is written to row `r` of a log block (R399, R402). -/
def writeLogPage (lpn i : Nat) (s : State) : State :=
  let r := rowsOf s i
  let b := lpn / 512
  let s := dropOldPage lpn s
  let m := getBlock s b
  let s := setBlock b { m with logged := m.logged + 1 } s
  let s := modSet i (fun v => { v with valid := v.valid + 1 }) s
  let s := modVault (fun v => { v with
    logPages := Tab.put lpn (i * slcRows + r) v.logPages
    openRows := Tab.put i (r + 1) v.openRows
    wseq := v.wseq + 1
    writes := v.writes.filter (· != lpn)
    programs := v.programs ++ [{ lpn := lpn, set := i, row := r, own := false, tag := pageTag lpn 1 0 (s.vault.wseq + 1) 0 }]
    health := { v.health with bytesWritten := v.health.bytesWritten + diePage } }) s
  if r + 1 = slcRows then closeSet i s else s

/-- A store write (R399): a page that finds no log block waits until one has been collected. -/
def storeWrite (lpn : Nat) (s : State) : State :=
  if s.vault.failed || decide (storePages ≤ lpn) then s
  else
    match needLogBlock s with
    | some (i, s) => vaultCheck (writeLogPage lpn i s)
    | none =>
      if lpn ∈ s.vault.writes then s else modVault (fun v => { v with writes := v.writes ++ [lpn] }) s

/-- A page of the store is trimmed; a block whose last page goes becomes unmapped (R399). -/
def trimPage (lpn : Nat) (s : State) : State :=
  let s := dropOldPage lpn s
  let b := lpn / 512
  let m := getBlock s b
  if m.mode ≠ 0 ∧ m.pages.isEmpty = true ∧ m.logged = 0 then
    let s := setBlock b { m with set := 0, mode := 0, third := 0 } s
    if (getSet s m.set).valid = 0 then freeSet m.set s else s
  else s

/-! ### Collection copies (R399, R400, R403, R404) -/

/-- The logical pages of a store block that exist. -/
def blockPages (s : State) (b : Nat) : List Nat :=
  (List.range 512).filter (fun p =>
    (Tab.at? (b * 512 + p) s.vault.logPages).isSome || decide (p ∈ (getBlock s b).pages))

/-- The store blocks that a running collection copy moves. -/
def movingBlocks (s : State) : List Nat := (s.vault.collects.map (·.blocks)).flatten

/-- The log pages of a store block with their places. -/
def loggedPages (s : State) (b : Nat) : Tab Nat := s.vault.logPages.filter (fun e => e.1 / 512 == b)

/-- A set is filled whole with `n` valid pages. -/
def fillSet (i rows n : Nat) (s : State) : State :=
  let s := modSet i (fun v => { v with valid := n }) s
  closeSet i (modVault (fun v => { v with
    openRows := Tab.put i rows v.openRows, wseq := v.wseq + n
    health := { v.health with bytesWritten := v.health.bytesWritten + n * diePage } }) s)

/-- A collection copy of store blocks into one fresh set begins; its sources stay in force (R404). -/
def beginCollect (tlc : Bool) (sources blocks : List Nat) (s : State) : State :=
  match takeDataSet tlc s with
  | none => s
  | some (t, s) =>
    let n := sumNat (blocks.map (fun b => (blockPages s b).length))
    let moved := (blocks.map (loggedPages s)).flatten
    let s := fillSet t (if tlc then 1536 else slcRows) n s
    vaultCheck (modVault (fun v => { v with
      collects := v.collects ++
        [{ sources := sources, targets := [t], blocks := blocks, moved := moved }] }) s)

/-- A log page that a finished copy moved and that nothing newer replaced leaves its log block. -/
def dropMoved (e : Nat × Nat) (s : State) : State :=
  if Tab.at? e.1 s.vault.logPages = some e.2 then
    let s := modSet (e.2 / slcRows) (fun v => { v with valid := v.valid - 1 }) s
    modVault (fun v => { v with logPages := Tab.del v.logPages e.1 }) s
  else s

/-- A store block takes the copy that is now verified; what its old set held is no longer valid (R404). -/
def remapBlock (t third : Nat) (tlc : Bool) (b : Nat) (pages : List Nat) (s : State) : State :=
  let old := getBlock s b
  let s := if old.mode = 0 then s
    else modSet old.set (fun v => { v with valid := v.valid - old.pages.length }) s
  let logged := (loggedPages s b).length
  let newer := (loggedPages s b).map (fun e => e.1 % 512)
  let s := setBlock b { set := t, mode := if tlc then 2 else 1, third := third, logged := logged,
                        pages := pages.filter (fun p => !decide (p ∈ newer)) } s
  if old.mode ≠ 0 ∧ old.set ≠ t ∧ (getSet s old.set).valid = 0 then freeSet old.set s else s

/-- A collection copy whose targets are all verified takes effect (R404). -/
def endCollect (c : Collect) (s : State) : State :=
  let t := c.targets.getD 0 0
  let tlc := (getSet s t).mode == 2
  let held := c.blocks.map (fun b => (b, blockPages s b))
  let s := c.moved.foldl (fun s e => dropMoved e s) s
  let s := (held.zip (List.range held.length)).foldl (fun s e => remapBlock t e.2 tlc e.1.1 e.1.2 s) s
  let s := modVault (fun v => { v with collects := v.collects.filter (· != c) }) s
  c.sources.foldl (fun s i =>
    if i ∈ c.targets then s
    else if (getSet s i).valid = 0 ∧ setState s i ≠ .free ∧ setState s i ≠ .erased then freeSet i s
    else s) s

/-- Every copy whose targets are VERIFIED ends. -/
def endCollects (s : State) : State :=
  (s.vault.collects.filter (fun c => c.targets.all (fun t => setState s t == .verified))).foldl
    (fun s c => endCollect c s) s

/-- Does a log block hold exactly the pages of one store block in page order (R399)? -/
def switchBlock (s : State) (i : Nat) : Option Nat :=
  let es := s.vault.logPages.filter (fun e => e.2 / slcRows == i)
  match es with
  | [] => none
  | e :: _ =>
    let b := e.1 / 512
    if (List.range slcRows).all (fun r => Tab.at? (b * 512 + r) s.vault.logPages == some (i * slcRows + r)) then some b
    else none

/-- The store blocks with valid pages in a log block that no running copy moves. -/
def logBlockBlocks (s : State) (i : Nat) : List Nat :=
  (dedup ((s.vault.logPages.filter (fun e => e.2 / slcRows == i)).map (fun e => e.1 / 512))).filter
    (fun b => !decide (b ∈ movingBlocks s))

/-- SLC_LIMIT in GiB (R401, R413). -/
def slcLimit (s : State) : Nat :=
  let b := cfgSlcCurve s
  let c := if b.isEmpty then defaultSlcCurve else Curve.ofBytes b
  if vaultState s = 0 then
    let mapped := (s.vault.blocks.filter (fun e => e.2.mode != 0 || e.2.logged != 0)).length
    c.at (min 10000 ((s.vault.health.retiredSets + (mapped + 2) / 3 + 384) * 10000 / (64 * storeSetsPerDie)))
  else (c.points.getLast?.map (·.2)).getD 0

/-- VAULT_FILL (R401). -/
def vaultFill (s : State) : Nat :=
  let mapped := (s.vault.blocks.filter (fun e => e.2.mode != 0 || e.2.logged != 0)).length
  min 10000 ((s.vault.health.retiredSets + (mapped + 2) / 3 + 384) * 10000 / (64 * storeSetsPerDie))

/-- Bytes of store data in SLC sets (R400, R418). -/
def slcHeld (s : State) : Nat :=
  (s.vault.blocks.filter (fun e => e.2.mode == 1)).length * 32 * 2 ^ 20 + s.vault.logPages.length * diePage

/-- The log block with the fewest valid pages that is full and not yet being collected (R399). -/
def collectVictim (s : State) : Option Nat :=
  minBy (fun i => (getSet s i).valid) (s.vault.logBlocks.filter (fun i =>
    decide (slcRows ≤ rowsOf s i) && !(s.vault.collects.any (fun c => decide (i ∈ c.sources)))))

/-- A list in parts of three: the store blocks of one TLC set (R399, R400). -/
def inThrees : List Nat → List (List Nat)
  | a :: b :: c :: t => [a, b, c] :: inThrees t
  | [] => []
  | l => [l]

/-- A log block is collected: freed when it holds nothing, switched, or merged block by block (R399). -/
def collectLogBlock (tlc : Bool) (i : Nat) (s : State) : State :=
  if (getSet s i).valid = 0 then freeSet i s
  else
    match switchBlock s i with
    | some b =>
      let moved := loggedPages s b
      modVault (fun v => { v with
        collects := v.collects ++ [{ sources := [i], targets := [i], blocks := [b], moved := moved }]
        logBlocks := v.logBlocks.filter (· != i) }) s
    | none =>
      let bs := logBlockBlocks s i
      (if tlc then inThrees bs else bs.map (fun b => [b])).foldl (fun s l => beginCollect tlc [i] l s) s

/-- The store blocks with content in a set that no running copy moves. -/
def setBlocks (s : State) (i : Nat) : List Nat :=
  dedup (((s.vault.blocks.filter (fun e => e.2.mode != 0 && e.2.set == i && !decide (e.1 ∈ movingBlocks s))).map (·.1)) ++
    logBlockBlocks s i)

/-- What a set holds is copied elsewhere (R404). -/
def moveSet (i : Nat) (s : State) : State :=
  let bs := setBlocks s i
  if bs.isEmpty then s else beginCollect false [i] bs s

/-- A set is rewritten (R410): what it holds is copied elsewhere, and it is retired at its REWRITE_RETIRE-th rewrite. -/
def rewriteSet (i : Nat) (s : State) : State :=
  if s.vault.collects.any (fun c => decide (i ∈ c.sources)) then s
  else
    let n := (getSet s i).rewrites + 1
    let s := modSet i (fun v => { v with rewrites := n }) s
    let s := modHealth (fun h => { h with rewrites := h.rewrites + 1 }) s
    moveSet i (if cfgRewriteRetire s ≤ n then condemn i s else s)

/-- A copy into a target that failed, or that power abandoned, begins again from its source (R404, R407). A switch has no
other source: its pages are copied out of the set. -/
def restartCollect (c : Collect) (s : State) : State :=
  let s := modVault (fun v => { v with collects := v.collects.filter (· != c) }) s
  if c.sources = c.targets then beginCollect false c.sources c.blocks s
  else
    let tlc := c.targets.any (fun t => (getSet s t).mode == 2)
    beginCollect tlc c.sources c.blocks (c.targets.foldl (fun s t => modSet t (fun v => { v with valid := 0 }) s) s)

/-- The copies that fill a set begin again. -/
def restartInto (i : Nat) (s : State) : State :=
  (s.vault.collects.filter (fun c => decide (i ∈ c.targets))).foldl (fun s c => restartCollect c s) s

/-- A store set leaves use for a failed program, erase or read-back once its content has moved (R404, R410). -/
def moveAndRetire (i : Nat) (s : State) : State :=
  let s := restartInto i s
  if (getSet s i).valid = 0 then retireSet i s
  else moveSet i (condemn i (modVault (fun v => { v with logBlocks := v.logBlocks.filter (· != i) }) s))

/-! ### Lost pages and failed dies (R410, R411) -/

/-- The code of a region in event 0x8702 (R534). -/
def regionCode : VaultRegion → Nat
  | .map => 0 | .journal => 1 | .ckpt0 => 2 | .ckpt1 => 3 | .ledger => 4 | .system => 5 | .dumpUnit => 6

/-- The region of a logical page (R395). -/
def regionOf (lpn : Nat) : VaultRegion :=
  let b := lpn / 512
  if b < 32768 then .map else if b < 40960 then .journal else if b < 41056 then .ckpt0
  else if b < 41152 then .ckpt1 else .ledger

/-- The die on which a logical page lies. -/
def pageDie (s : State) (lpn : Nat) : Nat :=
  match Tab.at? lpn s.vault.logPages with
  | some loc => setDie (loc / slcRows)
  | none => setDie (getBlock s (lpn / 512)).set

/-- A page that cannot be read is recovered as its region gives, with an event (R411). -/
def recoverPage (region : VaultRegion) (lpn : Nat) (s : State) : State :=
  let s := event 0x8702 1 (pageDie s lpn) (leBytes 1 (regionCode region) ++ leBytes 4 lpn) s
  match region with
  | .map => storeWrite lpn s
  | .journal | .ckpt0 | .ckpt1 => { s with dur := { s.dur with requested := true } }
  | .ledger =>
    let lost := s.led.region.filter (fun e => ledgerLpn + e.1 == lpn)
    { s with led := { s.led with region := s.led.region.filter (fun e => ledgerLpn + e.1 != lpn),
                                 dropped := s.led.dropped + lost.length } }
  | .system | .dumpUnit => s

/-- The logical pages on a die, each with whether its stripe still has parity (R403). -/
def diePages (s : State) (d : Nat) : List (Nat × Bool) :=
  (s.vault.logPages.filter (fun e => setDie (e.2 / slcRows) == d)).map (fun e =>
      (e.1, setState s (e.2 / slcRows) != .verified)) ++
    ((s.vault.blocks.filter (fun e => e.2.mode != 0 && setDie e.2.set == d)).map (fun e =>
      e.2.pages.map (fun p => (e.1 * 512 + p, setState s e.2.set != .verified)))).flatten

/-- What a failed die held: pages of stripes with parity are reconstructed and written again, the others are recovered by
region (R410, R411). Nothing is put on the die any more, and copies into it begin again. -/
def recoverDie (d : Nat) (s : State) : State :=
  let s := modVault (fun v => { v with logBlocks := v.logBlocks.filter (fun i => setDie i != d) }) s
  let s := (s.vault.collects.filter (fun c => c.targets.any (fun i => setDie i == d))).foldl
    (fun s c => restartCollect c s) s
  closeStripes ((diePages s d).foldl (fun s e =>
    if e.2 then storeWrite e.1 s
    else recoverPage (regionOf e.1) e.1 (modHealth (fun h => { h with uncorrectable := h.uncorrectable + 1 }) s)) s)

/-- A die is declared failed; it leaves the live list as soon as no image is held (R410). -/
def failDie (d : Nat) (s : State) : State :=
  if d ∈ s.vault.failedDies then s
  else
    let s := vaultCheck (recoverDie d (modVault (fun v => { v with failedDies := v.failedDies ++ [d] }) s))
    modVault (fun v => { v with live := if s.dump.image.isNone then v.live.filter (· != d) else v.live }) s

/-- Two consecutive time-outs after a die reset, or 8 sets retired within 24 h, fail a die (R410). -/
def dieCheck (d : Nat) (s : State) : State :=
  let n := (s.vault.retiredTimes.filter (fun e => e.1 == d && decide (s.clk.uptime < e.2 + 86400 * 1000000000))).length
  if 2 ≤ Tab.atD s.vault.timeouts d 0 ∨ 8 ≤ n then failDie d s else s

/-- A failure of a program or erase counts toward that of its die (R410). -/
def noteFailed (i : Nat) : State → State :=
  fun s => modVault (fun v => { v with retiredTimes := v.retiredTimes ++ [(setDie i, s.clk.uptime)] }) s

/-! ### The dump area (R387, R392, R393) -/

/-- The dump sets of every live die, with those that an image used. -/
def dumpSets (s : State) : List Nat := (s.vault.live.map (fun d => Tab.atD s.vault.slots d [])).flatten

/-- A dump set whose erase failed is replaced, and the failure counts for its die (R393, R410). -/
def dumpEraseFailed (i : Nat) (s : State) : State :=
  let s := modHealth (fun h => { h with eraseFails := h.eraseFails + 1 }) (noteFailed i s)
  dieCheck (setDie i) (replaceDumpSet i s)

/-- A used dump set is erased and armed again; a failed erase or the rated wear retires it (R392, R393). -/
def rearmSet (failed : List Nat) (i : Nat) (s : State) : State :=
  if setState s i = .dumpUsed then
    let w := (getSet s i).wear + 1
    let s := modSet i (fun v => { v with wear := w, state := .dumpArmed }) s
    if i ∈ failed then dumpEraseFailed i s
    else if ratedWear ≤ w then replaceDumpSet i s
    else s
  else s

/-- A set that fails its arm check is erased again (R393). -/
def armFailed (failedErase : List Nat) (i : Nat) (s : State) : State :=
  if setState s i = .dumpArmed ∧ i ∈ dumpSets s then
    let s := modSet i (fun v => { v with wear := v.wear + 1 }) s
    if i ∈ failedErase then dumpEraseFailed i s else s
  else s

/-- The place of unit `u` of an image: its die, and the set it lies in where the slot exists (R387). -/
def unitPlace (s : State) (u : Nat) : Option Nat :=
  let live := s.vault.live
  let n := live.getD (u % max 1 live.length) 0
  let r := u / max 1 live.length
  (armedSets s n)[r / 512]?

/-- The failed dies that may leave the live list do so (R387, R410). -/
def dropFailedDies (s : State) : State :=
  if s.dump.image.isNone then
    modVault (fun v => { v with live := v.live.filter (fun d => !decide (d ∈ v.failedDies)) }) s
  else s

/-! ### Mount (R406) -/

/-- The log pages in the last row of a stripe that is still open (R406, step 3). -/
def lastRow (s : State) (x : Stripe) : List Nat :=
  let r := x.sets.foldl (fun m i => max m (rowsOf s i)) 0
  (s.vault.logPages.filter (fun e => decide (e.2 / slcRows ∈ x.sets) && e.2 % slcRows + 1 == r)).map (·.1)

/-- The vault mounts (R406): open stripes close and the pages of their last, partial row are written again (log entry 31); copies that
power abandoned begin anew (R407); the pages of the scan are counted; a mount that cannot complete makes the vault FAILED. How
long it took is a free value (log entry 139). -/
def vaultMount (ok : Bool) (scanned : Nat) (s : State) : State :=
  let (t, s) := drawNat s
  let isOpen := s.vault.stripes.filter (fun x => !x.closed)
  let again := (isOpen.map (lastRow s)).flatten
  let s := ((isOpen.map (·.sets)).flatten).foldl
    (fun s i => if setState s i = .opened then
        modSet i (fun v => { v with state := .closed, closedAt := bitsOf s.clk.now 61 30 }) s
      else s) s
  let s := modVault (fun v => { v with
    stripes := v.stripes.map (fun x => { x with closed := true }), openRows := v.logBlocks.map (fun i => (i, slcRows))
    programs := [], pendingErase := v.pendingErase ++ v.erasing, erasing := [], mountTime := t % 2 ^ 32
    mountPages := scanned, failed := v.failed || !ok
    health := { v.health with bytesRead := v.health.bytesRead + scanned * diePage } }) s
  let s := again.foldl (fun s lpn => storeWrite lpn s) s
  let s := (s.vault.collects.filter (fun c => c.sources != c.targets)).foldl (fun s c => restartCollect c s) s
  vaultCheck (dropFailedDies s)

/-! ### The commands -/

/-- Does the vault work: powered and not in a module state without the data path? -/
def vaultUp (s : State) : Bool := (dataRuns s || s.pw.state == .dump) && !s.vault.failed

/-- Does the store run: the vault is up and no channel is in MAINTENANCE (R538)? -/
def storeRuns (s : State) : Bool := vaultUp s && !vaultHeld s

/-- DUMP_REARM (R392): the sets an image used are erased and armed again. -/
def execDumpRearm (failedErase : List Nat) (s : State) : Host.Outcome State Fault Refusal :=
  if vaultUp s && s.vault.rearming && s.dump.image.isNone then
    let s := (dumpSets s).foldl (fun s i => rearmSet failedErase i s) s
    finish (vaultCheck (modVault (fun v => { v with rearming := false }) s))
  else finish s

/-- ARM_CHECK (R393): at a mount and every 24 h while no image is held; the sets that failed are erased again or replaced
(log entry 96). -/
def execArmCheck (failed failedErase : List Nat) (s : State) : Host.Outcome State Fault Refusal :=
  if vaultUp s && s.dump.image.isNone then
    finish (vaultCheck ((failed.filter (fun i => !inMaint s (0x1D + setDie i % 8))).foldl (fun s i => armFailed failedErase i s) s))
  else finish s

/-- STORE_WRITE (R399, R402): a page that a writer hands to the store, or one that waits. -/
def execStoreWrite (lpn : Nat) (s : State) : Host.Outcome State Fault Refusal :=
  if storeRuns s then finish (storeWrite lpn s) else finish s

/-- LOG_BLOCK_COLLECT (R399): a log block is needed and all 256 are in use. -/
def execLogBlockCollect (s : State) : Host.Outcome State Fault Refusal :=
  if storeRuns s && (openLogBlock s).isNone && decide (logBlocksMax ≤ s.vault.logBlocks.length) then
    match collectVictim s with
    | some i => finish (collectLogBlock (decide (slcLimit s * 2 ^ 30 ≤ slcHeld s)) i s)
    | none => finish s
  else finish s

/-- FOLD (R400): three SLC blocks, least recently written first, go to one TLC set while the SLC data exceeds
SLC_LIMIT, down to 90 % of it. -/
def execFold (s : State) : Host.Outcome State Fault Refusal :=
  let limit := slcLimit s * 2 ^ 30
  let held := slcHeld s
  let on := decide (limit < held) || (s.vault.folding && decide (limit * 9 / 10 < held))
  if storeRuns s then
    let s := modVault (fun v => { v with folding := on }) s
    let bs := (sortBy (fun (e : Nat × BlockMap) => (getSet s e.2.set).closedAt)
      (s.vault.blocks.filter (fun e => e.2.mode == 1 && setState s e.2.set == .verified &&
        !decide (e.1 ∈ movingBlocks s)))).take 3
    if on ∧ bs.length = 3 then
      finish (beginCollect true (bs.map (fun e => e.2.set)) (bs.map (·.1)) s)
    else finish s
  else finish s

/-- STRIPE_VERIFY (R403, R404): the sets in `failing` did not pass their read-back. -/
def execStripeVerify (stripe : Nat) (failing : List Nat) (s : State) : Host.Outcome State Fault Refusal :=
  match s.vault.stripes.find? (fun x => x.id == stripe && x.closed) with
  | none => finish s
  | some x =>
    if storeRuns s then
      let bad := x.sets.filter (fun i => (decide (i ∈ failing) || decide (i ∈ s.vault.condemned)) && setState s i == .closed &&
        dieOk s (setDie i))
      let good := x.sets.filter (fun i => !decide (i ∈ bad) && setState s i == .closed && dieOk s (setDie i))
      let s := modHealth (fun h => { h with bytesRead := h.bytesRead + x.sets.length * slcRows * diePage }) s
      let s := good.foldl (fun s i => modSet i (fun v => { v with state := .verified }) s) s
      if bad.isEmpty then
        let s := freeSet x.parity s
        let s := modVault (fun v => { v with stripes := v.stripes.filter (fun y => y.id != stripe) }) s
        let s := endCollects s
        finish (vaultCheck (good.foldl (fun s i =>
          if (getSet s i).valid = 0 ∧ setState s i = .verified then freeSet i s else s) s))
      else finish (vaultCheck (bad.foldl (fun s i => moveAndRetire i s) s))
    else finish s

/-- MEDIA_JOURNAL_FLUSH (R404, R405): the changes are written to the system sets, every 1,024th time as a full snapshot, and
what was recorded may be erased. -/
def execMediaJournalFlush (s : State) : Host.Outcome State Fault Refusal :=
  if storeRuns s then
    finish (modVault (fun v => { v with flushSeq := v.wseq, flushes := v.flushes + 1,
                                        snapshot := if (v.flushes + 1) % 1024 = 0 then v.wseq else v.snapshot,
                                        erasing := v.erasing ++ v.pendingErase, pendingErase := [] }) s)
  else finish s

/-- VAULT_REFRESH (R410): three rows of each CLOSED or VERIFIED set are read; a failed or worn read schedules a rewrite. -/
def execVaultRefresh (verdicts : List SetVerdict) (s : State) : Host.Outcome State Fault Refusal :=
  if storeRuns s then
    finish (vaultCheck (verdicts.foldl (fun s v =>
      if setState s v.set = .closed ∨ setState s v.set = .verified then
        let s := modSet v.set (fun x => { x with worst := min 255 v.worst }) s
        let s := modHealth (fun h => { h with bytesRead := h.bytesRead + 3 * diePage }) s
        if v.ok ∧ v.worst ≤ cfgRewriteBits s then s else rewriteSet v.set s
      else s) s))
  else finish s

/-- VAULT_PAGE_LOST (R411): a page cannot be read after eight retries; its region decides. -/
def execVaultPageLost (region : VaultRegion) (lpn : Nat) (s : State) : Host.Outcome State Fault Refusal :=
  if vaultUp s then
    finish (recoverPage region lpn (modHealth (fun h => { h with
      uncorrectable := h.uncorrectable + 1, retryReads := h.retryReads + 8 }) s))
  else finish s

/-- VAULT_OP_FAIL (R410): a program, read or erase of a set fails, or times out after a die reset. A read that fails takes a
retry, and its set is rewritten. -/
def execVaultOpFail (set : Nat) (kind : VaultOpKind) (timeout : Bool) (s : State) :
    Host.Outcome State Fault Refusal :=
  if vaultUp s && decide (setDie set < 64) then
    let d := setDie set
    let n := if timeout then Tab.atD s.vault.timeouts d 0 + 1 else 0
    let s := modVault (fun v => { v with timeouts := Tab.putD v.timeouts d n 0 }) s
    match kind with
    | .read =>
      let s := modHealth (fun h => { h with retryReads := h.retryReads + 1 }) s
      let worn := setState s set = .closed ∨ setState s set = .verified
      finish (vaultCheck (dieCheck d (if worn ∧ timeout = false ∧ vaultHeld s = false then rewriteSet set s else s)))
    | .program | .erase =>
      let s := modHealth (fun h => match kind with
        | .erase => { h with eraseFails := h.eraseFails + 1 }
        | _ => { h with programFails := h.programFails + 1 }) s
      let s := noteFailed set s
      let s := if set ∈ dumpSets s then replaceDumpSet set s
        else if setState s set = .system then s
        else moveAndRetire set s
      finish (vaultCheck (dieCheck d s))
  else finish s

/-- VAULT_TEMP_SAMPLE (R417): an hour ends with the peak given. -/
def execVaultTempSample (peak : Int) (s : State) : Host.Outcome State Fault Refusal :=
  if serving s then
    let bin := if peak < 0 then 0 else if 95 ≤ peak then 20 else (peak / 5).toNat + 1
    finish (modHealth (fun h => { h with
      tempMax := max h.tempMax peak
      tempHours := h.tempHours.set bin (h.tempHours.getD bin 0 + 1) }) s)
  else finish s

/-- Does parity row `r` of a stripe still miss a data program that runs? -/
def rowBusy (s : State) (x : Stripe) (r : Nat) : Bool :=
  s.vault.programs.any (fun p => decide (p.set ∈ x.sets) && p.row == r && !p.own)

/-- VAULT_OPERATION_DONE (R398, R402, R409): a program, read or erase of a set reports success. -/
def execVaultOperationDone (set : Nat) (kind : VaultOpKind) (s : State) : Host.Outcome State Fault Refusal :=
  if vaultUp s then
    let s := modVault (fun v => { v with timeouts := Tab.del v.timeouts (setDie set) }) s
    match kind with
    | .read => finish (modHealth (fun h => { h with bytesRead := h.bytesRead + diePage }) s)
    | .erase =>
      if set ∈ s.vault.erasing then
        let w := (getSet s set).wear + if (getSet s set).mode = 2 then 10 else 1
        let s := modSet set (fun v => { v with state := .erased, wear := w, mode := 0, valid := 0 }) s
        let s := modVault (fun v => { v with erasing := v.erasing.filter (· != set) }) s
        finish (vaultCheck s)
      else finish s
    | .program =>
      match s.vault.stripes.find? (fun x => x.parity == set) with
      | some x =>
        let rows := (s.vault.programs.filter (fun p => decide (p.set ∈ x.sets))).map (·.row)
        match (rows.filter (fun r => !rowBusy s x r)).head? with
        | some r =>
          finish (modHealth (fun h => { h with bytesWritten := h.bytesWritten + diePage })
            (modVault (fun v => { v with
              programs := v.programs.filter (fun p => !(decide (p.set ∈ x.sets) && p.row == r)) }) s))
        | none => finish s
      | none =>
        match s.vault.programs.find? (fun p => p.set == set && !p.own) with
        | some q =>
          finish (modVault (fun v => { v with
            programs := v.programs.map (fun p => if p = q then { p with own := true } else p) }) s)
        | none => finish s
  else finish s

end Sys2Proof.Machine
end

