-- ==== Sys2Proof/Machine/LedgerOps.lean ====
section
/-! DEFINITION. The ledger's flush, its reading and its clearing (16). -/

namespace Sys2Proof.Machine

/-- The state with the ledger changed by `f`. -/
def modLed (f : Ledger → Ledger) (s : State) : State := { s with led := f s.led }

/-- LEDGER_STATE: 0 RECORDING, 1 FULL, 2 SRAM_ONLY (R524, R525, R535). -/
def ledgerState (s : State) : Nat := if s.vault.failed then 2 else if s.led.full then 1 else 0

/-- The records of the ring that the region does not hold yet (R522). -/
def unflushed (s : State) : List LedRec :=
  (s.led.ring.filter (fun e => e.2.seq != 0 && decide (s.led.flushed < e.2.seq))).map (·.2)

/-- Unflushed bytes (R522). -/
def unflushedBytes (s : State) : Nat := sumNat ((unflushed s).map (fun r => ledLen r.detail))

/-- The page that takes the next record of a region, in page order; a record never spans two pages (R523). -/
def regionPage (region : List (Nat × LedRec)) (len : Nat) : Nat :=
  let place := ledRegionPlace region
  if place.2 + len ≤ ledPageBytes then place.1 else place.1 + 1

/-- The region with a record appended (R523). -/
def regionAppend (region : List (Nat × LedRec)) (r : LedRec) : List (Nat × LedRec) :=
  region ++ [(regionPage region (ledLen r.detail), r)]

/-- A flush: the unflushed records go to the vault's LEDGER region, sealed, page by page (R448, R522, R523). Before the vault is
mounted and with a FAILED vault there is no region to write. -/
def ledgerFlush (s : State) : State :=
  if s.vault.failed || !s.led.mounted then s
  else
    let rs := unflushed s
    let region := rs.foldl regionAppend s.led.region
    let first := (s.led.region.getLast?.map (·.1)).getD 0
    let pages := dedup ((region.map (·.1)).filter (fun p => decide (first ≤ p)))
    let s := modLed (fun l => { l with
      region := region, flushed := (rs.getLast?.map (·.seq)).getD l.flushed, lastFlush := s.clk.now }) s
    if rs.isEmpty then s
    else pages.foldl (fun s p => storeWrite (ledgerLpn + p) s) (gcmUse .vsk pages.length diePage s)

/-- REGION_BYTES: the pages the region uses, in bytes (R535; log entry 22). -/
def regionBytes (s : State) : Nat :=
  match s.led.region.getLast? with
  | some e => (e.1 + 1) * diePage
  | none => 0

/-- The stored records in SEQ order: those of the region and the unflushed ones of the ring (R530). -/
def storedRecords (s : State) : List LedRec :=
  if s.vault.failed then (s.led.ring.map (·.2)).filter (fun r => r.seq != 0)
  else s.led.region.map (·.2) ++ unflushed s

/-- FIRST_SEQ: the oldest stored record, 0 when none (R535). -/
def firstSeq (s : State) : Nat := ((storedRecords s).head?.map (·.seq)).getD 0

/-- LAST_SEQ: the last SEQ assigned, 0 before the mount (R535). -/
def lastSeq (s : State) : Nat := s.led.nextSeq - 1

/-- As many whole records as fit in `n` bytes. -/
def takeRecords : Nat → List LedRec → Bytes
  | _, [] => []
  | n, r :: t => if ledLen r.detail ≤ n then ledBytes r ++ takeRecords (n - ledLen r.detail) t else []

/-- LEDGER_READ for a LEDGER_SELECT (R530): none answers NOT_FOUND. -/
def ledgerReadFrom (s : State) (sel : Nat) : Option Bytes :=
  let rs := (storedRecords s).filter (fun r => decide (sel ≤ r.seq))
  if rs.isEmpty then none else some (takeRecords 8192 rs)

/-- The oldest sequenced record of the ring, with its offset (R528). -/
def ringLow (l : Ledger) : Option (Nat × LedRec) := l.ring.find? (fun e => e.2.seq != 0)

/-- LOW_SEQ of the window's header (R528). -/
def lowSeq (l : Ledger) : Nat := ((ringLow l).map (·.2.seq)).getD 0

/-- HIGH_SEQ of the window's header: the newest record of the ring (R528). -/
def highSeq (l : Ledger) : Nat := ((l.ring.filter (fun e => e.2.seq != 0)).getLast?.map (·.2.seq)).getD 0

/-- The header of the read window (R528). -/
def windowHeader (s : State) : Bytes :=
  fit 64 (leBytes 4 0x594C4757 ++ leBytes 4 s.led.gen ++ leBytes 8 (lowSeq s.led) ++
    leBytes 4 (((ringLow s.led).map (·.1)).getD 0) ++ leBytes 4 s.led.writeOff ++ leBytes 8 (highSeq s.led) ++
    leBytes 8 s.led.dropped ++ leBytes 1 (ledgerState s))

/-- A PAD record (R517): LEN 16, CODE 0, a valid CRC and SEQ zero. -/
def padBytes : Bytes :=
  let b (crc : Nat) : Bytes := leBytes 2 16 ++ leBytes 2 0 ++ leBytes 4 crc ++ leBytes 8 0
  b (crc32c (b 0))

/-- Where the ring's PAD lies: behind the record that the record at offset 0 followed (R517). -/
def padOffset : List (Nat × LedRec) → Option Nat
  | e :: f :: t =>
    if f.1 == 0 && decide (e.1 + ledLen e.2.detail < ledRingSize) then some (e.1 + ledLen e.2.detail)
    else padOffset (f :: t)
  | _ => none

/-- The byte of the SRAM ring at an offset: of the record or the PAD that covers it, else zero (R517, R528). -/
def ringByte (s : State) (o : Nat) : Byte :=
  let covers := fun (e : Nat × LedRec) => decide (e.1 ≤ o) && decide (o < e.1 + ledLen e.2.detail)
  match s.led.ring.find? covers, padOffset s.led.ring with
  | some e, _ => (ledBytes e.2).getD (o - e.1) 0
  | none, some p => if p ≤ o then padBytes.getD (o - p) 0 else 0
  | none, none => 0

/-- The ledger is cleared (R531) by the session of a credential slot over a channel code; LOW_SEQ and HIGH_SEQ are those
of the window's header (R528; log entry 156). -/
def ledgerClear (slot chan : Nat) (s : State) : State :=
  let d := leBytes 8 (lowSeq s.led) ++ leBytes 8 (highSeq s.led) ++ leBytes 8 s.led.dropped ++
    leBytes 8 s.led.suppressedTotal ++ leBytes 1 slot ++ leBytes 1 chan
  let pages := dedup (s.led.region.map (·.1))
  let s := pages.foldl (fun s p => trimPage (ledgerLpn + p) s) s
  let s := modLed (fun l => { l with
    ring := [], writeOff := 0, flushed := l.nextSeq - 1, region := [], page := 0, bytes := 0, full := false,
    dropped := 0, lastClear := s.clk.now, gen := l.gen + 2 }) s
  ledPass 0xCB01 1 0 d s

/-- What a module reset or power-off does to the ledger: the ring loses its content, the limits start again (R521,
R526, R535). -/
def ledgerReset (l : Ledger) : Ledger :=
  { l with ring := [], writeOff := 0, mounted := false, buckets := [], supp := [], suppressed := [],
           suppressedTotal := 0 }

/-- May a flush run now: not in OFF, and after a management restart (R522)? -/
def flushMayRun (s : State) : Bool := s.pw.state != .off && !s.pw.mgmtRestarting

/-- LEDGER_FLUSH_EXPIRY (R522): LEDGER_FLUSH has passed since the last flush. -/
def execLedgerFlushExpiry (s : State) : Host.Outcome State Fault Refusal :=
  if flushMayRun s then finish (ledgerFlush s) else finish s

/-- LEDGER_FLUSH (R522, R523): one of the other causes of a flush holds: 4 MiB unflushed, or a CRITICAL record. -/
def execLedgerFlush (s : State) : Host.Outcome State Fault Refusal :=
  if flushMayRun s && (decide (4 * 2 ^ 20 ≤ unflushedBytes s) || (unflushed s).any (fun r => r.sev == 2)) then
    finish (ledgerFlush s)
  else finish s

end Sys2Proof.Machine
end

