-- ==== Sys2Proof/Machine/EtuOps.lean ====
section
/-! DEFINITION. The Extent Translation Unit's operations: page maps and their residency, faces, log extents, benches in
flight, merges and discards (R195 to R219, R273 to R276). -/

namespace Sys2Proof.Machine

/-- The state with the ETU's own part changed by `f`. -/
def modEtu (f : Etu → Etu) (s : State) : State := { s with etu := f s.etu }

/-! ### Map pages (R204, R273 to R277) -/

/-- Pool slots (R190). -/
def poolSlots : Nat := 393216

/-- Map pages at most: the pool alone while the vault is failed (R204, R277). -/
def mapPagesMax (s : State) : Nat := if s.vault.failed then poolSlots else 16777216

/-- The residency entry of a map page. -/
def getRes (s : State) (n : Nat) : Residency :=
  Tab.atD s.qm.residency n
    { slot := 0, resident := false, dirty := false, fetching := false, pinned := false, used := false, oldest := 0 }

/-- The state with the residency entry of a map page changed. -/
def modRes (n : Nat) (f : Residency → Residency) (s : State) : State :=
  modQm (fun q => { q with residency := Tab.put n (f (getRes s n)) q.residency }) s

/-- Pool slots in use. -/
def poolUsed (s : State) : List Nat :=
  (s.qm.residency.filter (fun e => e.2.resident || e.2.fetching)).map (fun e => e.2.slot)

/-- Do the benches in flight, or those being packed, carry a page of which a condition holds, or does a page-map entry of
such a page await its commit (R101)? -/
def carries (s : State) (ok : (v x p : Nat) → Bool) : Bool :=
  s.etu.packs.any (fun k => k.pages.any (fun q => ok k.volume q.extent q.page)) ||
    s.etu.inflight.any (fun f => f.kind == .log && f.pages.any (fun q => ok f.volume q.extent q.page)) ||
    s.cache.slots.any (fun e => e.2.undo.isSome && (match getVol s e.2.volume with
      | some vol => ok e.2.volume (e.2.page / max 1 vol.extentPages) (e.2.page % max 1 vol.extentPages)
      | none => false))

/-- Is a map page's slot pinned: an update to the page is in flight, its extent merges, or it is FETCHING (R273)? -/
def mapPinned (s : State) (n : Nat) : Bool :=
  (getRes s n).fetching || carries s (fun v x p => mapPageOf s v x p == some n) ||
    s.etu.merges.any (fun m => match (getExt s m.volume m.extent).pmd with
      | some d => (Tab.atD s.tabs.dirs d []).any (fun e => e.2 == n)
      | none => false)

/-- PINNED of every residency entry shows what pins its slot (R273). -/
def pinSync (s : State) : State :=
  modQm (fun q => { q with residency := q.residency.map (fun e => (e.1, { e.2 with pinned := mapPinned s e.1 })) }) s

/-- Residency entries that may lose their slot, in the order of their slots from the hand (R275). -/
def poolOrder (s : State) : List (Nat × Residency) :=
  sortBy (fun e => (e.2.slot + poolSlots - s.qm.hand % poolSlots) % poolSlots)
    (s.qm.residency.filter (fun e => e.2.resident && !mapPinned s e.1))

/-- The victim of the second-chance sweep, and the pages that the sweep passes over (R275). -/
def poolVictim (s : State) : Option (Nat × List Nat) :=
  let o := poolOrder s
  match o.find? (fun e => !e.2.used), o with
  | some e, _ => some (e.1, (o.takeWhile (fun f => f.2.used)).map (·.1))
  | none, e :: _ => some (e.1, o.map (·.1))
  | none, [] => none

/-- May the store take a write now: it works, and no test holds it? -/
def storeTakes (s : State) : Bool := !s.vault.failed && !vaultHeld s

/-- A dirty map page is written to the MAP region, sealed, and is clean (R275, R276, R448). -/
def writeMap (n : Nat) (s : State) : State :=
  modRes n (fun r => { r with dirty := false, oldest := 0 }) (gcmUse .vsk 1 4096 (storeWrite n s))

/-- A free pool slot, else that of the victim: the sweep clears the marks that it passes, a dirty victim is written back
first (R274, R275). None while every slot is pinned or cannot be written back, and while paging is disabled (R277). -/
def takePool (s : State) : Option (Nat × State) :=
  let used := poolUsed s
  match (List.range (used.length + 1)).find? (fun i => !decide (i ∈ used)) with
  | some i =>
    if i < poolSlots then some (i, s)
    else match poolVictim s with
      | some (n, passed) =>
        let r := getRes s n
        if s.vault.failed || (r.dirty && !storeTakes s) then none
        else
          let s := if r.dirty then writeMap n s else s
          let s := passed.foldl (fun s m => modRes m (fun e => { e with used := false }) s) s
          some (r.slot, modQm (fun q => { q with hand := r.slot + 1 })
            (modRes n (fun e => { e with resident := false, used := false }) s))
      | none => none
  | none => none

/-- Is the map page of page `p` of an extent at hand: resident, or not created yet (R274)? -/
def mapReady (s : State) (v x p : Nat) : Bool :=
  match mapPageOf s v x p with
  | some n => (getRes s n).resident
  | none => true

/-- A page-map lookup uses the slot of its map page (R275). -/
def useMap (v x p : Nat) (s : State) : State :=
  match mapPageOf s v x p with
  | some n => modRes n (fun r => { r with used := true }) s
  | none => s

/-- The lines of the tables that a lookup of pages reads (R190, R355): the volume table entry, the extent map entries, and
for each extent its group descriptor and its page-map directory. -/
def tableLines (s : State) (v : Nat) (vol : Volume) (pages : List Nat) : List Nat :=
  let xs := dedup (pages.map (· / max 1 vol.extentPages))
  tableLine 4 8256 v ::
    xs.filterMap (fun x => (extIndex vol x).map (tableLine 0 16)) ++
    xs.filterMap (fun x => (getExt s v x).group.map (tableLine 1 128)) ++
    dedup (pages.filterMap (fun g => (getExt s v (g / max 1 vol.extentPages)).pmd.map (fun d =>
      tableLine 3 4 (192 * d + g % max 1 vol.extentPages / 8192))))

/-- The lines that the log copies of pages need: the page-map entries, the log extent descriptors and their groups. -/
def logLines (s : State) (v : Nat) (vol : Volume) (pages : List Nat) : List Nat :=
  dedup (pages.flatMap (fun g =>
    let x := g / max 1 vol.extentPages
    let p := g % max 1 vol.extentPages
    (match mapPageOf s v x p with
      | some n => [poolLine (getRes s n).slot p]
      | none => []) ++
    (match pmEntry s v x p with
      | some e => tableLine 2 32 e.logIx :: ((getLog s e.logIx).map (fun l => tableLine 1 128 l.group)).toList
      | none => [])))

/-- The lookups of pages of a volume go through the map cache (R179, R190, R369), and mark the map pages (R275). -/
def lookUp (v : Nat) (vol : Volume) (pages : List Nat) (s : State) : State :=
  let s := (tableLines s v vol pages ++ logLines s v vol pages).foldl (fun s a => mcRead a s) s
  pages.foldl (fun s g => useMap v (g / max 1 vol.extentPages) (g % max 1 vol.extentPages) s) s

/-- Page-map directories at most (R190). -/
def dirMax : Nat := 262144

/-- An extent gains its page-map directory, the lowest free one (R204; log entry 162). None: all are in use. -/
def needDir (v x : Nat) (s : State) : Option (Nat × State) :=
  match (getExt s v x).pmd, Tab.firstFree s.tabs.dirs 0 (s.tabs.dirs.length + 1) with
  | some d, _ => some (d, s)
  | none, some d =>
    if dirMax ≤ d then none
    else some (d, modExt v x (fun e => { e with pmd := some d }) (modTabs (fun t => { t with dirs := Tab.put d [] t.dirs }) s))
  | none, none => none

/-- A new map page takes the lowest free number and a pool slot (R204, R274; log entry 162). None: no number or no slot
is to be had. -/
def newMapPage (d i : Nat) (s : State) : Option (Nat × State) :=
  match Tab.firstFree s.tabs.mapPages 0 (s.tabs.mapPages.length + 1), takePool s with
  | some n, some (sl, s) =>
    if mapPagesMax s ≤ s.tabs.mapPages.length then none
    else
      let s := modTabs (fun t => { t with
        dirs := Tab.put d (Tab.put i n (Tab.atD t.dirs d [])) t.dirs, mapPages := Tab.put n [] t.mapPages }) s
      some (n, modRes n (fun r => { r with slot := sl, resident := true, used := true }) s)
  | _, _ => none

/-- The map page for page `p` of an extent, created when the first page of its range goes to the log (R204, R274). -/
def needMapPage (v x p : Nat) (s : State) : Option (Nat × State) :=
  (needDir v x s).bind (fun e => match Tab.at? (p / 8192) (Tab.atD e.2.tabs.dirs e.1 []) with
    | some n => some (n, e.2)
    | none => newMapPage e.1 (p / 8192) e.2)

/-- A log copy dies: its log extent counts one live page less (R207). -/
def killLogPage (e : PmEntry) : State → State := modLog e.logIx (fun l => { l with live := l.live - 1 })

/-- A map page changes; it is DIRTY since the record given (R276). -/
def modMap (n seq : Nat) (f : Tab PmEntry → Tab PmEntry) (s : State) : State :=
  let s := modTabs (fun t => { t with mapPages := Tab.put n (f (Tab.atD t.mapPages n [])) t.mapPages }) s
  modRes n (fun r => { r with dirty := true, oldest := if r.dirty then r.oldest else seq }) s

/-- A page-map entry takes a new value; the copy that it named before lives on (R204). -/
def putPm (v x p seq : Nat) (e : PmEntry) (s : State) : State :=
  let add := b2n (pmEntry s v x p).isNone
  match needMapPage v x p s with
  | none => s
  | some (n, s) => modMap n seq (Tab.put (p % 8192) e) (modExt v x (fun y => { y with logPages := y.logPages + add }) s)

/-- A page-map entry takes a new value, and the copy that it named before dies (R204, R207). -/
def setPm (v x p seq : Nat) (e : PmEntry) (s : State) : State :=
  putPm v x p seq e (match pmEntry s v x p with
    | some o => killLogPage o s
    | none => s)

/-- An extent releases its directory and map pages; the vault's copies are trimmed (R207, R213, R399). -/
def releaseMaps (v x : Nat) (s : State) : State :=
  match (getExt s v x).pmd with
  | none => s
  | some d =>
    let ns := (Tab.atD s.tabs.dirs d []).map (·.2)
    let s := modTabs (fun t => { t with
      dirs := Tab.del t.dirs d, mapPages := t.mapPages.filter (fun e => !decide (e.1 ∈ ns)) }) s
    let s := modQm (fun q => { q with residency := q.residency.filter (fun e => !decide (e.1 ∈ ns)) }) s
    let s := ns.foldl (fun s n => trimPage n s) s
    modExt v x (fun e => { e with pmd := none, logPages := 0 }) s

/-- An extent without log pages, of which nothing is on its way to the log, releases its maps (R207). -/
def releaseIdle (v x : Nat) (s : State) : State :=
  if (getExt s v x).logPages = 0 ∧ carries s (fun w y _ => w == v && y == x) = false then releaseMaps v x s else s

/-- A page-map entry is invalidated; the copy that it named lives on. -/
def dropPm (v x p seq : Nat) (s : State) : State :=
  match pmEntry s v x p, mapPageOf s v x p with
  | some _, some n =>
    releaseIdle v x (modMap n seq (fun t => Tab.del t (p % 8192))
      (modExt v x (fun y => { y with logPages := y.logPages - 1 }) s))
  | _, _ => s

/-- A page-map entry is invalidated, and the copy that it named dies (R207, R217). -/
def clearPm (v x p seq : Nat) (s : State) : State :=
  match pmEntry s v x p with
  | some o => dropPm v x p seq (killLogPage o s)
  | none => s

/-- A page-map entry that a cancelled write had replaced before its commit returns; a LOG_BENCH record says so, with an
entry that names the old slot again, or no block of the new one where there was no old one (R101; log entry 160). -/
def revertPm (v x p : Nat) (old : Option PmEntry) (s : State) : State :=
  match pmEntry s v x p with
  | none => s
  | some new =>
    let e := old.getD { new with bmask := 0 }
    match getLog s e.logIx with
    | none => s
    | some l =>
      let n := 32 * ((getGroup s l.group).map (·.k)).getD 1
      let s := journal (.logBench e.logIx v (e.slot / n) 0 [⟨x, p, e.bmask, e.slot % n⟩]) (killLogPage new s)
      match old with
      | some o => putPm v x p s.jr.last o s
      | none => dropPm v x p s.jr.last s

/-- The benches in flight of a group. -/
def flightOf (s : State) (g : Nat) : List Inflight := s.etu.inflight.filter (fun f => f.group == g)

/-- A closed log extent without live pages is freed with a LOG_FREE record, and its chunks become spoil (R207). One with a
bench in flight waits for it. -/
def freeLogs (s : State) : State :=
  (s.tabs.logs.filter (fun e => e.2.state == .closed && e.2.live == 0 && (flightOf s e.2.group).isEmpty)).foldl (fun s e =>
    let s := journal (.logFree e.1 e.2.volume e.2.group) s
    spoilGroup e.2.group (modTabs (fun t => { t with logs := Tab.del t.logs e.1 }) s)) s

/-- Every log page of an extent dies, and with it its directory and map pages (R207, R213, R216). -/
def dropExtentMaps (v x : Nat) (s : State) : State :=
  releaseMaps v x ((extPages s v x).foldl (fun s e => killLogPage e.2 s) s)

/-! ### Poison (R304, R305) -/

/-- The layout of a poison entry (R304). -/
def Poison.bytes (p : Poison) : Bytes :=
  leBytes 4 p.group ++ leBytes 2 p.bench ++ leBytes 2 p.volume ++ leBytes 4 p.owner ++ leBytes 1 p.cause ++ zeros 3

/-- A bench is poisoned; when the table is full only the event is recorded (R304). -/
def addPoison (p : Poison) (s : State) : State :=
  if s.tabs.poison.any (fun q => q.group == p.group && q.bench == p.bench) then s
  else
    let full := decide (65536 ≤ s.tabs.poison.length)
    let s := if full then s else modTabs (fun t => { t with poison := t.poison ++ [p] }) s
    event 0x4303 2 p.volume (p.bytes ++ leBytes 1 (b2n full)) s

/-- Is a bench poisoned (R304)? -/
def poisoned (s : State) (g b : Nat) : Bool := s.tabs.poison.any (fun q => q.group == g && q.bench == b)

/-! ### Faces (R195 to R200) -/

/-- Open faces of the module, with volume and extent, oldest write first. -/
def openFaces (s : State) : List (Nat × Nat × Nat) :=
  sortBy (fun e => e.2.2) ((s.tabs.exts.filter (fun e => e.2.state == .face)).filterMap (fun e =>
    (extOwner s e.1).map (fun o => (o.1, o.2, e.2.touched))))

/-- The extent is written now: the last in the order of writes. -/
def touchExt (v x : Nat) (s : State) : State :=
  modEtu (fun e => { e with nextTouch := e.nextTouch + 1 })
    (modExt v x (fun y => { y with touched := s.etu.nextTouch + 1 }) s)

/-- A face closes (R199). -/
def closeFace (v x : Nat) (s : State) : State :=
  match (getExt s v x).group with
  | some g =>
    let f := ((getGroup s g).map (·.fill)).getD 0
    let s := journal (.faceClose g x f f v) s
    modGroup g (fun y => { y with state := .closed }) (modExt v x (fun e => { e with state := .closed }) s)
  | none => s

/-- Faces open in the module, those of extents that merge among them (R196). -/
def faceCount (s : State) : Nat := (s.tabs.groups.filter (fun e => e.2.state == .face)).length

/-- Faces close, the least recently written first, until `room` more may open (R196, R199). One with a bench in flight
waits until the bench is visible. -/
def trimFaces (room : Nat) : Nat → State → State
  | 0, s => s
  | n + 1, s =>
    if faceCount s + room ≤ cfgFacesMax s then s
    else match openFaces s with
      | f :: _ =>
        if ((getExt s f.1 f.2.1).group.map (fun g => (flightOf s g).isEmpty)).getD true then
          trimFaces room n (closeFace f.1 f.2.1 s)
        else s
      | [] => s

/-- A face opens on a new stripe group (R196); others close first when it would be one too many. -/
def openFace (v x : Nat) (s : State) : State :=
  let s := trimFaces 1 (faceCount s) s
  if cfgFacesMax s ≤ faceCount s then s
  else
  let n := ((getVol s v).map (fun y => y.k + y.m)).getD 0
  match allocGroup v .face 1 x (newTier s n) s with
  | (some g, s) =>
    match getGroup s g with
    | some y =>
      let s := journal (.faceOpen v y.gattr y.k y.m x g (y.members.map (·.chunk))) s
      touchExt v x (modExt v x (fun e => { e with state := .face, group := some g }) s)
    | none => s
  | (none, s) => s

/-- FILL of an extent's group. -/
def extFill (s : State) (v x : Nat) : Nat :=
  (((getExt s v x).group.bind (getGroup s)).map (·.fill)).getD 0

/-- The store is FULL (R413, R414). -/
def vaultFull (s : State) : Bool := vaultState s == 2

/-- Does a page destaged now go to the face (R195)? Under a FULL store the window does not apply (R414). -/
def faceBound (s : State) (v x p k : Nat) : Bool :=
  let e := getExt s v x
  let b := pageBench k p
  (pmEntry s v x p).isNone &&
    (e.state == .none ||
      (e.state == .face && decide (extFill s v x ≤ b) &&
        (decide (b ≤ extFill s v x + cfgFaceWindow s) || vaultFull s)))

/-- The bench that a group's next write fills: FILL, or the one after those in flight (R197, R209). -/
def nextBench (s : State) (g : Nat) : Nat :=
  ((getGroup s g).map (·.fill)).getD 0 + (flightOf s g).length

/-- The pages of a bench of an extent, as page numbers of the extent. -/
def pagesOfBench (k b : Nat) : List Nat := (List.range (benchPages k)).map (fun i => b * benchPages k + i)

/-- The slot that destage would write for a page of an extent: its STAGED copy, which is the newer, else its DIRTY one
(R200, R201). -/
def dirtySlotOf (s : State) (v : Nat) (vol : Volume) (x p : Nat) : Option (Nat × Slot) :=
  let page := x * vol.extentPages + p
  let mine := s.cache.slots.filter (fun e => e.2.volume == v && e.2.page == page)
  match mine.find? (fun e => e.2.state == .staged) with
  | some e => some e
  | none => mine.find? (fun e => e.2.state == .dirty)

/-- The pages of bench `b` that the cache holds and that no log copy overlays, by a choice of their slots. -/
def benchHeld (s : State) (v : Nat) (x b k : Nat) (slot : Nat → Option (Nat × Slot)) : List (Nat × Nat × Slot) :=
  (pagesOfBench k b).filterMap (fun p =>
    if (pmEntry s v x p).isSome then none else (slot p).map (fun e => (p, e.1, e.2)))

/-- Does the cache hold every page of a bench (R197)? -/
def benchWhole (s : State) (v : Nat) (vol : Volume) (x b : Nat) : Bool :=
  (benchHeld s v x b vol.k (dirtySlotOf s v vol x)).length == benchPages vol.k

/-- The DIRTY slot of a page of an extent. -/
def committedSlotOf (s : State) (v : Nat) (vol : Volume) (x p : Nat) : Option (Nat × Slot) :=
  s.cache.slots.find? (fun e => e.2.volume == v && e.2.page == x * vol.extentPages + p && e.2.state == .dirty)

/-- The pages of bench `b` that its write takes from the cache (R197): STAGED ones only when the cache holds the whole
bench (R201). -/
def benchSlots (s : State) (v : Nat) (vol : Volume) (x b : Nat) : List (Nat × Nat × Slot) :=
  benchHeld s v x b vol.k (if benchWhole s v vol x b then dirtySlotOf s v vol x else committedSlotOf s v vol x)

/-- Does cache pressure ask for packed benches: all at 90 % and above, those older than 100 ms from 75 % (R364), and all
while the journal ring has no room for a commit (R222)? -/
def pressure (s : State) (oldest : Nat) : Bool :=
  ringFull s || decide (9000 ≤ dirtyFill s) || (decide (7500 ≤ dirtyFill s) && decide (oldest + 100000000 < s.clk.uptime)) ||
    (s.cache.mode == 2)

/-- Are all members of a group there to be written: OK or REBUILDING, on drives in service, headers reported (R211,
R233)? -/
def groupWritable (s : State) (g : Group) : Bool :=
  g.members.all (fun m => (m.state == .ok || m.state == .rebuilding) && chunkUp s m.chunk &&
    !(getChunk s m.chunk).hdrPending)

/-- The data sett at position `pos` of a face bench: pages held, zeros elsewhere (R197). -/
def faceSett (pages : List (Nat × Nat × Slot)) (k b pos : Nat) : Bytes :=
  ((List.range settPages).map (fun i =>
    match pages.find? (fun e => e.1 == b * benchPages k + pos * settPages + i) with
    | some e => fit 4096 e.2.2.data
    | none => zeros 4096)).flatten

/-- The setts of a bench go to the queues of the drives of its members, enciphered after the encode (R189, R281, R294). -/
def writeBench (flow : Flow) (g : Nat) (grp : Group) (b : Nat) (setts : Tab Bytes) (s : State) : State :=
  setts.foldl (fun s e =>
    let mem := settMember grp.size b e.1
    let c := (grp.chunk? mem).getD 0
    match (grp.chunk? mem).bind (chunkDrive s) with
    | some d => settPass grp (enqueueOp d flow settBytes (.writeSett g b mem (settCipher Config.xtsEncrypt s grp c b e.2)) s)
    | none => s) s

/-- The share of drive time that a merge's reason draws on (R282): MERGE, MIGRATE or REKEY. -/
def mergeKind (reason : Nat) : Nat := if reason = 5 then 2 else if reason = 6 then 3 else 1

/-- The flow of a bench's writes (R281, R282). -/
def benchFlow (s : State) (f : Inflight) (vol : Volume) : Flow :=
  if f.kind = .target then
    .background (mergeKind (((s.etu.merges.find? (fun m => m.target == f.group)).map (·.reason)).getD 0))
  else .destage vol.cls

/-- An encode pass (R296): destage draws on the foreground queue of Cooper, a merge on the background one. It runs at once,
for no command leaves a pass waiting (R297, R298; log entry 161). -/
def encodePass (back : Bool) (s : State) : State :=
  { s with cooper := { s.cooper with streak := if back then 0 else s.cooper.streak + 1 } }

/-- A bench goes into flight: its pages' slots destage, its setts are queued, its data units are counted (R208,
R462). -/
def launchBench (f : Inflight) (vol : Volume) (grp : Group) (s : State) : State :=
  let s := f.pages.foldl (fun s p =>
    modSlot p.wc (fun x => if x.state == .dirty then { x with state := .destaging } else x) s) s
  let s := modEtu (fun e => { e with inflight := e.inflight ++ [f] }) s
  let s := countUnits f.volume (benchUnits vol) s
  writeBench (benchFlow s f vol) f.group grp f.bench f.data (encodePass (f.kind == .target) s)

/-- Data setts with their parities or copies, by position. -/
def encodeBench (vol : Volume) (data : List Bytes) : Tab Bytes :=
  let all := data ++ gfEncode vol.k vol.m data settBytes
  (List.range all.length).zip all

/-- May the next bench of a face be written: nothing in flight, or an atomic unit in flight that goes on in it (R197,
R209)? -/
def faceFree (s : State) (g : Nat) (pages : List (Nat × Nat × Slot)) : Bool :=
  let fl := flightOf s g
  fl.isEmpty || pages.any (fun e => e.2.2.atomic && fl.any (fun f => f.pages.any (fun q =>
    match Tab.at? q.wc s.cache.slots with
    | some y => y.atomic && y.jseq == e.2.2.jseq && y.port == e.2.2.port && y.tag == e.2.2.tag
    | none => false)))

/-- The bench of a face that is next is encoded, encrypted and written whole (R197). -/
def writeFace (v x : Nat) (s : State) : State :=
  match getVol s v, (getExt s v x).group with
  | some vol, some g =>
    match getGroup s g with
    | some grp =>
      let b := nextBench s g
      let pages := benchSlots s v vol x b
      if (getExt s v x).state = .face ∧ b < benchesPerGroup ∧ groupWritable s grp = true ∧ faceFree s g pages = true ∧
          cipherReady s v vol = true ∧ keySpent s vol = false then
        let data := (List.range vol.k).map (faceSett pages vol.k b)
        launchBench { kind := .face, volume := v, extent := x, logIx := 0, group := g, bench := b
                      pages := pages.map (fun e => ⟨x, e.1, fullMask, 0, e.2.1⟩), onMedia := false
                      data := encodeBench vol data } vol grp s
      else s
    | none => s
  | _, _ => s

/-! ### Log extents (R202 to R205) -/

/-- Log extents at most (R202). -/
def logMax : Nat := 65536

/-- A volume opens a log extent (R202), of the lowest free index (R207; log entry 162); a FULL store allows none beyond the
number when FULL began, a failed vault none beyond what the pool holds (R70, R414). -/
def openLog (v : Nat) (s : State) : State :=
  let n := s.tabs.logs.length
  let cap := match s.vault.logCap with
    | some c => if vaultFull s then c else logMax
    | none => logMax
  if logMax ≤ n ∨ cap ≤ n then s
  else
    let ix := (Tab.firstFree s.tabs.logs 0 (n + 1)).getD 0
    let w := ((getVol s v).map (fun y => y.k + y.m)).getD 0
    match allocGroup v .log 2 ix (newTier s w) s with
    | (some g, s) =>
      match getGroup s g with
      | some y =>
        let s := journal (.logOpen v y.gattr y.k y.m ix g (y.members.map (·.chunk))) s
        let l : LogExtent := { group := g, volume := v, state := .opened, fill := 0, live := 0, openJseq := s.jr.last }
        modVol v (fun z => { z with openLog := some ix }) (modTabs (fun t => { t with logs := Tab.put ix l t.logs }) s)
      | none => s
    | (none, s) => s

/-- A log extent closes (R202). -/
def closeLog (ix : Nat) (s : State) : State :=
  match getLog s ix with
  | some l =>
    let s := journal (.logClose ix l.volume l.group) s
    let s := modLog ix (fun y => { y with state := .closed }) s
    freeLogs (modVol l.volume (fun z => if z.openLog = some ix then { z with openLog := none } else z) s)
  | none => s

/-- The bench that a volume's open log extent packs. -/
def packOf (s : State) (v : Nat) : Pack := (s.etu.packs.find? (fun p => p.volume == v)).getD ⟨v, [], 0⟩

/-- The state with a volume's pack replaced; an empty one is not listed. -/
def setPack (p : Pack) : State → State :=
  modEtu (fun e => { e with packs := e.packs.filter (fun q => q.volume != p.volume) ++ (if p.pages.isEmpty then [] else [p]) })

/-- The pages that one log bench takes (R202). -/
def packMax (k : Nat) : Nat := 31 * k

/-- Do two slots belong to one atomic unit (R174)? -/
def sameUnit (x y : Slot) : Bool :=
  x.atomic && y.atomic && x.jseq == y.jseq && x.port == y.port && x.tag == y.tag && x.volume == y.volume

/-- Is a slot of a volume packed or in flight to its log? -/
def goneToLog (s : State) (v wc : Nat) : Bool :=
  (packOf s v).pages.any (fun q => q.wc == wc) ||
    s.etu.inflight.any (fun f => f.kind == .log && f.volume == v && f.pages.any (fun q => q.wc == wc))

/-- The log-bound pages of an atomic unit that are still to be packed: those of its slots that do not go to a face. -/
def unitLeft (s : State) (v : Nat) (vol : Volume) (x : Slot) : Nat :=
  (s.cache.slots.filter (fun e => sameUnit x e.2 && (e.2.state == .dirty || e.2.state == .staged) &&
    !goneToLog s v e.1 &&
    !faceBound s v (e.2.page / max 1 vol.extentPages) (e.2.page % max 1 vol.extentPages) vol.k)).length

/-- The pages that an open log extent still takes: those of its benches beyond the ones in flight, less those packed. -/
def logLeft (s : State) (v ix : Nat) : Nat :=
  match getLog s ix with
  | some l => (benchesPerGroup - nextBench s l.group) * packMax (((getVol s v).map (·.k)).getD 0) -
      (packOf s v).pages.length
  | none => 0

/-- Is a page of an atomic unit packed or in flight to the log already? -/
def unitStarted (s : State) (v : Nat) (x : Slot) : Bool :=
  s.cache.slots.any (fun e => sameUnit x e.2 && goneToLog s v e.1)

/-- The pages that atomic units of a volume whose packing has begun have still to pack. -/
def promised (s : State) (v : Nat) (vol : Volume) : Nat :=
  (s.cache.slots.filter (fun e => e.2.atomic && e.2.volume == v && (e.2.state == .dirty || e.2.state == .staged) &&
    !goneToLog s v e.1 && unitStarted s v e.2 &&
    !faceBound s v (e.2.page / max 1 vol.extentPages) (e.2.page % max 1 vol.extentPages) vol.k)).length

/-- A page joins the pack of its volume's log bench (R200, R202). Its map page is created when there is none (R204), and is
pinned (R273). While no map page is to be had the page waits (R274). -/
def packPage (v x p mask wc : Nat) (s : State) : State :=
  let pk := packOf s v
  if pk.pages.any (fun q => q.extent == x && q.page == p) then s
  else match needMapPage v x p s with
    | some (_, s) =>
      pinSync (useMap v x p (setPack { pk with
        pages := pk.pages ++ [⟨x, p, mask, 0, wc⟩]
        since := if pk.pages.isEmpty then s.clk.uptime else pk.since } s))
    | none => s

/-- Slot `i` of a log bench lies at sett `i / 31`, page `i % 31` (R203). -/
def logSlot (i : Nat) : Nat := i / 31 * 32 + i % 31

/-- The index page of a sett of a log bench before its sealing (R203). -/
def indexPlain (vol : Volume) (v ix b pos jseq : Nat) (pages : List BenchPage) : Bytes :=
  let mine := pages.filter (fun p => p.slot / 32 == pos)
  let entry (i : Nat) : Bytes :=
    match mine.find? (fun p => p.slot % 32 == i) with
    | some p => leBytes 8 (p.extent * vol.extentPages + p.page + p.bmask * 2 ^ 42 + 2 ^ 50)
    | none => zeros 8
  fit 4068 (leBytes 2 v ++ leBytes 2 ix ++ leBytes 2 b ++ leBytes 1 pos ++ leBytes 1 mine.length ++ leBytes 8 jseq ++
    zeros 48 ++ ((List.range 31).map entry).flatten)

/-- An index page sealed under MK_g: bytes 0 to 15 authenticated, the rest enciphered, IV and tag at the end (R203). -/
def sealIndex (plain : Bytes) (s : State) : Bytes × State :=
  let iv := gcmIv s .mk
  let c := Config.gcmSeal (metaKeyNow s) iv (plain.take 16) (plain.drop 16)
  (fit 4096 (plain.take 16 ++ fit 4052 c.1 ++ iv ++ c.2), gcmUse .mk 1 4052 s)

/-- The data setts of a log bench: 31 slots and a sealed index page each (R202, R203). -/
def logSetts (vol : Volume) (v ix b jseq : Nat) (pages : List BenchPage) (s : State) : List Bytes × State :=
  (List.range vol.k).foldl (fun (acc : List Bytes × State) pos =>
    let (ixp, s') := sealIndex (indexPlain vol v ix b pos jseq pages) acc.2
    let data := ((List.range 31).map (fun i =>
      match pages.find? (fun p => p.slot == pos * 32 + i) with
      | some p => match Tab.at? p.wc s.cache.slots with
        | some x => fit 4096 x.data
        | none => zeros 4096
      | none => zeros 4096)).flatten
    (acc.1 ++ [data ++ ixp], s')) ([], s)

/-- The slot that a packed page is written from now: the newest DIRTY or STAGED one (R200). -/
def packSlots (s : State) (v : Nat) (vol : Volume) (pages : List BenchPage) : List BenchPage :=
  let live := pages.filterMap (fun p => (dirtySlotOf s v vol p.extent p.page).map (fun e =>
    { p with wc := e.1, bmask := if vol.emul then e.2.bmask else fullMask }))
  (live.zip (List.range live.length)).map (fun e => { e.1 with slot := logSlot e.2 })

/-- The packed log bench of a volume is written whole (R202), to a new log extent when none is open. The JSEQ in its index
pages is a free value, for the record comes later (log entry 25). -/
def writeLog (v : Nat) (s : State) : State :=
  let s := if ((getVol s v).bind (·.openLog)).isNone then openLog v s else s
  match getVol s v with
  | none => s
  | some vol =>
    match vol.openLog.bind (getLog s), vol.openLog with
    | some l, some ix =>
      match getGroup s l.group with
      | some grp =>
        let pages := packSlots s v vol (packOf s v).pages
        let b := nextBench s l.group
        if !pages.isEmpty && decide (b < benchesPerGroup) && groupWritable s grp && cipherReady s v vol &&
            !keySpent s vol then
          let (q, s) := drawNat s
          let (setts, s) := logSetts vol v ix b (q % 2 ^ 64) pages s
          let s := setPack ⟨v, [], 0⟩ s
          launchBench { kind := .log, volume := v, extent := 0, logIx := ix, group := l.group, bench := b, pages := pages
                        onMedia := false, data := encodeBench vol setts } vol grp s
        else if pages.isEmpty then setPack ⟨v, [], 0⟩ s
        else s
      | none => s
    | _, _ => s

/-! ### On media (R207 to R209) -/

/-- Is every sett of a bench written: no operation on it is queued or outstanding (R208)? -/
def benchWritten (s : State) (g b : Nat) : Bool :=
  let isIt (o : DriveOp) : Bool := match o.what with
    | .writeSett h c _ _ => h == g && c == b
    | _ => false
  s.qm.dispatchers.all (fun d => d.2.queue.all (fun q => !isIt q.op)) &&
    s.drv.drives.all (fun d => d.2.ops.all (fun o => o.ended || !isIt o))

/-- The atomic units whose pages a bench carries, by port, tag and commit. -/
def unitsOf (s : State) (f : Inflight) : List (Nat × Nat × Nat) :=
  dedup (f.pages.filterMap (fun p => match Tab.at? p.wc s.cache.slots with
    | some x => if x.atomic then some (x.port.val, x.tag, x.jseq) else none
    | none => none))

/-- The slots of an atomic unit that are not yet clean. -/
def unitSlots (s : State) (u : Nat × Nat × Nat) : List Nat :=
  (s.cache.slots.filter (fun e => e.2.atomic && e.2.port.val == u.1 && e.2.tag == u.2.1 && e.2.jseq == u.2.2 &&
    (e.2.state == .dirty || e.2.state == .destaging || e.2.state == .staged))).map (·.1)

/-- The benches whose records one record group holds: those that share atomic units with a bench, and so on (R209). -/
def unitClosure (s : State) : Nat → List Inflight → List Inflight
  | 0, l => l
  | n + 1, l =>
    let us := dedup ((l.map (unitsOf s)).flatten)
    let more := s.etu.inflight.filter (fun f => !decide (f ∈ l) && (unitsOf s f).any (fun u => decide (u ∈ us)))
    if more.isEmpty then l else unitClosure s n (l ++ more)

/-- May a set of benches become visible: all on media, every atomic unit of theirs whole (R209)? -/
def unitsWhole (s : State) (l : List Inflight) : Bool :=
  l.all (fun f => f.onMedia) &&
    (l.map (unitsOf s)).flatten.all (fun u => (unitSlots s u).all (fun i =>
      l.any (fun f => f.pages.any (fun p => p.wc == i))))

/-- A slot whose bench is visible becomes clean, with its CLEAN record; a superseded one is freed; a STAGED one keeps
the sequence of the map record until its commit (R208, R221, R363). -/
def cleanSlot (vol : Volume) (seq : Nat) (p : BenchPage) (s : State) : State :=
  match Tab.at? p.wc s.cache.slots with
  | none => s
  | some x =>
    if x.state = .staged then modSlot p.wc (fun y => { y with jseq := seq }) s
    else if x.state = .destaging then
      let s := modQm (fun q => { q with reserved := q.reserved - x.reserved }) s
      let s := modCache (fun c => { c with destaged := c.destaged + 4096 }) s
      let s := if x.old then freeSlot p.wc s
        else modSlot p.wc (fun y => { y with state := .clean, reserved := 0, used := true }) s
      if x.jseq = 0 then s
      else retireRing (journal (.clean x.volume vol.pageBlocks (x.page * vol.pageBlocks) x.jseq) s)
    else s

/-- A trigger queues a merge of an extent (R212). -/
def queueMerge (v x reason : Nat) (s : State) : State :=
  modExt v x (fun e => if e.state = .none ∧ e.pmd = none then e
    else { e with queued := some (e.queued.getD reason) }) s

/-- LOG_FRACTION: the extent's log pages reach the fraction (R212). -/
def logFraction (v x : Nat) (s : State) : State :=
  match getVol s v with
  | some vol =>
    if vol.extentPages * cfgMergeLogFraction s ≤ (getExt s v x).logPages * 100 then queueMerge v x 2 s else s
  | none => s

/-- The record of a face's benches (R208, R209). -/
def publishFace (f : Inflight) (n afollow : Nat) (s : State) : State :=
  let o := ((getGroup s f.group).map (·.fill)).getD 0
  let s := journal (.faceAdvance f.group f.extent o (o + n) f.volume afollow) s
  let s := modGroup f.group (fun g => { g with fill := o + n }) s
  touchExt f.volume f.extent s

/-- A page of a log bench enters the page map (R204): the copy named before dies, but that of a page still STAGED, which a
cancellation brings back, dies with the commit (R101, R207). -/
def publishPage (v seq logIx slot : Nat) (p : BenchPage) (s : State) : State :=
  let staged := ((Tab.at? p.wc s.cache.slots).map (fun y => y.state == WState.staged)).getD false
  let e : PmEntry := ⟨slot, logIx, p.bmask⟩
  if staged then
    let old := pmEntry s v p.extent p.page
    putPm v p.extent p.page seq e (modSlot p.wc (fun y => { y with undo := some old }) s)
  else setPm v p.extent p.page seq e s

/-- The record of a log bench (R204, R208); its index page on the drives carries the record's sequence (R203). -/
def publishLog (f : Inflight) (afollow : Nat) (s : State) : State :=
  let es := f.pages.map (fun p => (⟨p.extent, p.page, p.bmask, p.slot⟩ : LogEntry))
  let s := journal (.logBench f.logIx f.volume f.bench afollow es) s
  let seq := s.jr.last
  let x : LogIndex :=
    { log := f.logIx, group := f.group, volume := f.volume, bench := f.bench, jseq := seq, entries := es }
  let s : State := { s with dur := { s.dur with record := { s.dur.record with index := s.dur.record.index ++ [x] } } }
  let k := ((getGroup s f.group).map (·.k)).getD 1
  let s := modGroup f.group (fun g => { g with fill := f.bench + 1 }) s
  let s := modLog f.logIx (fun l => { l with fill := f.bench + 1, live := l.live + f.pages.length }) s
  f.pages.foldl (fun s p =>
    let s := publishPage f.volume seq f.logIx (f.bench * 32 * k + p.slot) p s
    logFraction f.volume p.extent (touchExt f.volume p.extent s)) s

/-- The benches of a record group in order, face benches of one group together as one record (R209): the faces first, then
the log benches by number (log entry 163). -/
def recordParts (l : List Inflight) : List (Inflight × List Inflight) :=
  let faces := dedup ((l.filter (fun f => f.kind == .face)).map (·.group))
  let fs := faces.filterMap (fun g =>
    let b := sortBy (fun f => f.bench) (l.filter (fun f => f.kind == .face && f.group == g))
    b.head?.map (fun h => (h, b)))
  let ls := (sortBy (fun f => f.bench) (l.filter (fun f => f.kind == .log))).map (fun f => (f, [f]))
  fs ++ ls

/-- What follows a visible bench: the face or log extent that is full closes, its time is noted for scrub (R199, R202,
R306). -/
def afterBench (f : Inflight) (s : State) : State :=
  let s := modTabs (fun t => { t with
    scrub := Tab.mod t.scrub f.group (fun e => (e.1, bitsOf s.clk.now 61 30)) }) s
  let full := ((getGroup s f.group).map (·.fill)).getD 0 == benchesPerGroup
  if full then
    match f.kind with
    | .face => closeFace f.volume f.extent s
    | .log => closeLog f.logIx s
    | .target => s
  else s

/-- A set of benches becomes visible: its records one after another, then the CLEANs (R208, R209). -/
def publish (l : List Inflight) (s : State) : State :=
  let parts := recordParts l
  let n := parts.length
  let s := (parts.zip (List.range n)).foldl (fun s e =>
    let s := match e.1.1.kind with
      | .log => publishLog e.1.1 (n - 1 - e.2) s
      | _ => publishFace e.1.1 e.1.2.length (n - 1 - e.2) s
    e.1.2.foldl (fun s f => modEtu (fun t => { t with inflight := t.inflight.map (fun g =>
      if g = f then { g with onMedia := true } else g) }) s) s) s
  let seq := s.jr.last
  let s := modEtu (fun e => { e with inflight := e.inflight.filter (fun f => !decide (f ∈ l)) }) s
  let s := l.foldl (fun s f =>
    match getVol s f.volume with
    | some vol => f.pages.foldl (fun s p => cleanSlot vol seq p s) s
    | none => s) s
  let s := freeLogs (l.foldl (fun s f => afterBench f s) s)
  pinSync (trimFaces 0 (faceCount s) s)

/-- Do two benches carry a copy of the same page? -/
def sharesPage (f g : Inflight) : Bool :=
  f.volume == g.volume && f.pages.any (fun p => g.pages.any (fun q => q.extent == p.extent && q.page == p.page))

/-- May a set of benches become visible now: whole units, no earlier bench of a group left behind, for FILL rises in
order, and no bench left behind that went out earlier with an older copy of a page (R195, R197, R202, R209)? -/
def mayPublish (s : State) (l : List Inflight) : Bool :=
  unitsWhole s l && l.all (fun f =>
    (flightOf s f.group).all (fun g => decide (f.bench ≤ g.bench) || decide (g ∈ l)) &&
    (s.etu.inflight.takeWhile (fun g => decide (g ≠ f))).all (fun g => !sharesPage f g || decide (g ∈ l)))

/-- Every bench on media that may become visible does, with those that share atomic units with it (R209). -/
def publishReady : Nat → State → State
  | 0, s => s
  | n + 1, s =>
    match (s.etu.inflight.map (fun f => unitClosure s s.etu.inflight.length [f])).find? (mayPublish s) with
    | some l => publishReady n (publish l s)
    | none => s

/-- The benches in flight of a group are given up: their pages are dirty again (R208, R211). -/
def dropFlight (g : Nat) (s : State) : State :=
  let s := (flightOf s g).foldl (fun s f => f.pages.foldl (fun s p =>
    modSlot p.wc (fun x => if x.state == .destaging && !x.old then { x with state := .dirty } else x) s) s) s
  modEtu (fun e => { e with inflight := e.inflight.filter (fun f => f.group != g) }) s

/-! ### Merges (R212 to R215) -/

/-- The running merge of an extent. -/
def findMerge (s : State) (v x : Nat) : Option Merge := s.etu.merges.find? (fun m => m.volume == v && m.extent == x)

/-- ESTATE that an extent has when no merge runs: as its group says (R215). -/
def restState (s : State) (v x : Nat) : EState :=
  match (getExt s v x).group.bind (getGroup s) with
  | some g => if g.state == .face then .face else .closed
  | none => .none

/-- A merge ends without MERGE_DONE (R215): power loss (1), no replacement chunk (2), source below k (3), discard (4) or
deletion (5). -/
def abandonMerge (v x reason : Nat) (s : State) : State :=
  match findMerge s v x with
  | none => s
  | some m =>
    let s := dropFlight m.target (journal (.mergeAbandon x m.target v reason) s)
    let s : State := { s with cooper := { s.cooper with reads := s.cooper.reads.filter (fun r => r.reader != .merge v x) } }
    let s := modEtu (fun e => { e with merges := e.merges.filter (fun q => !(q.volume == v && q.extent == x)),
                                       abandoned := e.abandoned + 1 }) s
    let s := modExt v x (fun e => { e with state := restState s v x,
                                           queued := if reason = 4 ∨ reason = 5 then e.queued else some m.reason }) s
    pinSync (event 0x3204 0 v (leBytes 4 x ++ leBytes 1 reason) (spoilGroup m.target s))

/-- The tier of a merge target (R271). -/
def mergeTier (s : State) (v x reason : Nat) : Bool :=
  let src := (((getExt s v x).group.bind (getGroup s)).map (·.dense)).getD false
  let n := ((getVol s v).map (fun y => y.k + y.m)).getD 0
  if reason = 5 then true else if reason = 6 then src else src || newTier s n

/-- Has the source of a merge at least k reachable members (R215)? -/
def mergeSourceOk (s : State) (v x : Nat) : Bool :=
  match (getExt s v x).group.bind (getGroup s) with
  | some g => decide (g.k ≤ reachCount s g)
  | none => true

/-- The benches and packed pages of an extent that are on their way: a merge of it waits for the benches (R214). -/
def extInFlight (s : State) (v x : Nat) : Bool :=
  s.etu.inflight.any (fun f => f.kind != .target && f.volume == v && (f.extent == x && f.kind == .face ||
    f.pages.any (fun p => p.extent == x)))

/-- Does a page of an extent stand in the page map before its commit (R101)? A merge must not take it in. -/
def extUncommitted (s : State) (v : Nat) (vol : Volume) (x : Nat) : Bool :=
  s.cache.slots.any (fun e => e.2.volume == v && e.2.page / max 1 vol.extentPages == x && e.2.state == .staged &&
    e.2.jseq != 0)

/-- Packed pages of an extent leave the pack: their destage waits (R214, R216). -/
def unpackExt (v x : Nat) : State → State :=
  modEtu (fun t => { t with packs := (t.packs.map (fun p =>
    if p.volume = v then { p with pages := p.pages.filter (fun q => q.extent != x) } else p)).filter (fun p =>
      !p.pages.isEmpty) })

/-- Step 1 of a merge (R213). -/
def beginMerge (v x reason : Nat) (s : State) : State :=
  match allocGroup v .target 3 x (mergeTier s v x reason) s with
  | (some g, s) =>
    match getGroup s g with
    | some y =>
      let s := journal (.mergeStart x g v reason y.gattr (y.members.map (·.chunk))) s
      let s := modExt v x (fun e => { e with state := .merging, queued := none }) s
      pinSync (modEtu (fun e => { e with
        merges := e.merges ++ [{ volume := v, extent := x, target := g, reason := reason, progress := 0 }] })
        (unpackExt v x s))
    | none => s
  | (none, s) => s

/-- Is every page of a bench overlaid by live log pages (R305)? -/
def benchOverlaid (s : State) (v x k b : Nat) : Bool :=
  (pagesOfBench k b).all (fun p => match pmEntry s v x p with
    | some e => e.bmask == fullMask
    | none => false)

/-- The target benches that a merge leaves poisoned: those it could not read, and those whose source bench is poisoned and
not overlaid by log pages (R305). -/
def mergeBad (s : State) (m : Merge) (k : Nat) : List Nat :=
  dedup (m.bad ++ (match (getExt s m.volume m.extent).group with
    | some g => ((s.tabs.poison.filter (fun p => p.group == g)).map (·.bench)).filter (fun b =>
        !benchOverlaid s m.volume m.extent k b)
    | none => []))

/-- Step 4 of a merge (R213, R305). -/
def endMerge (m : Merge) (s : State) : State :=
  let v := m.volume
  let x := m.extent
  match getVol s v with
  | none => s
  | some vol =>
    let old := (getExt s v x).group
    let bad := mergeBad s m vol.k
    let s := journal (.mergeDone x m.target (old.getD 0xFFFFFFFF) v) s
    let s := dropExtentMaps v x s
    let s := modExt v x (fun e => { e with state := .closed, group := some m.target }) s
    let s := modGroup m.target (fun g => { g with state := .closed, fill := benchesPerGroup }) s
    let s := match old with
      | some g => spoilGroup g s
      | none => s
    let s := bad.foldl (fun s b => addPoison ⟨m.target, b, v, x, 3⟩ s) s
    let s := modEtu (fun e => { e with merges := e.merges.filter (fun q => q != m), merged := e.merged + 1 }) s
    advanceOldest v (freeLogs s)

/-! ### Discard (R216, R217) -/

/-- The committed pages of an extent leave the write cache, the pack and the benches in flight: no record will name them
(R216). -/
def dropExtentSlots (v : Nat) (vol : Volume) (x : Nat) (s : State) : State :=
  let mine := s.cache.slots.filter (fun e => e.2.volume == v && e.2.page / max 1 vol.extentPages == x &&
    (e.2.state == .dirty || e.2.state == .clean || e.2.state == .destaging))
  let s := modQm (fun q => { q with reserved := q.reserved - sumNat (mine.map (fun e => e.2.reserved)) }) s
  let s := mine.foldl (fun s e => freeSlot e.1 s) s
  let s := unpackExt v x s
  modEtu (fun t => { t with inflight := t.inflight.map (fun f =>
    if f.volume = v then { f with pages := f.pages.filter (fun q => q.extent != x) } else f) }) s

/-- An extent returns to NONE (R216): its merge is abandoned, its group and log pages become spoil. -/
def freeExtent (v : Nat) (vol : Volume) (x : Nat) (s : State) : State :=
  let s := abandonMerge v x 4 s
  let g := (getExt s v x).group
  let s := dropExtentMaps v x s
  let s := dropExtentSlots v vol x s
  let s := match g with
    | some g => spoilGroup g (modEtu (fun e => { e with inflight := e.inflight.filter (fun f => f.group != g) }) s)
    | none => s
  pinSync (freeLogs (modExt v x (fun _ => Extent.empty) s))

/-- The whole extents of a range, and whether a page lies wholly in it (R216, R217). -/
def wholeExtents (vol : Volume) (lba n : Nat) : List Nat :=
  let eb := max 1 vol.extentBlocks
  let lo := (lba + eb - 1) / eb
  (List.range ((lba + n) / eb - lo)).map (· + lo)

/-- Does a range cover the blocks of a mask of a page? -/
def rangeCovers (vol : Volume) (lba n page mask : Nat) : Bool :=
  (List.range vol.pageBlocks).all (fun j =>
    !(mask.testBit j) || (decide (lba ≤ page * vol.pageBlocks + j) && decide (page * vol.pageBlocks + j < lba + n)))

/-- The log entries whose blocks lie in a range are invalidated (R217). A MERGING extent ignores it. -/
def clearLogPages (v : Nat) (vol : Volume) (lba n : Nat) (s : State) : State :=
  let eb := max 1 vol.extentBlocks
  let xs := dedup ((List.range ((lba + n - 1) / eb - lba / eb + 1)).map (fun i => lba / eb + i))
  xs.foldl (fun s x =>
    if (getExt s v x).state = .merging then s
    else
      (extPages s v x).foldl (fun s e =>
        if rangeCovers vol lba n (x * vol.extentPages + e.1) (if vol.emul then e.2.bmask else 1) then
          clearPm v x e.1 s.jr.last s
        else s) s) s

/-- Does the atomic unit of a page lie wholly in a range (R174, R217)? That of an ATOMIC_WRITE is the range of its
WRITE_COMMIT, which the ring holds as long as a page of it is not clean. -/
def unitInRange (s : State) (lba n : Nat) (x : Slot) : Bool :=
  !x.atomic || s.jr.ring.all (fun r => match r.body with
    | .writeCommit v _ _ nblk lo _ _ =>
      !(r.seq == x.jseq && v == x.volume) || (decide (lba ≤ lo) && decide (lo + nblk ≤ lba + n))
    | _ => true)

/-- The part of a discard that covers no whole extent (R217): cached pages whose atomic units lie in the range go, log
entries whose blocks lie in it are invalidated. A MERGING extent ignores it. -/
def discardPartial (v : Nat) (vol : Volume) (lba n : Nat) (s : State) : State :=
  let mine := s.cache.slots.filter (fun e => e.2.volume == v &&
    (e.2.state == .dirty || e.2.state == .clean || (e.2.state == .destaging && !e.2.old)) &&
    rangeCovers vol lba n e.2.page (if vol.emul then e.2.bmask else 1) && unitInRange s lba n e.2 &&
    (getExt s v (e.2.page / max 1 vol.extentPages)).state != .merging)
  let s := modQm (fun q => { q with reserved := q.reserved - sumNat (mine.map (fun e => e.2.reserved)) }) s
  let s := mine.foldl (fun s e => freeSlot e.1 s) s
  freeLogs (clearLogPages v vol lba n s)

/-- May a discard look up every map page that its partial part needs (R217, R274)? -/
def discardMissing (s : State) (v : Nat) (vol : Volume) (lba n : Nat) : List Nat :=
  let eb := max 1 vol.extentBlocks
  let xs := dedup [lba / eb, (lba + n - 1) / eb]
  if cfgDiscardPartial s = 1 then
    xs.flatMap (fun x =>
      if decide (x ∈ wholeExtents vol lba n) || (getExt s v x).state == .merging then []
      else match (getExt s v x).pmd with
        | some d => ((Tab.atD s.tabs.dirs d []).filter (fun e =>
            let a := (x * vol.extentPages + e.1 * 8192) * vol.pageBlocks
            decide (lba < a + 8192 * vol.pageBlocks) && decide (a < lba + n) && !(getRes s e.2).resident)).map (·.2)
        | none => [])
  else []

/-- A discard takes effect with its record (R216, R217, R219). -/
def discardRange (v lba n : Nat) (s : State) : State :=
  match getVol s v with
  | none => s
  | some vol =>
    let xs := wholeExtents vol lba n
    let s := journal (.discard v xs.length lba n) s
    let s := xs.foldl (fun s x => freeExtent v vol x s) s
    let s := if cfgDiscardPartial s = 1 then discardPartial v vol lba n s else s
    retireRing (advanceOldest v s)

end Sys2Proof.Machine
end

