-- ==== Sys2Proof/Machine/Etu.lean ====
section
/-! DEFINITION. Destage, merges and the journal's flush (06): the meanings of the ETU's commands. -/

namespace Sys2Proof.Machine

/-! ### Destage (R195 to R205) -/

/-- The blocks of a page's log copy that the slot to be written lacks: they are read into the cache first (R205). -/
def missingBlocks (s : State) (v x p : Nat) (vol : Volume) (slot : Slot) : Bool :=
  match pmEntry s v x p with
  | some e => vol.emul && e.bmask &&& slot.bmask != e.bmask
  | none => false

/-- Where the log copy of a page lies: group, bench and data sett position (R203). -/
def logPlace (s : State) (e : PmEntry) : Option (Nat × Nat × Nat) :=
  (getLog s e.logIx).bind (fun l => (getGroup s l.group).map (fun g =>
    (l.group, e.slot / (32 * g.k), e.slot % (32 * g.k) / 32)))

/-- The sett that holds a log copy is asked for, once (R205, R299). -/
def readOldCopy (v x p page : Nat) (s : State) : State :=
  match (pmEntry s v x p).bind (logPlace s) with
  | some (g, b, pos) =>
    if s.cooper.reads.any (fun r => r.reader == .destage v page) then s
    else
      match getGroup s g with
      | some grp =>
        let mem := settMember grp.size b pos
        let s := { s with cooper := { s.cooper with
          reads := s.cooper.reads ++ [⟨g, b, false, [pos], .destage v page, false, []⟩] } }
        match (grp.chunk? mem).bind (chunkDrive s) with
        | some d => enqueueOp d (.destage (((getVol s v).map (·.cls)).getD 0)) settBytes (.readSett g b mem) s
        | none => s
      | none => s
  | none => s

/-- The log extent that takes a page of a slot (R202): the open one; a new one when none is open, or when an atomic unit
needs more than the open one has left, which then closes early. None: the page waits, until benches in flight are visible
or the units whose packing has begun are packed. -/
def logFor (v : Nat) (vol : Volume) (x : Slot) (s : State) : Option State :=
  match vol.openLog with
  | none => some (openLog v s)
  | some ix =>
    let need := if x.atomic then unitLeft s v vol x else 1
    if unitStarted s v x = true ∨ need + promised s v vol ≤ logLeft s v ix then some s
    else if x.atomic && promised s v vol == 0 && (((getLog s ix).map (fun l => (flightOf s l.group).isEmpty)).getD true) then
      some (openLog v (closeLog ix s))
    else none

/-- A page goes to the volume's log (R195, R202). -/
def destageToLog (v x p : Nat) (vol : Volume) (e : Nat × Slot) (s : State) : State :=
  if missingBlocks s v x p vol e.2 then readOldCopy v x p e.2.page s
  else if packMax vol.k ≤ (packOf s v).pages.length then s
  else match logFor v vol e.2 s with
    | some s =>
      if ((getVol s v).bind (·.openLog)).isSome then
        packPage v x p (if vol.emul then e.2.bmask else fullMask) e.1 s
      else s
    | none => s

/-- PAGE_DESTAGE (R195, R196, R200, R201): a page of a volume is sent to its extent's face, where it stays packed in the
cache, or joins the pack of the open log extent. It waits while its extent merges, while its map page is not resident,
and while its volume cannot be enciphered. -/
def pageDestage (v page : Nat) (s : State) : State :=
  match getVol s v with
  | none => s
  | some vol =>
    let x := page / max 1 vol.extentPages
    let p := page % max 1 vol.extentPages
    match dirtySlotOf s v vol x p with
    | none => s
    | some e =>
      let s := lookUp v vol [page] s
      if (getExt s v x).state = .merging ∨ cipherReady s v vol = false ∨ keySpent s vol = true ∨
          mapReady s v x p = false then s
      else if faceBound s v x p vol.k && (e.2.state == .dirty || benchWhole s v vol x (pageBench vol.k p)) then
        if (getExt s v x).state = .none then openFace v x s else s
      else destageToLog v x p vol e s

/-- PAGE_DESTAGE. -/
def execPageDestage (v page : Nat) (s : State) : Host.Outcome State Fault Refusal :=
  if dataRuns s then finish (pageDestage v page s) else finish s

/-- The pages of an extent that wait for its face, with their time: DIRTY ones, and STAGED ones of a bench that the cache
holds whole (R197, R201). -/
def faceWaiting (s : State) (v : Nat) (vol : Volume) (x : Nat) : List (Nat × Nat) :=
  (s.cache.slots.filter (fun e =>
    let p := e.2.page % max 1 vol.extentPages
    e.2.volume == v && e.2.page / max 1 vol.extentPages == x && faceBound s v x p vol.k &&
      (e.2.state == .dirty || (e.2.state == .staged && benchWhole s v vol x (pageBench vol.k p))))).map (fun e =>
      (e.2.page % max 1 vol.extentPages, e.2.since))

/-- FACE_HOLD has passed since a time (R197). -/
def heldLong (s : State) (ms since : Nat) : Bool := decide (since + ms * 1000000 ≤ s.clk.uptime)

/-- FACE_BENCH_WRITE (R197): bench FILL is written when the cache holds all of it, when a page of or beyond it has waited
FACE_HOLD, or under cache pressure. -/
def execFaceBenchWrite (v x : Nat) (s : State) : Host.Outcome State Fault Refusal :=
  match getVol s v with
  | none => finish s
  | some vol =>
    let b := nextBench s ((getExt s v x).group.getD 0)
    let ws := faceWaiting s v vol x
    if dataRuns s && (getExt s v x).state == .face &&
        (benchWhole s v vol x b || ws.any (fun w => heldLong s (cfgFaceHold s) w.2 || pressure s w.2)) then
      finish (writeFace v x s)
    else finish s

/-- FACE_HOLD_EXPIRY (R197): FACE_HOLD has passed for a page of bench FILL or beyond it; bench FILL is written with zeros
where nothing is held. -/
def execFaceHoldExpiry (v x : Nat) (s : State) : Host.Outcome State Fault Refusal :=
  match getVol s v with
  | none => finish s
  | some vol =>
    if dataRuns s && (getExt s v x).state == .face && !(faceWaiting s v vol x).isEmpty then finish (writeFace v x s)
    else finish s

/-- LOG_BENCH_WRITE (R201, R202): the packed bench is written when its slots are full, when a write-through or FUA page
is in it, or under cache pressure. -/
def execLogBenchWrite (v : Nat) (s : State) : Host.Outcome State Fault Refusal :=
  match getVol s v with
  | none => finish s
  | some vol =>
    let pk := packOf s v
    let staged := pk.pages.any (fun p => match Tab.at? p.wc s.cache.slots with
      | some x => x.state == .staged
      | none => false)
    if dataRuns s && !pk.pages.isEmpty &&
        (decide (packMax vol.k ≤ pk.pages.length) || staged || pressure s pk.since) then
      finish (writeLog v s)
    else finish s

/-- LOG_HOLD_EXPIRY (R202): LOG_HOLD has passed since the first page was packed. -/
def execLogHoldExpiry (v : Nat) (s : State) : Host.Outcome State Fault Refusal :=
  if dataRuns s && !(packOf s v).pages.isEmpty then finish (writeLog v s) else finish s

/-! ### Failed members of groups that are written (R211) -/

/-- The write cursor of a group: FILL, or the progress of its merge (R211). -/
def writeCursor (s : State) (g : Nat) (grp : Group) : Nat :=
  if grp.state = .target then ((s.etu.merges.find? (fun m => m.target == g)).map (·.progress)).getD 0 else grp.fill

/-- A group takes its place in the rebuild queue, once (R284). -/
def queueRebuild (g : Nat) (s : State) : State :=
  if s.qm.queue.any (fun e => e.group == g) then s
  else modQm (fun q => { q with queue := q.queue ++ [{ group := g, since := q.nextSince }], nextSince := q.nextSince + 1 }) s

/-- A member of a group takes a state, with its record (R194, R224). -/
def setMember (g mem : Nat) (st : MState) (code : Nat) (s : State) : State :=
  journal (.memberState g mem code) (modGroup g (fun x => { x with
    members := (x.members.zip (List.range x.members.length)).map (fun e =>
      if e.2 = mem then { e.1 with state := st } else e.1) }) s)

/-- The rebuild of a member is noted; one that was noted before it is dropped (R310, R314). -/
def addRebuild (r : Rebuild) (s : State) : State :=
  { s with cooper := { s.cooper with
      rebuilds := s.cooper.rebuilds.filter (fun q => !(q.group == r.group && q.member == r.member)) ++ [r] } }

/-- Is an operation a write to a member of a group? -/
def writesMember (g mem : Nat) (o : DriveOp) : Bool :=
  match o.what with
  | .writeSett h _ m _ => h == g && m == mem
  | _ => false

/-- The writes to a member that are queued are dropped, and those outstanding count for nothing any more: the member
has been replaced (R211). -/
def dropWrites (g mem d : Nat) (s : State) : State :=
  let s := modDispatcher d (fun q => { q with queue := q.queue.filter (fun o => !writesMember g mem o.op) }) s
  modDrive d (fun v => { v with ops := v.ops.map (fun o => if writesMember g mem o then { o with ended := true } else o) }) s

/-- A member takes a replacement chunk (R211): the record names the write cursor, benches below it are rebuilt, the
benches in flight go out again to the new chunk. -/
def replaceMember (g mem c : Nat) (grp : Group) (s : State) : State :=
  let cur := writeCursor s g grp
  let old := (grp.chunk? mem).getD 0
  let s := dropRepairs g mem (journal (.memberReplace g mem cur old c) s)
  let s := match chunkDrive s old with
    | some d => dropWrites g mem d s
    | none => s
  let s := releaseChunk old s
  let s := allocChunk c g mem 4 grp.volume s.jr.last s
  let s := modGroup g (fun x => { x with
    degraded := x.degraded || cur != 0, rebuilding := x.rebuilding || cur != 0
    members := x.members.set mem ⟨c, if cur = 0 then .ok else .rebuilding⟩ }) s
  let s := if cur = 0 then s else
    addRebuild { group := g, member := mem, oldChunk := old, cursor := cur, progress := 0, copy := false } (queueRebuild g s)
  (flightOf s g).foldl (fun s f =>
    match getGroup s g with
    | some y => match getVol s f.volume with
      | some vol => writeBench (benchFlow s f vol) g y f.bench
          (f.data.filter (fun e => settMember y.size f.bench e.1 == mem)) s
      | none => s
    | none => s) s

/-- A group that is written stops for want of a replacement (R211): a face closes at FILL, a log extent closes, a merge
is abandoned. -/
def stopGroup (g : Nat) (grp : Group) (s : State) : State :=
  let s := dropFlight g s
  match grp.state with
  | .face => closeFace grp.volume grp.owner s
  | .log => closeLog grp.owner s
  | .target => abandonMerge grp.volume grp.owner 2 s
  | _ => s

/-- Is a group being written: a face, an open log extent or a merge target (R211)? -/
def groupWritten (s : State) (grp : Group) : Bool :=
  grp.state == .face || grp.state == .target ||
    (grp.state == .log && ((getLog s grp.owner).map (·.state == .opened)).getD false)

/-- The replacement of R211 itself. -/
def forceReplace (g mem : Nat) (s : State) : State :=
  match getGroup s g with
  | none => s
  | some grp =>
    if groupWritten s grp && (grp.members[mem]?).isSome then
      match pickReplacement true s g grp mem with
      | some c => replaceMember g mem c grp s
      | none => stopGroup g grp (allocFails grp.volume g mem grp.dense s)
    else s

/-- MEMBER_REPLACE (R211, R262 to R265): a member of a face, an open log extent or a merge target has failed. -/
def memberReplace (g mem : Nat) (s : State) : State :=
  match (getGroup s g).bind (fun grp => grp.members[mem]?) with
  | some m =>
    if chunkUp s m.chunk && (m.state == .ok || m.state == .rebuilding) then s else forceReplace g mem s
  | none => s

/-- MEMBER_REPLACE. -/
def execMemberReplace (g mem : Nat) (s : State) : Host.Outcome State Fault Refusal :=
  if dataRuns s then finish (memberReplace g mem s) else finish s

/-! ### The vault journal (R220, R396) -/

/-- Pages of the vault's JOURNAL region (R395). -/
def journalPages : Nat := 8192 * 512

/-- The map records that no vault journal page holds yet. -/
def unjournalled (s : State) : List JRec :=
  let last := (s.jr.vault.getLast?.map (·.seq)).getD 0
  sortBy (fun r => r.seq) (s.jr.ring.filter (fun r => !r.body.isCommit && decide (last < r.seq)))

/-- The first records that fit a number of bytes. -/
def takeBytes : Nat → List JRec → List JRec
  | room, r :: t => if r.body.rlen ≤ room then r :: takeBytes (room - r.body.rlen) t else []
  | _, [] => []

/-- The map records that wait go to the vault's metadata journal, sealed (R220, R396), as far as it has room: the others
stay in the HBM ring; at half of the region a checkpoint is asked for. -/
def journalFlush (s : State) : State :=
  let rs := takeBytes (journalPages * diePage - recBytes s.jr.vault) (unjournalled s)
  if s.vault.failed || rs.isEmpty then s
  else
    let n := (recBytes rs + diePage - 1) / diePage
    let s := (List.range n).foldl (fun s i => storeWrite (journalLpn + (s.jr.page + i) % journalPages) s) s
    let s := gcmUse .vsk n diePage s
    let s : State := { s with jr := { s.jr with vault := s.jr.vault ++ rs, page := (s.jr.page + n) % journalPages } }
    let held := recBytes s.jr.vault
    if decide (journalPages * diePage < 2 * held) && decide (s.dur.lastCkptTime + 30000000000 ≤ s.clk.uptime) then
      { s with dur := { s.dur with requested := true } }
    else s

/-- JOURNAL_FLUSH_EXPIRY (R220): JOURNAL_FLUSH has passed since a map record entered the buffer. -/
def execJournalFlushExpiry (s : State) : Host.Outcome State Fault Refusal :=
  if (dataRuns s && !vaultHeld s) || s.pw.state == .dump then finish (journalFlush s) else finish s

end Sys2Proof.Machine
end

