-- ==== Sys2Proof/Machine/Quarry.lean ====
section
/-! DEFINITION. Quarrymaster's commands (08): shares, dispatch, the fast tier, map paging, the rebuild queue. -/

namespace Sys2Proof.Machine

/-! ### Checkpoint requests and spans (R235, R258, R269) -/

/-- A checkpoint is asked for (R235). -/
def requestCkpt (s : State) : State := { s with dur := { s.dur with requested := true } }

/-- FREE_CHUNKS_LOW (R269): FREE chunks are below MERGES_MAX × 28 while SPOIL chunks exist; at most once in 30 s. -/
def execFreeChunksLow (s : State) : Host.Outcome State Fault Refusal :=
  let late := match s.qm.lastLowCkpt with
    | some t => decide (t + 30000000000 ≤ s.clk.uptime)
    | none => true
  if serving s && late && decide (freeChunks s < cfgMergesMax s * 28) && decide (0 < spoilChunks s) then
    finish (requestCkpt (modQm (fun q => { q with lastLowCkpt := some s.clk.uptime }) s))
  else finish s

/-! ### The fast tier (R270, R272) -/

/-- A group's tier is fast. -/
def fastGroup (s : State) (g : Nat) : Bool :=
  match getGroup s g with
  | some v => !v.dense
  | none => false

/-- ALLOC_TIME of member 0 of a group. -/
def groupAge (s : State) (g : Nat) : Nat :=
  match getGroup s g with
  | some v => ((v.chunk? 0).map (fun c => (getChunk s c).allocTime)).getD 0
  | none => 0

/-- The CLOSED extents with fast groups that no merge has yet, oldest first, with the chunks of their groups (R272). -/
def migrateCandidates (s : State) : List (Nat × Nat × Nat) :=
  let es := (s.tabs.exts.filter (fun e => e.2.state == .closed && e.2.queued.isNone &&
    (e.2.group.map (fastGroup s)).getD false)).filterMap (fun e =>
      (extOwner s e.1).map (fun o => (groupAge s (e.2.group.getD 0), o.1, o.2,
        ((e.2.group.bind (getGroup s)).map (·.size)).getD 0)))
  (sortBy (fun e => e.1) es).map (fun e => (e.2.1, e.2.2.1, e.2.2.2))

/-- Fast chunks that queued and running MIGRATE merges will free. -/
def migrating (s : State) : Nat :=
  sumNat ((s.tabs.exts.filter (fun e => e.2.queued == some 5 || (s.etu.merges.any (fun m =>
    m.reason == 5 && extOwner s e.1 == some (m.volume, m.extent))))).map (fun e =>
      ((e.2.group.bind (getGroup s)).map (·.size)).getD 0))

/-- MIGRATE merges are ordered for the candidates in turn until `n` chunks are covered. -/
def orderMigrates : Nat → List (Nat × Nat × Nat) → State → State
  | _, [], s => s
  | n, e :: t, s => if n = 0 then s else orderMigrates (n - e.2.2) t (queueMerge e.1 e.2.1 5 s)

/-- FAST_LIMIT_TICK (R270, R272): the limit is evaluated; MIGRATE merges are ordered while FAST_USED exceeds it, down to
the hysteresis below it. -/
def execFastLimitTick (s : State) : Host.Outcome State Fault Refusal :=
  if serving s then
    let s := modQm (fun q => { q with fastLimit := fastLimitNow s }) s
    let low := s.qm.fastLimit - cfgMigrateHystPm s * fastCapacity s / 1000
    let used := fastUsed s
    let on := decide (s.qm.fastLimit < used) || (s.qm.migrating && decide (low < used))
    let s := modQm (fun q => { q with migrating := on }) s
    if on then finish (orderMigrates (used - low - migrating s) (migrateCandidates s) s) else finish s
  else finish s

/-! ### Curves and shares (R278, R279, R282) -/

/-- REDUNDANCY_LEFT of a group by its index. -/
def redundancyOf (s : State) (g : Nat) : Nat := ((getGroup s g).map groupRedundancy).getD 0

/-- Free log extents in basis points. -/
def freeLogBp (s : State) : Nat := (logMax - s.tabs.logs.length) * 10000 / logMax

/-- The free margin (R279, MERGE). -/
def freeMargin (s : State) : Nat :=
  let raw := rawChunks s * 2 ^ 28
  min (freeLogBp s) ((availableBytes s - s.qm.reserved - reserveBytes s) * 10000 / max 1 raw)

/-- The oldest SCRUBBED of the groups that scrub takes (R306). -/
def oldestScrub (s : State) : Option Nat :=
  minBy (fun n => n) ((s.tabs.scrub.filter (fun e => match getGroup s e.1 with
    | some g => g.holds
    | none => false)).map (fun e => e.2.1))

/-- SCRUB_LAG (R279, R306): SCRUBBED counts units of 2^30 ns. -/
def scrubLag (s : State) : Nat :=
  match oldestScrub s with
  | some t => min 65535 ((s.clk.now - t * 2 ^ 30) * 10000 / (cfgScrubPeriod s * 3600 * 1000000000))
  | none => 0

/-- The excess of FAST_USED over FAST_LIMIT (R279, MIGRATE). -/
def fastExcess (s : State) : Nat := (fastUsed s - s.qm.fastLimit) * 10000 / max 1 (fastCapacity s)

/-- The most live XTS generations of any volume (R279, REKEY). -/
def liveGens (s : State) : Nat :=
  s.tabs.vols.foldl (fun n e => max n (e.2.xgCur - e.2.xgOldest + 1)) 1

/-- Dirty pool slots. -/
def mapDirty (s : State) : Nat := (s.qm.residency.filter (fun e => e.2.dirty)).length

/-- The groups that a rebuild or relocation works on. -/
def rebuilding (s : State) : List Nat :=
  (dedup (s.cooper.rebuilds.map (·.group))).filter (fun g => !(s.qm.queue.any (fun e => e.group == g)))

/-- The groups of the rebuild queue of R284: those that wait and those that are rebuilt. -/
def rebuildGroups (s : State) : List Nat := s.qm.queue.map (·.group) ++ rebuilding s

/-- The input of a curve now (R279). -/
def curveInput (s : State) (id : Nat) : Nat :=
  match id with
  | 0 => arrayFill s
  | 1 => freeMargin s
  | 2 => (minBy (fun n => n) ((rebuildGroups s).map (redundancyOf s))).getD 4
  | 3 => scrubLag s
  | 4 => fastExcess s
  | 5 => liveGens s
  | _ => mapDirty s * 10000 / poolSlots

/-- Is a merge of a reason queued or running? -/
def mergeWork (s : State) (r : Nat → Bool) : Bool :=
  s.etu.merges.any (fun m => r m.reason) || s.tabs.exts.any (fun e => (e.2.queued.map r).getD false)

/-- Has a background kind work anywhere (R282): 0 REBUILD, 1 MERGE, 2 MIGRATE, 3 REKEY, 4 SCRUB? -/
def kindWork (s : State) (kind : Nat) : Bool :=
  match kind with
  | 0 => !s.qm.queue.isEmpty || !(rebuilding s).isEmpty
  | 1 => mergeWork s (fun r => decide (r ≤ 4))
  | 2 => mergeWork s (fun r => r == 5)
  | 3 => mergeWork s (fun r => r == 6)
  | _ => cfgScrubEnable s == 1 && (oldestScrub s).isSome

/-- Dirty data that waits on merges, in bytes (R214). -/
def mergeHeld (s : State) : Nat :=
  ((dirtySlots s).filter (fun e => match getVol s e.2.volume with
    | some vol => (getExt s e.2.volume (e.2.page / max 1 vol.extentPages)).state == .merging
    | none => false)).length * 4096

/-- Does a kind run at the highest share: rebuilds with REBUILD_FULL (R282), the merges that too much dirty data waits on
(R214), LOG_POOL merges and those of a full store (R414)? -/
def highestShare (s : State) (kind : Nat) : Bool :=
  (kind == 0 && cfgRebuildFull s == 1) || (kind == 1 && vaultFull s) ||
    (decide (cfgMergeHoldMax s * 2 ^ 20 < mergeHeld s) && s.etu.merges.any (fun m => mergeKind m.reason == kind))

/-- The curve of a kind (R279). -/
def kindCurve (kind : Nat) : Nat :=
  match kind with
  | 0 => 2 | 1 => 1 | 2 => 4 | 3 => 5 | _ => 3

/-- What a kind asks for: its curve, or everything where a rule gives it the highest share. -/
def kindAsks (s : State) (kind : Nat) : Nat :=
  if highestShare s kind then 10000 else (curveOf s (kindCurve kind)).at (curveInput s (kindCurve kind))

/-- The shares of the five kinds under BG_CAP, in order (R282). -/
def grant (s : State) : List Nat :=
  ((List.range 5).foldl (fun (acc : List Nat × Nat) k =>
    let g := if kindWork s k then min (kindAsks s k) acc.2 else 0
    (acc.1 ++ [g], acc.2 - g)) ([], cfgBgCap s)).1

/-- The extents with live pages in a log extent (R212, R465). -/
def extentsInLog (s : State) (ix : Nat) : List (Nat × Nat) :=
  (s.tabs.exts.filterMap (fun e => extOwner s e.1)).filter (fun o =>
    (extPages s o.1 o.2).any (fun p => p.2.logIx == ix))

/-- LOG_POOL (R212): while free log extents lie below the merge curve, every extent with live pages in the oldest closed
log extent is queued (log entry 26). -/
def triggerLogPool (s : State) : State :=
  if freeLogBp s < (curveOf s 1).at (freeLogBp s) ∨ vaultFull s = true then
    match minBy (fun e => e.2.openJseq) (s.tabs.logs.filter (fun e => e.2.state == .closed)) with
    | some e => (extentsInLog s e.1).foldl (fun s o => queueMerge o.1 o.2 1 s) s
    | none => s
  else s

/-- The extents that have log pages, with a key. -/
def loggedExtents (s : State) (key : Extent → Nat) : List (Nat × Nat) :=
  (sortBy (fun e => key e.2) (s.tabs.exts.filter (fun e => e.2.pmd.isSome && e.2.queued.isNone))).filterMap
    (fun e => extOwner s e.1)

/-- DIRECTORY_POOL (R212): directories in use at 95 %; extents with log pages, least recently written first. -/
def triggerDirPool (s : State) : State :=
  if 262144 * 95 ≤ s.tabs.dirs.length * 100 then
    ((loggedExtents s (fun e => e.touched)).take (cfgMergesMax s)).foldl (fun s o => queueMerge o.1 o.2 3 s) s
  else s

/-- MAP_POOL (R212, R277): map pages at 95 % of what may exist; extents with the most map pages first. -/
def triggerMapPool (s : State) : State :=
  if mapPagesMax s * 95 ≤ s.tabs.mapPages.length * 100 then
    let pages (e : Extent) : Nat := (e.pmd.map (fun d => (Tab.atD s.tabs.dirs d []).length)).getD 0
    ((loggedExtents s (fun e => 262144 - pages e)).take (cfgMergesMax s)).foldl (fun s o => queueMerge o.1 o.2 4 s) s
  else s

/-- The extents of a volume whose group, or a log extent of whose live pages, carries XG_OLDEST (R465). -/
def rekeyExtents (s : State) (v : Nat) (vol : Volume) : List Nat :=
  let old (g : Nat) : Bool := match getGroup s g with
    | some y => absoluteGen vol y == vol.xgOldest
    | none => false
  (s.tabs.exts.filterMap (fun e => match extOwner s e.1 with
    | some o =>
      if o.1 = v ∧ e.2.queued = none ∧ e.2.state ≠ .merging ∧
          ((e.2.group.map old).getD false || (extPages s v o.2).any (fun p => match getLog s p.2.logIx with
            | some l => old l.group
            | none => false)) = true then some o.2
      else none
    | none => none))

/-- REKEY merges are ordered while a volume has two or more live generations (R465). -/
def triggerRekey (s : State) : State :=
  s.tabs.vols.foldl (fun s e =>
    if e.2.encrypted = true ∧ e.2.xgOldest < e.2.xgCur then
      (rekeyExtents s e.1 e.2).foldl (fun s x => queueMerge e.1 x 6 s) s
    else s) s

/-- BG_SHARE_TICK (R212, R278, R279, R282): every curve with an input is evaluated, shares are granted, and the pool
triggers of merges are looked at. -/
def execBgShareTick (s : State) : Host.Outcome State Fault Refusal :=
  if dataRuns s then
    let out := (List.range 7).map (fun id =>
      if id = 2 ∧ (rebuildGroups s).isEmpty = true then s.qm.curveOut.getD 2 0 else (curveOf s id).at (curveInput s id))
    let s := modQm (fun q => { q with curveOut := out }) s
    let s := triggerRekey (triggerMapPool (triggerDirPool (triggerLogPool s)))
    finish (modQm (fun q => { q with shares := grant s }) s)
  else finish s

/-- DRIVE_WINDOW_TICK (R283, R285): a window of 10 ms begins, the kinds' use starts again on every drive, and groups that
found no chunk are tried again. -/
def execDriveWindowTick (s : State) : Host.Outcome State Fault Refusal :=
  finish (modQm (fun q => { q with
    windowStart := s.clk.now / 10000000 * 10000000
    queue := q.queue.map (fun e => { e with held := false })
    dispatchers := q.dispatchers.map (fun e => (e.1, { e.2 with used := [] })) }) s)

/-! ### Dispatch (R281, R283, R338) -/

/-- Is a flow background work? -/
def Flow.isBackground : Flow → Bool
  | .background _ => true
  | _ => false

/-- Is a flow foreground work (R281)? -/
def Flow.isForeground : Flow → Bool
  | .host _ _ => true
  | .destage _ => true
  | _ => false

/-- Has a background operation's kind some of its share of the window left (R283)? 1 bp of 10 ms is 1 µs. -/
def shareLeft (s : State) (q : Dispatcher) (o : QueuedOp) : Bool :=
  match o.flow with
  | .background k => decide (kindUsed q k < (s.qm.shares.getD k 0 : Rat))
  | _ => false

/-- The operation of lowest finish tag, the first among equals. -/
def lowestFinish (l : List QueuedOp) : Option QueuedOp :=
  l.foldl (fun acc x => match acc with
    | none => some x
    | some y => if x.finish < y.finish then some x else some y) none

/-- The operation that a drive's dispatcher issues next (R281, R283): metadata first (log entry 170); while foreground waits, a
kind with a part of its share left, then the foreground of lowest finish tag; else the background of lowest finish tag. -/
def nextQueued (s : State) (q : Dispatcher) : Option QueuedOp :=
  (q.queue.find? (fun o => o.flow.isMetadata)).orElse (fun _ =>
    if q.queue.any (fun o => o.flow.isForeground) then
      (lowestFinish (q.queue.filter (shareLeft s q))).orElse (fun _ =>
        lowestFinish (q.queue.filter (fun o => o.flow.isForeground)))
    else lowestFinish q.queue)

/-- DRIVE_DISPATCH (R281, R283, R338): the operation that is next goes out, while the drive is in service, not quiesced and
below its queue depth. -/
def execDriveDispatch (d : Nat) (s : State) : Host.Outcome State Fault Refusal :=
  match getDrive s d with
  | none => finish s
  | some v =>
    if mayReceive s d v then
      match nextQueued s (getDispatcher s d) with
      | some o => finish (dispatchOp d o s)
      | none => finish s
    else finish s

/-! ### Map paging (R273 to R277, R416) -/

/-- The map pages of the directory that holds page `n`, after it in order. -/
def nextMapPages (s : State) (n : Nat) : List Nat :=
  match s.tabs.dirs.find? (fun e => e.2.any (fun x => x.2 == n)) with
  | some e => ((e.2.dropWhile (fun x => x.2 != n)).drop 1).map (·.2)
  | none => []

/-- A vault read of a map page into a pool slot begins; with the vault failed the page is rebuilt into the pool. -/
def fetchMap (n : Nat) (s : State) : State :=
  if (getRes s n).resident ∨ (getRes s n).fetching then s
  else
    match takePool s with
    | some (i, s) => modRes n (fun r => { r with slot := i, fetching := true, pinned := true }) s
    | none => s

/-- MAP_PAGE_FETCH (R274): a lookup finds its page not resident; the next MAP_PREFETCH pages of the directory that are
not resident are read too. -/
def execMapPageFetch (n : Nat) (s : State) : Host.Outcome State Fault Refusal :=
  if dataRuns s && (Tab.at? n s.tabs.mapPages).isSome && !(getRes s n).resident then
    let first := !(getRes s n).fetching
    let s := modQm (fun q => { q with mapMisses := q.mapMisses + 1 }) s
    let s := fetchMap n s
    let more := ((nextMapPages s n).filter (fun m => !(getRes s m).resident && !(getRes s m).fetching)).take
      (cfgMapPrefetch s)
    finish (if first && !s.vault.failed then more.foldl (fun s m => fetchMap m s) s else s)
  else finish s

/-- A vault read of a map page is complete: the page is resident (R274). -/
def mapFetched (n : Nat) (s : State) : State :=
  let s := if s.vault.failed then s else modHealth (fun h => { h with bytesRead := h.bytesRead + diePage }) s
  modRes n (fun r => { r with resident := true, fetching := false, pinned := false, used := true }) s

/-- MAP_WRITE_BACK (R276): a dirty slot is written to the MAP region and is clean. -/
def execMapWriteBack (n : Nat) (s : State) : Host.Outcome State Fault Refusal :=
  if dataRuns s && storeRuns s && (getRes s n).resident && (getRes s n).dirty then
    finish (writeMap n s)
  else finish s

/-- TALLY_DECAY_EPOCH (R289). -/
def execTallyDecayEpoch (s : State) : Host.Outcome State Fault Refusal :=
  finish (modQm (fun q => { q with decay := q.decay + 1 }) s)

/-! ### Failed drives and the rebuild queue (R258, R284 to R286, R348) -/

/-- FREE and SPOIL chunks of a drive that has failed or been removed become RETIRED (R258). -/
def retireChunks (d : Nat) (s : State) : State :=
  match Tab.at? d s.tabs.spans with
  | some p =>
    modTabs (fun t => { t with
      spans := Tab.put d { p with retired := true } t.spans
      chunks := t.chunks.map (fun e =>
        if p.base ≤ e.1 ∧ e.1 < p.base + p.count ∧ (e.2.state = .free ∨ e.2.state = .spoil) then
          (e.1, { e.2 with state := .retired, hdrPending := false, relocate := false, spoilJseq := 0 })
        else e) }) s
  | none => s

/-- A member on a failed drive becomes MISSING, its group degraded and queued (R284); a rebuild that wrote to it is
dropped. -/
def loseMember (g mem : Nat) (s : State) : State :=
  match getGroup s g with
  | none => s
  | some grp =>
    match grp.members[mem]? with
    | some m =>
      if m.state = .missing then s
      else
        let s := setMember g mem .missing 1 s
        let s := { s with cooper := { s.cooper with
          rebuilds := s.cooper.rebuilds.filter (fun r => !(r.group == g && r.member == mem)) } }
        queueRebuild g (modGroup g (fun x => { x with degraded := true }) s)
    | none => s

/-- The members of live groups on a drive. -/
def membersOn (s : State) (d : Nat) : List (Nat × Nat) :=
  ((s.tabs.groups.filter (fun e => e.2.state != .spoil && e.2.state != .free)).map (fun e =>
    ((e.2.members.zip (List.range e.2.members.length)).filter (fun m =>
      chunkDrive s m.1.chunk == some d)).map (fun m => (e.1, m.2)))).flatten

/-- DRIVE_FAILED_QUEUE (R284, R348): the members on a FAILED drive become MISSING, their groups are queued, and the
drive's chunks retire. -/
def driveFailedQueue (d : Nat) (s : State) : State :=
  let s := (membersOn s d).foldl (fun s e => loseMember e.1 e.2 s) s
  dropSpan d (retireChunks d s)

/-- DRIVE_FAILED_QUEUE. -/
def execDriveFailedQueue (d : Nat) (s : State) : Host.Outcome State Fault Refusal :=
  match getDrive s d with
  | some v => if v.state = .failed then finish (driveFailedQueue d s) else finish s
  | none => finish s

/-- The OK members of a group whose chunks are marked RELOCATE (R286). -/
def relocateMembers (s : State) (g : Group) : List Nat :=
  ((g.members.zip (List.range g.members.length)).filter (fun m =>
    m.1.state == .ok && (getChunk s m.1.chunk).relocate)).map (·.2)

/-- The MISSING members of a group. -/
def missingMembers (g : Group) : List Nat :=
  ((g.members.zip (List.range g.members.length)).filter (fun m => m.1.state == .missing)).map (·.2)

/-- May a queued group start: its volume has k reachable members there and its key is loaded (R284, R314)? A group of
STALE members alone waits for its scrub (R316). -/
def mayRebuild (s : State) (g : Nat) : Bool :=
  match getGroup s g with
  | some grp =>
    decide (grp.k ≤ reachCount s grp) && (match getVol s grp.volume with
      | some vol => cipherReady s grp.volume vol
      | none => false) &&
    (!(missingMembers grp).isEmpty || !(relocateMembers s grp).isEmpty ||
      s.cooper.rebuilds.any (fun r => r.group == g))
  | none => false

/-- The group that starts next (R284): lowest REDUNDANCY_LEFT, then degraded longest, then lowest index. One that found no
chunk waits for the next window (R285). -/
def nextRebuild (s : State) : Option Nat :=
  let es := s.qm.queue.filter (fun e => !e.held && mayRebuild s e.group)
  let a := sortBy (fun e => redundancyOf s e.group) (sortBy (fun e => e.since) (sortBy (fun e => e.group) es))
  a.head?.map (·.group)

/-- One member's rebuild or relocation begins with its MEMBER_REPLACE (R285, R309, R310), for a member that has failed
or not; false when no chunk is found. -/
def startMember (failed : Bool) (g mem : Nat) (copy : Bool) (s : State) : Bool × State :=
  match getGroup s g with
  | none => (true, s)
  | some grp =>
    match pickReplacement failed s g grp mem with
    | none => (false, allocFails grp.volume g mem grp.dense s)
    | some c =>
      let old := (grp.chunk? mem).getD 0
      let s := journal (.memberReplace g mem grp.fill old c) s
      let s := if copy then s else releaseChunk old (dropRepairs g mem s)
      let s := allocChunk c g mem 4 grp.volume s.jr.last s
      let s := modGroup g (fun x => { x with rebuilding := true, members := x.members.set mem ⟨c, .rebuilding⟩ }) s
      (true, addRebuild { group := g, member := mem, oldChunk := old, cursor := grp.fill, progress := 0, copy := copy } s)

/-- REBUILD_START (R284 to R286): the group that is next leaves the queue with replacement chunks for its members, or
goes back behind its equals for want of one. -/
def execRebuildStart (g : Nat) (s : State) : Host.Outcome State Fault Refusal :=
  if serving s && nextRebuild s == some g && decide ((rebuilding s).length < cfgRebuildsMax s) then
    match getGroup s g with
    | some grp =>
      let work := (missingMembers grp).map (fun m => (m, false)) ++ (relocateMembers s grp).map (fun m => (m, true))
      let r := work.foldl (fun (acc : Bool × State) w =>
        let n := startMember (!w.2) g w.1 w.2 acc.2
        (acc.1 && n.1, n.2)) (true, s)
      let s := modQm (fun q => { q with queue := q.queue.filter (fun e => e.group != g) }) r.2
      if r.1 then finish s
      else finish (modQm (fun q => { q with queue := q.queue ++ [{ group := g, since := q.nextSince, held := true }], nextSince := q.nextSince + 1 }) s)
    | none => finish s
  else finish s

end Sys2Proof.Machine
end

