-- ==== Sys2Proof/Machine/AssayOps.lean ====
section
/-! DEFINITION. Which setts of a bench can be read, and the reads that the Assayer asks for (R299, R311, R315). -/

namespace Sys2Proof.Machine

/-- The state with Cooper's own part changed. -/
def modCooper (f : Cooper → Cooper) (s : State) : State := { s with cooper := f s.cooper }

/-- The rebuild of a member that runs. -/
def findRebuild (s : State) (g mem : Nat) : Option Rebuild :=
  s.cooper.rebuilds.find? (fun r => r.group == g && r.member == mem)

/-- The operations queued for a drive or issued to it that have not failed. -/
def liveOps (s : State) (d : Nat) : List DriveOp :=
  (getDispatcher s d).queue.map (·.op) ++ (((getDrive s d).map (·.ops)).getD []).filter (fun o => !o.ended)

/-- The rebuild progress of a member: the first bench whose rebuilt sett is not on media yet (R310). -/
def rebuiltTo (s : State) (r : Rebuild) : Nat :=
  match ((getGroup s r.group).bind (fun g => g.chunk? r.member)).bind (chunkDrive s) with
  | none => r.progress
  | some d =>
    ((liveOps s d).filterMap (fun o => match o.what with
      | .writeSett g b m _ => if g = r.group ∧ m = r.member ∧ b < r.progress then some b else none
      | _ => none)).foldl min r.progress

/-- Is a member present for a bench (09, Reading a bench)? -/
def memberPresent (s : State) (g : Nat) (grp : Group) (b mem : Nat) : Bool :=
  match grp.members[mem]? with
  | none => false
  | some m =>
    match m.state with
    | .ok | .stale => true
    | .missing => false
    | .rebuilding =>
      match findRebuild s g mem with
      | some r => decide (b < rebuiltTo s r) || decide (r.cursor ≤ b)
      | none => false

/-- Is a member suspect (09, Reading a bench)? -/
def memberSuspect (grp : Group) (mem : Nat) : Bool := ((grp.members[mem]?).map (fun m => m.state == .stale)).getD false

/-- Has the repair table an entry for a sett (R303)? -/
def repairEntry (s : State) (g b mem : Nat) : Bool :=
  s.tabs.repair.any (fun r => r.group == g && r.bench == b && r.member == mem)

/-- Is a sett listed (R303)? While a relocation copies a member its entries are those of the chunk it copies from, which the
member names no longer (R309). -/
def repairListed (s : State) (g b mem : Nat) : Bool :=
  repairEntry s g b mem && !((findRebuild s g mem).map (·.copy)).getD false

/-- Present, not suspect, not repair-listed. -/
def memberGood (s : State) (g : Nat) (grp : Group) (b mem : Nat) : Bool :=
  memberPresent s g grp b mem && !memberSuspect grp mem && !repairListed s g b mem

/-- The good members of a bench, in member order (R311). -/
def goodMembers (s : State) (g : Nat) (grp : Group) (b : Nat) : List Nat :=
  (List.range grp.size).filter (memberGood s g grp b)

/-- The suspect members of a bench that are not repair-listed. -/
def suspectMembers (s : State) (g : Nat) (grp : Group) (b : Nat) : List Nat :=
  (List.range grp.size).filter (fun m => memberPresent s g grp b m && memberSuspect grp m && !repairListed s g b m)

/-- `n` members taken cyclically from position b mod |S|, suspect ones filling the gap (R311). -/
def survivors (s : State) (g : Nat) (grp : Group) (b n : Nat) : List Nat :=
  let S := goodMembers s g grp b
  let c := S.length
  let first := (List.range (min n c)).filterMap (fun i => S[(b % max 1 c + i) % max 1 c]?)
  first ++ (suspectMembers s g grp b).take (n - c)

/-- The members that a read of a bench takes (R299): every good one of a bench read whole, the needed ones when all are
good, else k survivors. -/
def readMembers (s : State) (g : Nat) (grp : Group) (b : Nat) (whole : Bool) (need : List Nat) : List Nat :=
  let mems := need.map (settMember grp.size b)
  if whole then
    let S := goodMembers s g grp b
    if grp.k ≤ S.length then S else survivors s g grp b grp.k
  else if mems.all (memberGood s g grp b) then mems
  else survivors s g grp b grp.k

/-- Reads of setts join the queues of their drives (R280, R281). -/
def queueReads (flow : Flow) (g : Nat) (grp : Group) (b bytes : Nat) (mems : List Nat) (s : State) : State :=
  mems.foldl (fun s mem =>
    match (grp.chunk? mem).bind (chunkDrive s) with
    | some d => enqueueOp d flow bytes (.readSett g b mem) s
    | none => s) s

/-- The Assayer is asked for a bench (R299). -/
def requestBench (reader : Reader) (flow : Flow) (g b : Nat) (whole : Bool) (need : List Nat) (bytes : Nat) (s : State) :
    State :=
  match getGroup s g with
  | none => s
  | some grp =>
    let s := modCooper (fun c => { c with reads := c.reads ++ [⟨g, b, whole, need, reader, false, []⟩] }) s
    queueReads flow g grp b (if whole then settBytes else bytes) (readMembers s g grp b whole need) s

end Sys2Proof.Machine
end

