-- ==== Sys2Proof/Machine/Merge.lean ====
section
/-! DEFINITION. Merges (R212 to R215, R305): from MERGE_START, bench by bench through the Assayer to the target group, to
MERGE_DONE; and the benches that the drives report on media (R208, R209). -/

namespace Sys2Proof.Machine

/-! ### What a merge reads of a bench (R213 step 2) -/

/-- The live log copies of the pages of bench `b` of an extent, each with the place where it lies. A page of a poisoned log
bench has none (log entry 169). -/
def mergeLogParts (s : State) (v x k b : Nat) : List ReadPart :=
  (pagesOfBench k b).filterMap (fun p => (pmEntry s v x p).bind (fun e => (logPlace s e).bind (fun l =>
    if poisoned s l.1 l.2.1 then none
    else some { page := p, mask := e.bmask, group := l.1, bench := l.2.1, pos := l.2.2, unit := e.slot % 32 })))

/-- The source group of a merge, when bench `b` lies below its FILL. -/
def mergeSource (s : State) (v x b : Nat) : Option Nat :=
  (getExt s v x).group.bind (fun g => (getGroup s g).bind (fun y => if b < y.fill then some g else none))

/-- The pages of bench `b` in the source group. -/
def mergeBaseParts (s : State) (v x k b : Nat) : List ReadPart :=
  match mergeSource s v x b with
  | some g => (pagesOfBench k b).map (fun p =>
      { page := p, mask := fullMask, group := g, bench := b, pos := pageSett k p, unit := p % settPages })
  | none => []

/-- The state with the merge of an extent changed. -/
def modMerge (v x : Nat) (f : Merge → Merge) : State → State :=
  modEtu (fun e => { e with merges := e.merges.map (fun m => if m.volume = v ∧ m.extent = x then f m else m) })

/-- Are the map pages of bench `b` of an extent at hand (R274)? A bench lies in two of them at most. -/
def benchMapReady (s : State) (v x k b : Nat) : Bool :=
  mapReady s v x (b * benchPages k) && mapReady s v x ((b + 1) * benchPages k - 1)

/-- The log benches that hold copies of a bench's pages, once each. -/
def partBenches (l : List ReadPart) : List (Nat × Nat) := dedup (l.map (fun q => (q.group, q.bench)))

/-- The reads of one target bench are asked for: the source bench whole, every log slot alone (R213, R299). -/
def mergeAsk (m : Merge) (vol : Volume) (s : State) : State :=
  let v := m.volume
  let x := m.extent
  let b := m.progress
  let base := mergeBaseParts s v x vol.k b
  let logs := mergeLogParts s v x vol.k b
  let flow : Flow := .background (mergeKind m.reason)
  let lost := (pagesOfBench vol.k b).any (fun p => (pmEntry s v x p).isSome && logs.all (fun q => q.page != p))
  let s := modMerge v x (fun q => { q with
    asked := true, pages := [], waits := base ++ logs, bad := if lost then q.bad ++ [b] else q.bad }) s
  let s := match base with
    | q :: _ => requestBench (.merge v x) flow q.group b true (List.range vol.k) settBytes s
    | [] => s
  (partBenches logs).foldl (fun s e =>
    let mine := logs.filter (fun q => q.group == e.1 && q.bench == e.2)
    requestBench (.merge v x) flow e.1 e.2 false (dedup (mine.map (fun q => q.pos))) (4096 * mine.length) s) s

/-! ### What a merge writes (R213 step 2, R305) -/

/-- A page as the merge writes it: its log copy over what the source holds; zeros where a log copy could not be read, and
where nothing is held. `Merge.pages` has the source's page under an even number, the log copy under the odd one after
it. -/
def mergePage (s : State) (m : Merge) (p : Nat) : Bytes :=
  let base := Tab.atD m.pages (2 * p) (zeros 4096)
  match pmEntry s m.volume m.extent p with
  | some e => mergeBlocks e.bmask (Tab.atD m.pages (2 * p + 1) (zeros 4096)) base
  | none => base

/-- A data sett of the target bench. -/
def mergeSett (s : State) (m : Merge) (k pos : Nat) : Bytes :=
  ((List.range settPages).map (fun i => mergePage s m (m.progress * benchPages k + pos * settPages + i))).flatten

/-- May a merge write to its target: nothing is owed by the drives, its last bench is on media, every member can be
written, and the volume's data can be enciphered (R211, R213)? -/
def mergeMayWrite (s : State) (m : Merge) (vol : Volume) : Bool :=
  m.asked && m.waits.isEmpty && (flightOf s m.target).isEmpty && cipherReady s m.volume vol &&
    (!keySpent s vol || m.reason == 6) && (match getGroup s m.target with
      | some g => groupWritable s g
      | none => false)

/-- The target bench is encoded and written whole (R213, R296). -/
def mergeWrite (m : Merge) (vol : Volume) (s : State) : State :=
  match getGroup s m.target with
  | none => s
  | some grp =>
    launchBench { kind := .target, volume := m.volume, extent := m.extent, logIx := 0, group := m.target
                  bench := m.progress, pages := [], onMedia := false
                  data := encodeBench vol ((List.range vol.k).map (mergeSett s m vol.k)) } vol grp s

/-- May a merge go on: its volume is not OFFLINE (R247), its source has k members, the maps are at hand (R215, R274)? -/
def mergeMayRead (s : State) (m : Merge) (vol : Volume) : Bool :=
  !m.asked && decide (m.progress < benchesPerGroup) && vol.state != .offline && cipherReady s m.volume vol &&
    mergeSourceOk s m.volume m.extent && benchMapReady s m.volume m.extent vol.k m.progress

/-- A merge goes on with its next bench as far as it can: it asks for the reads, and writes when they have come. -/
def mergeStep (v x : Nat) (s : State) : State :=
  match findMerge s v x, getVol s v with
  | some m, some vol =>
    let s := if mergeMayRead s m vol then mergeAsk m vol s else s
    match findMerge s v x with
    | some m => if mergeMayWrite s m vol then mergeWrite m vol s else s
    | none => s
  | _, _ => s

/-- Every merge that waited goes on. -/
def mergeSteps (s : State) : State := s.etu.merges.foldl (fun s m => mergeStep m.volume m.extent s) s

/-! ### What the Assayer brings (R302, R305) -/

/-- Parts of a bench have been settled for a merge: `data` are the setts that came; `lossy` says that the others could not
be read, so that zeros stand for them and the target bench is poisoned, unless live log pages overlay it all (R305). -/
def mergeTake (v x g b : Nat) (data : Tab Bytes) (lossy : Bool) (s : State) : State :=
  match findMerge s v x, getVol s v with
  | some m, some vol =>
    let mine := m.waits.filter (fun q => q.group == g && q.bench == b)
    let src := decide (mergeSource s v x m.progress = some g)
    let got := mine.filterMap (fun q => (Tab.at? q.pos data).map (fun d =>
      (if src then 2 * q.page else 2 * q.page + 1, slice d (4096 * q.unit) 4096)))
    let bad := lossy && (if src then !benchOverlaid s v x vol.k m.progress else decide (got.length < mine.length))
    mergeStep v x (modMerge v x (fun q => { q with
      pages := got.foldl (fun t e => Tab.put e.1 e.2 t) q.pages
      waits := q.waits.filter (fun w => !(w.group == g && w.bench == b))
      bad := if bad then q.bad ++ [q.progress] else q.bad }) s)
  | _, _ => s

/-! ### On media (R208, R209, R213 step 3) -/

/-- A target bench is on media: MERGE_PROGRESS rises, and the merge goes on. -/
def targetDone (f : Inflight) (s : State) : State :=
  let s := modEtu (fun e => { e with inflight := e.inflight.erase f }) s
  mergeStep f.volume f.extent (modMerge f.volume f.extent (fun m => { m with
    progress := m.progress + 1, asked := false, pages := [], waits := [] }) s)

/-! ### The commands of a merge (R212 to R215) -/

/-- MERGE_START (R212, R213 step 1): an extent that a trigger has queued. It waits while benches with its pages are in
flight, and while a page of its maps is not committed (R214). -/
def execMergeStart (v x : Nat) (s : State) : Host.Outcome State Fault Refusal :=
  let e := getExt s v x
  match e.queued, getVol s v with
  | some r, some vol =>
    if serving s && decide (s.etu.merges.length < cfgMergesMax s) && e.state != .merging &&
        (e.state != .none || e.pmd.isSome) && mergeSourceOk s v x && cipherReady s v vol && vol.state != .offline &&
        (!keySpent s vol || r == 6) && !extInFlight s v x && !extUncommitted s v vol x then
      finish (mergeStep v x (beginMerge v x r s))
    else finish s
  | _, _ => finish s

/-- Is every target bench of a merge on media (R213 step 3)? -/
def mergeComplete (s : State) (m : Merge) : Bool := m.progress == benchesPerGroup && (flightOf s m.target).isEmpty

/-- MERGE_DONE (R213 steps 4 and 5): every target bench is on media. A merge that is not so far goes on by `n` benches at
most. A merge of an OFFLINE volume waits (R247). -/
def execMergeDone (v x n : Nat) (s : State) : Host.Outcome State Fault Refusal :=
  match findMerge s v x, getVol s v with
  | some m, some vol =>
    if serving s && vol.state != .offline then
      if mergeComplete s m then finish (endMerge m s) else finish ((List.range n).foldl (fun s _ => mergeStep v x s) s)
    else finish s
  | _, _ => finish s

/-- MERGE_ABANDON (R215): a merge ends without MERGE_DONE for one of the reasons of R224. -/
def execMergeAbandon (v x reason : Nat) (s : State) : Host.Outcome State Fault Refusal :=
  if decide (1 ≤ reason) && decide (reason ≤ 5) then finish (abandonMerge v x reason s) else finish s

end Sys2Proof.Machine
end

