-- ==== Sys2Proof/Machine/PortOps.lean ====
section
/-! DEFINITION. What host ports, rings and commands share: sending, interrupts, completion records, tags and host reads,
range locks, the end and the cancellation of commands, holds and quarantine (R75 to R108, R116, R126, R127, R169,
R170). -/

namespace Sys2Proof.Machine

/-! ### Sessions end (R493) -/

/-- The number under which an RXMP session or a mailbox keeps its own objects. -/
def chanKey : Channel → Nat
  | .rxmp n => 4 + n
  | .mailbox p | .anonymous p => p.val

/-- A session ends (R493): its keys go, and with an RXMP session the objects kept for it. -/
def endSession (id : Nat) (s : State) : State :=
  let rxmp := s.sess.sessions.any (fun x => x.id == id && x.port.isNone)
  let owner := (s.sess.sessions.filter (fun x => x.id == id)).filterMap (fun x => x.port)
  let s := { s with sess := { s.sess with sessions := s.sess.sessions.filter (fun x => x.id != id) } }
  let s := allPorts.foldl (fun s p => modPort p (fun q =>
    if q.mailbox.session = some id then { q with mailbox := { q.mailbox with session := none } } else q) s) s
  if rxmp then
    { s with
      dict := { s.dict with selects := s.dict.selects.filter (fun e => e.1 / 2 ^ 24 != 4 + id) }
      lock := { s.lock with quotes := s.lock.quotes.filter (fun q => q.channel != 4 + id)
                            fwOwner := if s.lock.fwOwner = some (4 + id) then none else s.lock.fwOwner } }
  else
    let held := owner.any (fun p => s.lock.fwOwner == some p.val)
    { s with lock := { s.lock with fwOwner := if held then none else s.lock.fwOwner } }

/-- The mailbox of a port is reset (R499, R503): its session ends and a pending one lapses; what a request that runs
answers is discarded. -/
def resetMailbox (p : PortId) (s : State) : State :=
  let s := (s.sess.sessions.filter (fun x => x.port == some p)).foldl (fun s x => endSession x.id s) s
  let s := { s with sess := { s.sess with pending := s.sess.pending.filter (fun x => x.port != some p) } }
  modPort p (fun q =>
    if q.mailbox.busy then { q with mailbox := { q.mailbox with discard := true, session := none } }
    else { q with mailbox := Mailbox.reset }) s

/-! ### Sending (R89 to R93, R102, R107) -/

/-- HELD (R86). -/
def Port.isHeld (q : Port) : Bool := !q.cfg.busMaster || q.cfg.d3hot

/-- May a port send requests: not held, ACTIVE, and not in MAINTENANCE (R102, R107, R538)? -/
def Port.maySend (q : Port) : Bool := q.state == .active && !q.isHeld && !q.maint

/-- A port issues a TLP. -/
def sendTlp (p : PortId) (t : Tlp) : State → State := modPort p (fun q => { q with tx := q.tx ++ [t] })

/-- Interrupt modes (R89). -/
inductive IrqMode where
  | msix | msi | intx | none
  deriving DecidableEq, Repr

/-- The interrupt mode that the host's enables select (R89). -/
def irqMode (c : PortCfg) : IrqMode :=
  if c.msixEnable then .msix else if c.msiEnable then .msi else if c.interruptDisable then .none else .intx

/-- Is a vector of the MSI-X table masked, by its own mask bit or by the Function Mask (R78, R90)? -/
def msixMasked (q : Port) (v : Nat) : Bool := q.cfg.msixFunctionMask || !decide (v ∈ q.msixUnmasked)

/-- The message of a vector (R90): of the MSI-X table entry, or of MSI modulo the vectors; held pending while it is
masked (R78). -/
def sendMsg (p : PortId) (v : Nat) (s : State) : State :=
  let q := s.ports.get p
  match irqMode q.cfg with
  | .msix =>
    if !msixMasked q v then sendTlp p (.msix v) s
    else if v ∈ q.msixPending then s
    else modPort p (fun q => { q with msixPending := q.msixPending ++ [v] }) s
  | .msi =>
    let n := v % max 1 q.cfg.msiVectors
    if q.cfg.msiMask.getLsbD n then modPort p (fun q => { q with msiPending := q.msiPending ||| (1#32 <<< n) }) s
    else sendTlp p (.msi n) s
  | _ => s

/-- The messages that a mask held and no mask holds any more are sent, once each (R90), while the port may send, in the
mode that it runs (log entry 38). -/
def sendHeld (p : PortId) (s : State) : State :=
  let q := s.ports.get p
  if q.maySend then
    match irqMode q.cfg with
    | .msix =>
      modPort p (fun q => { q with
        msixPending := q.msixPending.filter (msixMasked q)
        tx := q.tx ++ (q.msixPending.filter (fun v => !msixMasked q v)).map .msix }) s
    | .msi =>
      modPort p (fun q => { q with
        msiPending := q.msiPending &&& q.cfg.msiMask
        tx := q.tx ++ ((List.range 32).filter ((q.msiPending &&& ~~~q.cfg.msiMask).getLsbD ·)).map .msi }) s
    | _ => s
  else s

/-- Is INTA to be asserted: INTx mode with an INT_PENDING bit set (R91)? -/
def intaOn (q : Port) : Bool := irqMode q.cfg == .intx && q.intPending != 0#256

/-- INTA follows INT_PENDING and the interrupt mode (R89, R91): a port that may not send requests still withdraws it, and
asserts it when it may send again (R102; log entry 152). -/
def intaSync (p : PortId) (s : State) : State :=
  let q := s.ports.get p
  if intaOn q = q.inta ∨ (intaOn q = true ∧ q.maySend = false) then s
  else sendTlp p (.intx (intaOn q)) (modPort p (fun q => { q with inta := intaOn q }) s)

/-- What a port sends when it may send again, or when its masks or its interrupt mode have changed (R86, R89 to R91). -/
def sendAgain (p : PortId) (s : State) : State := sendHeld p (intaSync p s)

/-- INT_PENDING takes a value; INTA follows it in INTx mode (R91). -/
def putPending (p : PortId) (v : BitVec 256) (s : State) : State :=
  intaSync p (modPort p (fun q => { q with intPending := v }) s)

/-- The INT_PENDING bit of a ring is set (R91). -/
def setPending (p : PortId) (r : Nat) (s : State) : State :=
  putPending p ((s.ports.get p).intPending ||| (1#256 <<< r)) s

/-- A record that requests an interrupt: the pending bit, and a message when COUNT such records have gathered or no wait
is asked for (R115, R116). -/
def requestIrq (p : PortId) (r : Nat) (s : State) : State :=
  let x := getRing s p r
  let s := setPending p r s
  if x.coalTime = 0 ∨ x.coalCount ≤ x.coal + 1 then sendMsg p x.vector (modRing p r (fun x => { x with coal := 0 }) s)
  else modRing p r (fun x => { x with coal := x.coal + 1 }) s

/-- The completion record of an entry (R126). -/
def recordBytes (e : OutEntry) (r : CplRes) : Bytes :=
  let ctl := (e.head.getD 0 0).toNat
  leBytes 1 (if bit ctl 0 then ctl ||| 2 else ctl &&& 0xFD) ++ slice e.head 1 2 ++ leBytes 1 (b2n e.pushed) ++
    leBytes 2 r.status ++ [0, 0] ++ slice e.head 8 8 ++ leBytes 4 e.tag ++ leBytes 4 r.result0 ++ leBytes 8 r.result1

/-- The two writes of a record: bytes 4 to 31, then bytes 0 to 3 (R127). The entry is outstanding no more. -/
def putRecord (p : PortId) (r : Nat) (e : OutEntry) (res : CplRes) (s : State) : State :=
  let b := recordBytes e res
  let a := (getRing s p r).base + e.pos.off
  let s := sendTlp p (.record a (b.take 4)) (sendTlp p (.record (a + 4) (b.drop 4)) s)
  modRing p r (fun x => { x with out := x.out.filter (fun o => o != e), cplCount := x.cplCount + 1 }) s

/-- A completion record with the interrupt that its entry asks for (R116, R127). -/
def writeRecord (p : PortId) (r : Nat) (e : OutEntry) (res : CplRes) (s : State) : State :=
  let s := putRecord p r e res s
  if bit (e.head.getD 0 0).toNat 2 && (getRing s p r).irqEn then requestIrq p r s else s

/-! ### Tags and reads of host memory (R75, R96, R99, R151) -/

/-- TAG_MODE that the enables choose (R75): 0 5-bit, 1 8-bit, 2 10-bit, 3 14-bit. -/
def tagModeOf (q : Port) : Nat :=
  if q.link.flit && q.cfg.tag14 then 3 else if q.cfg.tag10 then 2 else if q.cfg.extTag then 1 else 0

/-- Outstanding non-posted requests at most (R75). -/
def tagLimit (q : Port) : Nat :=
  match tagModeOf q with
  | 3 => 4096
  | 2 => 768
  | 1 => 256
  | _ => 32

/-- The tags that new requests may take: those withheld lessen the count (R99). The model numbers a port's tags from 0
and takes the lowest (log entry 30). -/
def freeTags (q : Port) : List Nat :=
  ((List.range (tagLimit q)).filter (fun t => (Tab.at? t q.reqs).isNone && !decide (t ∈ q.withheld))).take
    (tagLimit q - q.reqs.length - q.withheld.length)

/-- A transfer split at 4 KiB boundaries and at the largest payload or request (R151); `fuel` bounds the parts. -/
def splitTransfer (m : Nat) : Nat → Nat → Nat → List (Nat × Nat)
  | 0, _, _ => []
  | n + 1, a, len =>
    if len = 0 then []
    else
      let c := min len (min (max 1 m) (4096 - a % 4096))
      (a, c) :: splitTransfer m n (a + c) (len - c)

/-- A position moved on by `n` bytes; past the end of the ring it is in the next lap (R123). -/
def Pos.advance (x : Pos) (size n : Nat) : Pos :=
  if x.off + n < size then { x with off := x.off + n } else { lap := !x.lap, off := x.off + n - size }

/-- The forward distance from one position to another, modulo twice the ring (R130). -/
def Pos.distance (size : Nat) (a b : Pos) : Nat :=
  (b.off + (if a.lap = b.lap then 0 else size) + (2 * size - a.off)) % (2 * size)

/-- The size of a ring in bytes (R114). -/
def Ring.size (x : Ring) : Nat := 2 ^ x.sizeLog2

/-- The next part of a ring that is to be fetched, from the first granule that the port does not hold: its offset, its
length and the position after it. It ends at the doorbell, at a granule that was pushed, at the end of the ring, at a
4 KiB boundary or at Max_Read_Request_Size (R131, R134). -/
def Ring.nextFetch (x : Ring) (mrrs : Nat) : Option (Nat × Nat × Pos) :=
  let d := Pos.distance x.size x.fetchPos x.db
  let have_ (i : Nat) : Bool := (Tab.at? ((x.fetchPos.advance x.size (64 * i)).off / 64) x.granules).isSome
  if x.state != .running then none
  else
    let rest := (List.range (d / 64)).dropWhile have_
    match rest with
    | [] => none
    | i :: _ =>
      let n := 64 * (rest.takeWhile (fun j => !have_ j)).length
      let at_ := x.fetchPos.advance x.size (64 * i)
      let len := min (min n (x.size - at_.off)) (min mrrs (4096 - (x.base + at_.off) % 4096))
      some (at_.off, len, at_.advance x.size len)

/-- A port issues a read with a tag (R75, R92). -/
def issueRead (p : PortId) (tag : Nat) (k : ReqKind) (addr len : Nat) (s : State) : State :=
  let ido := (s.ports.get p).cfg.ido
  modPort p (fun q => { q with
    tagMode := tagModeOf q, tx := q.tx ++ [.fetch tag addr len ido]
    reqs := Tab.put tag { kind := k, addr := addr, len := len, held := false, dropped := false } q.reqs }) s

/-- The next read that a port wants: of its lowest ring with bytes to fetch, else of its oldest command with data to read
(R131, R151; log entry 164). -/
def issueNext (p : PortId) (tag : Nat) (s : State) : State :=
  let mrrs := (s.ports.get p).cfg.mrrs
  match (ringsOf s p).findSome? (fun r => ((getRing s p r).nextFetch mrrs).map (fun f => (r, f))) with
  | some (r, off, len, next) =>
    issueRead p tag (.ring r off) ((getRing s p r).base + off) len
      (modRing p r (fun x => { x with fetchPos := next }) s)
  | none =>
    match s.ce.cmds.find? (fun c => c.port == p && !c.todo.isEmpty) with
    | some c =>
      match c.todo with
      | (off, addr, len) :: rest =>
        let k : ReqKind := if (c.entry.getD 2 0) = 8 then .echo c.tag off else .data c.tag off
        issueRead p tag k addr len { s with ce := { s.ce with cmds := s.ce.cmds.map (fun d =>
          if d.port = p ∧ d.tag = c.tag then { d with todo := rest } else d) } }
      | [] => s
    | none => s

/-- A port issues the reads it wants while it has tags (R75). -/
def pump (p : PortId) (s : State) : State :=
  if (s.ports.get p).maySend then (freeTags (s.ports.get p)).foldl (fun s t => issueNext p t s) s else s

/-- Data written into a host buffer, split by Max_Payload_Size (R92, R151). -/
def writeHost (p : PortId) (addr : Nat) (b : Bytes) (s : State) : State :=
  let c := (s.ports.get p).cfg
  (splitTransfer c.mps b.length addr b.length).foldl (fun s e =>
    sendTlp p (.data e.1 (slice b (e.1 - addr) e.2) c.relaxedOrd c.ido) s) s

/-! ### Range locks (R169, R170) -/

/-- Do two locks conflict? -/
def Lock.conflicts (a b : Lock) : Bool :=
  a.vol == b.vol && decide (a.lo < b.lo + b.len) && decide (b.lo < a.lo + a.len) && (a.exclusive || b.exclusive)

/-- The state with the Command Engine changed. -/
def modCe (f : CmdEngine → CmdEngine) (s : State) : State := { s with ce := f s.ce }

/-- Locks at most (R172). -/
def lockMax : Nat := 131072

/-- A command's lock is requested; it is held at once when no lock before it conflicts, else the command stalls (R169). -/
def takeLock (l : Lock) (s : State) : State :=
  let free := !(s.ce.locks.any (fun k => k.conflicts l))
  modCe (fun c => { c with locks := c.locks ++ [{ l with held := free }]
                           lockStalls := c.lockStalls + b2n (!free) }) s

/-- Is a waiting lock free of conflicts with every lock before it (R169)? -/
def mayGrant : List Lock → List Lock → PortId → Nat → Bool
  | _, [], _, _ => false
  | before, l :: t, p, tag =>
    if l.port = p ∧ l.tag = tag then !l.held && !(before.any (fun k => k.conflicts l))
    else mayGrant (before ++ [l]) t p tag

/-- A command's lock is released or leaves the queue (R170, R171). -/
def dropLock (p : PortId) (tag : Nat) : State → State :=
  modCe (fun c => { c with locks := c.locks.filter (fun l => !(l.port == p && l.tag == tag)) })

/-! ### Commands (R101, R126, R162, R165) -/

/-- A command in work. -/
def findCmd (s : State) (p : PortId) (tag : Nat) : Option Cmd := s.ce.cmds.find? (fun c => c.port == p && c.tag == tag)

/-- The state with a command changed. -/
def modCmd (p : PortId) (tag : Nat) (f : Cmd → Cmd) : State → State :=
  modCe (fun e => { e with cmds := e.cmds.map (fun c => if c.port = p ∧ c.tag = tag then f c else c) })

/-- The command is in work no more; the space it reserved and has not handed to slots returns (R165). -/
def dropCmd (c : Cmd) (s : State) : State :=
  let s := modCe (fun e => { e with cmds := e.cmds.filter (fun d => !(d.port == c.port && d.tag == c.tag)) }) s
  modQm (fun q => { q with reserved := q.reserved - c.reserved }) s

/-- Reads of the Assayer that a command waits for are given up. -/
def dropReadsOf (p : PortId) (tag : Nat) (s : State) : State :=
  { s with cooper := { s.cooper with reads := s.cooper.reads.filter (fun r => r.reader != .host p.val tag) } }

/-- What still comes back for a command is discarded (R102, R145). -/
def dropReqsOf (p : PortId) (tag : Nat) : State → State :=
  modPort p (fun q => { q with reqs := q.reqs.map (fun e =>
    match e.2.kind with
    | .data c _ | .echo c _ => if c = tag then (e.1, { e.2 with dropped := true }) else e
    | _ => e) })

/-- A command ends with a status: its lock is released, and its record is written while its ring can take records. On a
ring that a hold stops the status waits for the ring reset (R101, R105, R127, R143, R170). -/
def endCmd (write : Bool) (p : PortId) (tag : Nat) (r : CplRes) (s : State) : State :=
  match findCmd s p tag with
  | none => s
  | some c =>
    let s := dropLock p tag (dropReadsOf p tag (dropReqsOf p tag (dropCmd c s)))
    let x := getRing s p c.ring
    match x.out.find? (fun o => o.tag == tag && !o.notice) with
    | none => s
    | some e =>
      if write && (x.state == .running || x.state == .faulted) && (s.ports.get p).maySend then
        let s := modPort p (fun q => { q with failed := q.failed + b2n (decide (0x0100 ≤ r.status)) }) s
        writeRecord p c.ring e r s
      else modRing p c.ring (fun x => { x with snapshot := some (x.snapshot.getD [] ++ [(tag, r)]) }) s

/-- A command ends and its record is written. -/
def completeCmd (p : PortId) (tag : Nat) (r : CplRes) : State → State := endCmd true p tag r

/-- A command ends with a status and no results (R162). -/
def failCmd (p : PortId) (tag st : Nat) : State → State := completeCmd p tag ⟨st, 0, 0⟩

/-- Is a page of the cache in a bench in flight to a face? -/
def onFace (s : State) (wc : Nat) : Bool :=
  s.etu.inflight.any (fun f => f.kind == .face && f.pages.any (fun q => q.wc == wc))

/-- A slot leaves the benches in flight and the packs; what the bench carries of it is never named by a map. -/
def leaveFlight (wc : Nat) : State → State :=
  modEtu (fun e => { e with
    inflight := e.inflight.map (fun f => { f with pages := f.pages.filter (fun q => q.wc != wc) })
    packs := (e.packs.map (fun k => { k with pages := k.pages.filter (fun q => q.wc != wc) })).filter (fun k =>
      !k.pages.isEmpty) })

/-- The content that a page had before a face bench took a cancelled write's copy of it: its older copy in the cache,
zeros where that has none, for a page of a bench at or beyond FILL without a log copy is written nowhere else (R195,
R197). It overlays what the bench carries, as a DIRTY copy without a commit (R101; log entry 160). -/
def overlayOld (wc : Nat) (x : Slot) (s : State) : State :=
  let old := match findSlot s x.volume x.page with
    | some (_, y) => mergeBlocks y.bmask y.data (zeros 4096)
    | none => zeros 4096
  let s := match findSlot s x.volume x.page with
    | some (_, y) => if y.state = .destaging then supersede x.volume x.page s else s
    | none => s
  match findSlot s x.volume x.page with
  | some (i, y) =>
    let s := modSlot i (fun z => { z with state := .dirty, bmask := fullMask, data := old, reserved := z.reserved + x.reserved
                                          first := if y.state = .dirty then z.first else 0 }) s
    freeSlot wc s
  | none =>
    let s := match getVol s x.volume with
      | some vol => expose vol [x.page] s
      | none => s
    modSlot wc (fun z => { z with
      state := .dirty, bmask := fullMask, data := old, atomic := false, link := none, jseq := 0, first := 0 }) s

/-- A slot of a cancelled write is given up (R101, R362). A page-map entry that named it returns to the one before; what a
face bench carries of it is overlaid with the page as it was. Nothing changes on the volume (R174 to R176). -/
def cancelSlot (e : Nat × Slot) (s : State) : State :=
  let face := e.2.state == .staged && e.2.undo.isNone && (e.2.jseq != 0 || onFace s e.1)
  let s := match e.2.undo, getVol s e.2.volume with
    | some old, some vol => revertPm e.2.volume (e.2.page / max 1 vol.extentPages) (e.2.page % max 1 vol.extentPages) old
        (modSlot e.1 (fun z => { z with undo := none }) s)
    | _, _ => s
  let s := leaveFlight e.1 s
  if face then overlayOld e.1 e.2 s
  else modQm (fun q => { q with reserved := q.reserved - e.2.reserved }) (freeSlot e.1 s)

/-- A cancelled write gives up its slots (R101, R362). -/
def cancelSlots (p : PortId) (tag : Nat) (s : State) : State :=
  pinSync (freeLogs ((slotsOf s p tag).foldl (fun s e => cancelSlot e s) s))

/-- A command is cancelled (R101, R144): nothing it would have done later takes place. -/
def cancelCmd (c : Cmd) (s : State) : State :=
  let s := cancelSlots c.port c.tag s
  dropLock c.port c.tag (dropReadsOf c.port c.tag (dropReqsOf c.port c.tag (dropCmd c s)))

/-! ### Hold (R101 to R103, R139) -/

/-- A ring that a hold keeps: it stops, and the snapshot of this hold, or of an earlier reset or hold, stays with it
(R103, R139, R142). -/
def stopRing (x : Ring) : Ring :=
  if x.state = .running ∨ x.state = .faulted ∨ x.state = .resetting then
    { x with state := .stopped, snapshot := some (x.snapshot.getD []), granules := [], retry := [], refetch := .no }
  else x

/-- A hold (R101, R102): the port's commands are cancelled, what its reads bring is discarded, its rings stop, or are
discarded (R103). -/
def hold (p : PortId) (keep : Bool) (s : State) : State :=
  let s := (s.ce.cmds.filter (fun c => c.port == p)).foldl (fun s c => cancelCmd c s) s
  let s := modPort p (fun q => { q with
    reqs := q.reqs.map (fun e => (e.1, { e.2 with held := true, dropped := true })) }) s
  if keep then (ringsOf s p).foldl (fun s r => modRing p r stopRing s) s
  else { s with rings := s.rings.filter (fun e => e.1 / 256 != p.val) }

/-- Configuration space returns to its defaults, and with it the MSI-X table and INT_PENDING (R85, R103), so that INTA is
withdrawn (R91); the notice queue is emptied, repeats end, the mailbox is reset (R140, R161, R499). -/
def resetFunction (p : PortId) (s : State) : State :=
  resetMailbox p (intaSync p (modPort p (fun q => { q with
    cfg := PortCfg.reset, intPending := 0#256, msixUnmasked := [], msixPending := [], msiPending := 0#32
    msixWords := [], notices := [], unacked := [] }) s))

/-- A port reset or FLR: a hold that discards the rings, and defaults (R103, R146). -/
def portReset (p : PortId) (s : State) : State := resetFunction p (hold p false s)

/-! ### Quarantine (R87, R106 to R108) -/

/-- PORT_CAUSE gains a bit (R87). -/
def addCause (p : PortId) (b : Nat) : State → State :=
  modPort p (fun q => { q with cause := q.cause ||| BitVec.ofNat 32 (2 ^ b) })

/-- A containment event (R106 to R108): the cause bit is added; from another state the port enters QUARANTINED, which is
counted and recorded, and is held. The tags outstanding now must be answered or served before it is ACTIVE again. -/
def contain (p : PortId) (b : Nat) (keep : Bool) (s : State) : State :=
  let s := addCause p b s
  if (s.ports.get p).state = .quarantined then (if keep then s else hold p false s)
  else
    let s := hold p keep s
    let s := modPort p (fun q => { q with
      state := .quarantined, quarantines := q.quarantines + 1, quarTags := dedup (q.quarTags ++ Tab.keys q.reqs) }) s
    event 0x2101 2 p.val (leBytes 4 (s.ports.get p).cause.toNat ++ leBytes 4 (s.ports.get p).quarantines) s

end Sys2Proof.Machine
end

