-- ==== Sys2Proof/Machine/Rings.lean ====
section
/-! DEFINITION. Work rings (04): doorbells, push windows, acceptance of entries, notices and ring resets. -/

namespace Sys2Proof.Machine

/-! ### Faults and doorbells (R129, R130, R134, R138) -/

/-- A position in the RING_DB format (R129). -/
def Pos.word (x : Pos) : Nat := x.off + b2n x.lap * 2 ^ 31

/-- The position that a RING_DB value names (R129). -/
def Pos.ofWord (v : Nat) : Pos := { lap := bit v 31, off := bitsOf v 23 0 }

/-- A ring faults (R138): it accepts nothing more; the interrupt goes out if the ring may request any; the fault is
recorded, which queues its notice. What COALESCE counts goes on (log entry 165). -/
def ringFault (p : PortId) (r code : Nat) (s : State) : State :=
  let s := modRing p r (fun x => { x with state := .faulted, fault := code }) s
  let s := modPort p (fun q => { q with ringFaults := q.ringFaults + 1 }) s
  let x := getRing s p r
  let s := if x.irqEn then sendMsg p x.vector (setPending p r s) else s
  event 0x2104 1 (p.val + r * 256) (leBytes 1 code ++ leBytes 4 x.acc.word) s

/-- Does a span of `d` bytes from the doorbell cover any byte of an outstanding entry (R130)? -/
def Ring.overruns (x : Ring) (d : Nat) : Bool :=
  x.out.any (fun e => decide ((e.pos.off + x.size - x.db.off % x.size) % x.size < d) ||
    decide ((x.db.off + x.size - e.pos.off % x.size) % x.size < e.len))

/-- The fault that a doorbell causes, 0 for none (R130). -/
def Ring.doorbellFault (x : Ring) (new : Pos) : Nat :=
  let d := Pos.distance x.size x.db new
  if new.off % 64 ≠ 0 ∨ x.size ≤ new.off ∨ x.size < d then 3 else if x.overruns d then 4 else 0

/-- Is granule `k` of the window pushed: every byte of it written (R134)? -/
def Ring.pushed (x : Ring) (k : Nat) : Bool := (List.range 64).all (fun i => (Tab.at? (64 * k + i) x.push).isSome)

/-- The bytes of a window granule. -/
def Ring.windowGranule (x : Ring) (k : Nat) : Bytes := (List.range 64).map (fun i => Tab.atD x.push (64 * k + i) 0)

/-- A doorbell of a running ring is recorded (R130, R134): the granules pushed contiguously from the start of the window
that lie in the new span stand for ring memory, and the window is cleared. -/
def Ring.record (x : Ring) (new : Pos) : Ring :=
  let d := Pos.distance x.size x.db new
  let run := ((List.range (min 4 (d / 64))).takeWhile x.pushed)
  { x with
    granules := run.foldl (fun g k =>
      Tab.put ((x.db.advance x.size (64 * k)).off / 64) ⟨x.windowGranule k, true⟩ g) x.granules
    db := new, push := [] }

/-- A doorbell write (R130). The rest of the span is fetched. -/
def ringDoorbell (p : PortId) (r : Nat) (new : Pos) (s : State) : State :=
  let x := getRing s p r
  if x.state = .none ∨ x.state = .resetting ∨ new = x.db then s
  else
    let f := x.doorbellFault new
    if x.state = .running then
      if f = 0 then pump p (modRing p r (fun x => x.record new) s)
      else ringFault p r f (modRing p r (fun x => { x with push := [] }) s)
    else if f = 0 then modRing p r (fun x => { x with db := new, push := [] }) s
    else s

/-! ### Acceptance (R120 to R124, R128, R132, R133) -/

/-- Outstanding commands of a ring: accepted command entries without a record (R132). -/
def Ring.commands (x : Ring) : List OutEntry := x.out.filter (fun e => !e.notice)

/-- OUTSTANDING of a port (R147). -/
def portOutstanding (s : State) (p : PortId) : Nat :=
  sumNat ((ringsOf s p).map (fun r => (getRing s p r).commands.length))

/-- The module's outstanding commands at most (R133). -/
def outstandingMax : Nat := 262144

/-- Do the labels of the drives still lack the epoch of an import or of a restart's report (R241)? -/
def epochPending (s : State) : Bool :=
  s.dur.importState == .committing || (s.pw.state == .start && s.dur.report.isSome && labelsPending s)

/-- May a port accept another command (R133, R241)? -/
def mayAccept (s : State) (p : PortId) : Bool :=
  !epochPending s && decide (portOutstanding s p < cfgOutstandingLimit s p.val) &&
  decide (portOutstanding s p < cfgOutstandingLimit s p.val) &&
    decide (sumNat (allPorts.map (portOutstanding s)) < outstandingMax)

/-- The tags of a port's outstanding commands. -/
def outstandingTags (s : State) (p : PortId) : List Nat :=
  ((ringsOf s p).map (fun r => (getRing s p r).commands.map (·.tag))).flatten

/-- TAG_NEXT: the counter skips zero and the tags of outstanding commands (R132). -/
def nextTag (s : State) (p : PortId) : Nat :=
  let used := outstandingTags s p
  (((List.range (used.length + 2)).map (fun i => ((s.ports.get p).tagNext + i) % 2 ^ 32)).find? (fun t =>
    t != 0 && !decide (t ∈ used))).getD 1

/-- The kinds of an entry (R122) and its length in bytes (R121). -/
def entryKind (e : Bytes) : Nat := bitsOf (e.getD 0 0).toNat 5 4
/-- See `entryKind`. -/
def entryLen (e : Bytes) : Nat := ((e.getD 1 0).toNat + 1) * 64

/-- What the engine finds at the position after the last accepted entry (R120, R124, R132). -/
inductive Found where
  /-- Nothing to accept yet: no doorbell, or not every byte has come. -/
  | nothing
  /-- P differs from the lap's phase. -/
  | phase
  /-- The frame is wrong: a fault with LENGTH. -/
  | length
  /-- A whole entry. -/
  | entry (e : Bytes) (pushed : Bool)
  deriving DecidableEq, Repr

/-- The check of the next entry. A LEN above 63 is no entry of R120 (log entry 32). -/
def Ring.find (x : Ring) : Found :=
  if x.state != .running || x.refetch == .due || x.acc == x.db then .nothing
  else
    match Tab.at? (x.acc.off / 64) x.granules with
    | none => .nothing
    | some g =>
      let k := entryKind g.bytes
      let n := entryLen g.bytes
      if bit (g.bytes.getD 0 0).toNat 0 != x.acc.lap then .phase
      else if k = 3 ∨ 4096 < n ∨ x.size < x.acc.off + n ∨ (k = 2 ∧ n < 128) then .length
      else
        let gs := (List.range (n / 64)).filterMap (fun i => Tab.at? (x.acc.off / 64 + i) x.granules)
        if Pos.distance x.size x.acc x.db < n ∨ gs.length < n / 64 then .nothing
        else .entry ((gs.map (·.bytes)).flatten) (gs.any (·.pushed))

/-- The command that an entry makes, accepted and not yet decoded (R132). -/
def newCmd (s : State) (p : PortId) (r tag : Nat) (e : Bytes) : Cmd :=
  { port := p, ring := r, tag := tag, entry := e, stage := .accepted, order := s.ce.nextOrder, accepted := s.clk.uptime,
    vol := 0, lo := 0, n := 0, data := [], todo := [], pages := [], waits := [], recovered := false, reserved := 0,
    upto := s.jr.last, vols := [] }

/-- An entry is accepted (R128, R132): a PAD completes at once, a notice slot waits, a command gets its TAG. What lies
behind it is not asked for any more (R131). -/
def takeEntry (p : PortId) (r : Nat) (e : Bytes) (pushed : Bool) (s : State) : State :=
  let x := getRing s p r
  let n := entryLen e
  let t := nextTag s p
  let c := newCmd s p r t e
  let o : OutEntry := { pos := x.acc, len := n, head := e.take 32, pushed := pushed, tag := 0, notice := entryKind e == 2 }
  let s := modRing p r (fun x => { x with
    acc := x.acc.advance x.size n
    refetch := .no
    fetchPos := if Pos.distance x.size (x.acc.advance x.size n) x.db < Pos.distance x.size x.fetchPos x.db then
        x.acc.advance x.size n else x.fetchPos
    granules := x.granules.filter (fun g => !(decide (x.acc.off / 64 ≤ g.1) && decide (g.1 < x.acc.off / 64 + n / 64))) }) s
  let s := modPort p (fun q => { q with lastServed := r }) s
  match entryKind e with
  | 1 => writeRecord p r o ⟨stSuccess, 0, 0⟩ s
  | 2 => modRing p r (fun x => { x with out := x.out ++ [o] }) s
  | _ =>
    let s := modPort p (fun q => { q with tagNext := (t + 1) % 2 ^ 32 }) s
    let s := modRing p r (fun x => { x with out := x.out ++ [{ o with tag := t }] }) s
    modCe (fun k => { k with cmds := k.cmds ++ [c], nextOrder := k.nextOrder + 1 }) s

/-- The engine turns to the next entry of a ring: it accepts it unless the port or the module is at its limit, asks for it
again, or the ring faults (R66, R124, R132, R133). -/
def acceptEntry (p : PortId) (r : Nat) (s : State) : State :=
  if !(s.ports.get p).maySend || !ringsRun s then s
  else
    match (getRing s p r).find with
    | .nothing => s
    | .phase =>
      if (getRing s p r).refetch = .again then ringFault p r 1 s
      else modRing p r (fun x => { x with refetch := .due }) s
    | .length => ringFault p r 2 s
    | .entry e pushed => if mayAccept s p then takeEntry p r e pushed s else s

/-- ENTRY_ACCEPT (R132). -/
def execEntryAccept (p : PortId) (r : Nat) (s : State) : Host.Outcome State Fault Refusal := finish (acceptEntry p r s)

/-- Has a ring a whole entry that waits? -/
def Ring.waits (x : Ring) : Bool :=
  match x.find with
  | .entry _ _ => true
  | _ => false

/-- The rings of a port from the one after the ring last served, in turn (R133). -/
def ringsInTurn (s : State) (p : PortId) : List Nat :=
  sortBy (fun r => (r + 255 - (s.ports.get p).lastServed % 256) % 256) (ringsOf s p)

/-- ACCEPT_RESUME (R133): acceptance goes on with the next ring in turn that has an entry waiting. -/
def execAcceptResume (p : PortId) (s : State) : Host.Outcome State Fault Refusal :=
  match (ringsInTurn s p).find? (fun r => (getRing s p r).waits) with
  | some r => finish (acceptEntry p r s)
  | none => finish s

/-- The fetches that a ring wants again are issued, as far as there are tags (R97, R124). -/
def issueRetries (p : PortId) (r : Nat) (s : State) : State :=
  let x := getRing s p r
  let todo := x.retry.zip (freeTags (s.ports.get p))
  let s := todo.foldl (fun s e => issueRead p e.2 (.ring r e.1.1) (x.base + e.1.1) e.1.2 s) s
  modRing p r (fun x => { x with retry := x.retry.drop todo.length }) s

/-- The bytes of the entry that is next, as its LEN gives them, within the doorbell and the ring (R121, R131). -/
def Ring.entrySpan (x : Ring) : Nat :=
  let n := ((Tab.at? (x.acc.off / 64) x.granules).map (fun g => entryLen g.bytes)).getD 64
  min n (min (Pos.distance x.size x.acc x.db) (x.size - x.acc.off))

/-- PHASE_REFETCH (R124): the entry at byte `entry` is fetched again, if it is the one that waits for it. When its bytes
have come, a phase that is still wrong faults the ring. -/
def execPhaseRefetch (p : PortId) (r entry : Nat) (s : State) : Host.Outcome State Fault Refusal :=
  let x := getRing s p r
  if x.refetch == .due && x.acc.off == entry && x.state == .running && (s.ports.get p).maySend then
    let n := x.entrySpan
    let parts := (splitTransfer (s.ports.get p).cfg.mrrs n (x.base + x.acc.off) n).map (fun e => (e.1 - x.base, e.2))
    finish (issueRetries p r (modRing p r (fun x => { x with
      refetch := .again, retry := x.retry ++ parts
      granules := x.granules.filter (fun g =>
        !(decide (x.acc.off / 64 ≤ g.1) && decide (g.1 < x.acc.off / 64 + n / 64))) }) s))
  else finish s

/-- RING_FETCH_RETRY (R97): the fetches that timed out are issued again. -/
def execRingFetchRetry (p : PortId) (r : Nat) (s : State) : Host.Outcome State Fault Refusal :=
  if (getRing s p r).state == .running && (s.ports.get p).maySend then finish (issueRetries p r s) else finish s

/-! ### Push windows (R134 to R136) -/

/-- The length of the whole entry that the window holds from its start, if it holds one (R136). -/
def Ring.windowEntry (x : Ring) : Option Nat :=
  if x.pushed 0 then
    let n := entryLen (x.windowGranule 0)
    if n ≤ 256 ∧ (List.range (n / 64)).all x.pushed = true then some n else none
  else none

/-- A write to the push window (R82, R134): naturally aligned, of up to 64 bytes. Under PUSH_RING an entry that is whole
is accepted at once, as though a doorbell had covered it (R136). -/
def pushWrite (p : PortId) (r off : Nat) (data : Bytes) (s : State) : State :=
  let x := getRing s p r
  let n := data.length
  if !isPow2 n || decide (64 < n) || off % n != 0 || decide (256 < off + n) || x.state == .none || x.state == .resetting
  then s
  else
    let s := modRing p r (fun x => { x with
      push := (List.range n).foldl (fun t i => Tab.put (off + i) (data.getD i 0) t) x.push }) s
    match x.pushRing, (getRing s p r).windowEntry with
    | true, some len => acceptEntry p r (ringDoorbell p r (x.db.advance x.size len) s)
    | _, _ => s

/-- May a host reach the BARs of a port: its link is up, the function is not in D3hot (R80)? -/
def barOpen (s : State) (p : PortId) : Bool := (s.ports.get p).link.up && !(s.ports.get p).cfg.d3hot

/-- PUSH_WRITE (R134, R136). -/
def execPushWrite (p : PortId) (r off : Nat) (data : Bytes) (s : State) : Host.Outcome State Fault Refusal :=
  if barOpen s p && decide (r < 256) then finish (pushWrite p r off data s) else finish s

/-- RING_DB (R129, R130). -/
def execRingDb (p : PortId) (r : Nat) (v : BitVec 32) (s : State) : Host.Outcome State Fault Refusal :=
  if barOpen s p && decide (r < 256) then finish (ringDoorbell p r (Pos.ofWord v.toNat) s) else finish s

/-! ### Creation and reset (R119, R142 to R146) -/

/-- RING_CMD is refused (R118). -/
def refuseRing (p : PortId) (r : Nat) : State → State := modRing p r (fun x => { x with cmdRefused := true })

/-- CREATE (R119); refused while the port may not send, MAINTENANCE among the reasons (log entry 166). -/
def ringCreate (p : PortId) (r : Nat) (s : State) : State :=
  let x := getRing s p r
  if x.state == .none && (s.ports.get p).maySend && decide (12 ≤ x.sizeLog2) && decide (x.sizeLog2 ≤ 24) &&
      x.base != 0 then
    modRing p r (fun x => { x with state := .running, cmdRefused := false, push := [], db := ⟨true, 0⟩, acc := ⟨true, 0⟩,
                                   fetchPos := ⟨true, 0⟩ }) s
  else refuseRing p r s

/-- The status that a reset writes for an entry: the snapshot's, else ABORTED (R143, R144). -/
def resetStatus (snap : List (Nat × CplRes)) (e : OutEntry) : CplRes :=
  match snap.find? (fun a => a.1 == e.tag && !e.notice) with
  | some a => a.2
  | none => ⟨stAborted, 0, 0⟩

/-- The records of a reset (R143 step 4). -/
def resetRecords (p : PortId) (r : Nat) (s : State) : State :=
  let x := getRing s p r
  x.out.foldl (fun s e =>
    let res := resetStatus (x.snapshot.getD []) e
    let s := modPort p (fun q => { q with failed := q.failed + b2n (!e.notice && decide (0x0100 ≤ res.status)) }) s
    putRecord p r e res s) s

/-- A ring reset (R142 to R146): 2 RESET, 3 RESET_DISCARD, 4 DELETE. Its six steps are one step of the model. -/
def ringReset (action : Nat) (p : PortId) (r : Nat) (s : State) : State :=
  let x := getRing s p r
  if (x.state == .running || x.state == .stopped || x.state == .faulted) && (s.ports.get p).maySend then
    let s := if x.state = .stopped then s
      else (s.ce.cmds.filter (fun c => c.port == p && c.ring == r)).foldl (fun s c => cancelCmd c s) s
    let s := modPort p (fun q => { q with
      ringResets := q.ringResets + 1
      reqs := q.reqs.map (fun e => match e.2.kind with
        | .ring t _ => if t = r then (e.1, { e.2 with dropped := true }) else e
        | _ => e) }) s
    let s := resetRecords p r s
    let s := if x.irqEn && !x.out.isEmpty then sendMsg p x.vector (setPending p r s) else s
    if action = 4 then setRing p r Ring.reset s
    else
      pump p (modRing p r (fun x => { x with
        state := .running, fault := 0, cmdRefused := false, push := [], coal := 0, granules := [], retry := []
        refetch := .no, timeouts := 0, snapshot := none, fetchPos := x.acc
        db := if action = 3 then x.acc else x.db }) s)
  else refuseRing p r s

/-- A write to RING_CMD (R117): other values than the four actions are ignored. -/
def ringCommand (p : PortId) (r action : Nat) (s : State) : State :=
  if action = 1 then ringCreate p r s
  else if 2 ≤ action ∧ action ≤ 4 then ringReset action p r s
  else s

/-- RING_CREATE (R119). -/
def execRingCreate (p : PortId) (r : Nat) (s : State) : Host.Outcome State Fault Refusal :=
  if barOpen s p && decide (r < 256) then finish (ringCreate p r s) else finish s

/-- RING_RESET (R142, R143). -/
def execRingReset (p : PortId) (r : Nat) (s : State) : Host.Outcome State Fault Refusal :=
  if barOpen s p && decide (r < 256) then finish (ringReset 2 p r s) else finish s

/-- RING_RESET_DISCARD (R142, R143). -/
def execRingResetDiscard (p : PortId) (r : Nat) (s : State) : Host.Outcome State Fault Refusal :=
  if barOpen s p && decide (r < 256) then finish (ringReset 3 p r s) else finish s

/-- RING_DELETE (R146). -/
def execRingDelete (p : PortId) (r : Nat) (s : State) : Host.Outcome State Fault Refusal :=
  if barOpen s p && decide (r < 256) then finish (ringReset 4 p r s) else finish s

/-! ### Notices (R140, R141, R161) -/

/-- The oldest waiting notice slot of a ring. -/
def Ring.noticeSlot (x : Ring) : Option OutEntry :=
  if x.notice && x.state == .running then x.out.find? (·.notice) else none

/-- The body of a delivered notice (R141). -/
def noticeBody (n : Notice) (lost room : Nat) : Bytes :=
  leBytes 2 n.code ++ leBytes 2 (packBits [n.sev == 2, decide (room < n.detail.length)]) ++ leBytes 4 lost ++
    leBytes 8 n.seq ++ leBytes 8 n.time ++ leBytes 8 n.subject ++ n.detail.take room

/-- NOTICE_DELIVER (R140, R141): the oldest notice goes into the oldest waiting slot of the lowest ring that takes
notices; a ring fault's notice never to the ring that faulted. Those behind a notice that finds no slot wait with it (log
entry 167). -/
def noticeDeliver (p : PortId) (s : State) : State :=
  let q := s.ports.get p
  match q.notices with
  | [] => s
  | n :: rest =>
    let takes (r : Nat) : Bool := !(n.code == 0x2104 && n.subject == p.val + r * 256)
    match (ringsOf s p).findSome? (fun r => if takes r then (getRing s p r).noticeSlot.map (fun e => (r, e)) else none) with
    | some (r, e) =>
      if q.maySend then
        let body := noticeBody n q.lost (e.len - 64)
        let s := modPort p (fun q => { q with
          notices := rest, lost := 0
          unacked := if n.sev = 2 ∧ q.unacked.all (fun u => u.seq != n.seq) = true then q.unacked ++ [n]
            else q.unacked }) s
        let s := sendTlp p (.record ((getRing s p r).base + e.pos.off + 32) body) s
        writeRecord p r e ⟨stSuccess, body.length, 0⟩ s
      else s
    | none => s

/-- NOTICE_DELIVER. -/
def execNoticeDeliver (p : PortId) (s : State) : Host.Outcome State Fault Refusal := finish (noticeDeliver p s)

/-- NOTICE_REPEAT_EXPIRY (R161): a notice that waits for its acknowledgement is queued again; NOTICE_REPEAT 0 turns this
off. -/
def execNoticeRepeatExpiry (p : PortId) (seq : Nat) (s : State) : Host.Outcome State Fault Refusal :=
  match (s.ports.get p).unacked.find? (fun n => n.seq == seq) with
  | some n => if cfgNoticeRepeat s = 0 then finish s else finish (modPort p (queueNotice n) s)
  | none => finish s

end Sys2Proof.Machine
end

