-- ==== Sys2Proof/Machine/Operands.lean ====
section
/-! DEFINITION. The operands of a command entry: opcode and flags, body fields, buffer descriptors, and the checks of
R163 in their order (05). -/

namespace Sys2Proof.Machine

/-! ### Fields (R121, R149 to R151, R156 to R160) -/

/-- OPCODE (R121). -/
def opcodeOf (e : Bytes) : Nat := (e.getD 2 0).toNat
/-- OPFLAGS.NO_ADMIT (R149). -/
def noAdmit (e : Bytes) : Bool := bit (e.getD 3 0).toNat 0
/-- OPFLAGS.FUA (R149). -/
def isFua (e : Bytes) : Bool := bit (e.getD 3 0).toNat 1
/-- OPFLAGS.FENCE (R149). -/
def isFence (e : Bytes) : Bool := bit (e.getD 3 0).toNat 7
/-- VOLUME (R150). -/
def volField (e : Bytes) : Nat := field e 16 4
/-- NBLK (R150). -/
def nblkField (e : Bytes) : Nat := field e 20 4
/-- LBA (R150, R157). -/
def lbaField (e : Bytes) : Nat := field e 24 8
/-- NDESC (R150, R159). -/
def ndescField (e : Bytes) : Nat := field e 32 2
/-- NBLK64 of DISCARD (R157). -/
def nblk64Field (e : Bytes) : Nat := field e 32 8
/-- NBYTES of ECHO (R158). -/
def nbytesField (e : Bytes) : Nat := field e 16 4

/-- Buffer descriptor `i`: ADDR and DLEN (R151). -/
def descAt (e : Bytes) (i : Nat) : Nat × Nat := (field e (48 + 16 * i) 8, field e (56 + 16 * i) 4)

/-- READ, WRITE and ATOMIC_WRITE (R150). -/
def isData (op : Nat) : Bool := op == 1 || op == 2 || op == 3

/-- The opcodes that R148 defines. -/
def opDefined (op : Nat) : Bool := isData op || op == 4 || op == 5 || op == 8 || op == 0x10 || op == 0x11

/-- VOLUME = 0xFFFF_FFFF of FLUSH: every volume the port may write (R156). -/
def flushAll (e : Bytes) : Bool := opcodeOf e == 4 && volField e == 0xFFFFFFFF

/-- The commands that name one volume (R148). -/
def hasVolume (e : Bytes) : Bool :=
  (isData (opcodeOf e) || opcodeOf e == 4 || opcodeOf e == 5 || opcodeOf e == 0x10) && !flushAll e

/-- The number of descriptors a command uses. -/
def descCount (e : Bytes) : Nat :=
  if isData (opcodeOf e) ∨ opcodeOf e = 0x10 then ndescField e
  else if opcodeOf e = 8 ∧ nbytesField e ≠ 0 then 2 else 0

/-- The descriptors of a command, in data order (R151). -/
def descs (e : Bytes) : List (Nat × Nat) := (List.range (descCount e)).map (descAt e)

/-- The blocks of a command: its first and their number (R150, R157). -/
def blocksOf (e : Bytes) : Nat × Nat := (lbaField e, if opcodeOf e = 5 then nblk64Field e else nblkField e)

/-- The length of a list of descriptors. -/
def descBytes (l : List (Nat × Nat)) : Nat := sumNat (l.map (·.2))

/-! ### Checks 1 to 12 (R163) -/

/-- Checks 1 to 4: bounds that hold for every volume. Each entry is whether it passes, and the status if not. -/
def formChecks (e : Bytes) : List (Bool × Nat) :=
  let op := opcodeOf e
  let ds := descs e
  [ (opDefined op, stInvalidOpcode),
    (decide (48 + 16 * descCount e ≤ e.length) || descCount e == 0, stTooShort),
    (!(isData op) || (decide (1 ≤ nblkField e) && decide (1 ≤ ndescField e) && decide (ndescField e ≤ 253)),
      stInvalidField),
    (op != 5 || decide (1 ≤ nblk64Field e), stInvalidField),
    (op != 0x10 || ndescField e == 1, stInvalidField),
    (ds.all (fun d => decide (1 ≤ d.2)), stInvalidField),
    (!(hasVolume e) || decide (volField e < 4096), stInvalidField),
    (!(isData op) || decide (nblkField e ≤ 32768), stTooLarge),
    (op != 8 || decide (nbytesField e ≤ 2 ^ 20), stTooLarge) ]

/-- Checks 5 to 12 against the volume, for the commands that name one (R163, R164). A key without lanes to use it counts
as not loaded (log entry 33). -/
def volumeChecks (s : State) (p : PortId) (e : Bytes) (vol : Volume) : List (Bool × Nat) :=
  let op := opcodeOf e
  let v := volField e
  let b := blocksOf e
  let flush := op == 4
  let query := op == 0x10
  [ (mayRead s p v, stAccessDenied),
    (mayWrite s p v || !(op == 2 || op == 3 || op == 4 || op == 5), stReadOnly),
    (!(isData op) || decide (b.2 * vol.bs ≤ 2 ^ 24), stTooLarge),
    (flush || query || decide (b.1 + b.2 ≤ vol.capacity), stRangeInvalid),
    (op != 3 || (decide (b.2 * vol.bs ≤ 2 ^ 21) &&
      b.1 / max 1 vol.extentBlocks == (b.1 + b.2 - 1) / max 1 vol.extentBlocks), stAtomicBoundary),
    (!(isData op) || descBytes (descs e) == b.2 * vol.bs, stLengthMismatch),
    (!query || decide (64 ≤ descBytes (descs e)), stLengthMismatch),
    (query || (vol.state != .recovering && s.pw.state != .start), stBusy),
    (query || flush || vol.state != .offline, stOffline),
    (query || cipherReady s v vol, stKeyUnavailable) ]

/-- Check 9 of ECHO: both buffers hold NBYTES (R158, R163). -/
def echoChecks (e : Bytes) : List (Bool × Nat) :=
  [ (opcodeOf e != 8 || (descs e).all (fun d => decide (nbytesField e ≤ d.2)), stLengthMismatch) ]

/-- The status of the first check that fails. -/
def firstFail (l : List (Bool × Nat)) : Option Nat := (l.find? (fun c => !c.1)).map (·.2)

/-- Checks 1 to 12 in order (R163); a volume that does not exist fails as one without access does (R164). -/
def checkCmd (s : State) (p : PortId) (e : Bytes) : Option Nat :=
  match firstFail (formChecks e) with
  | some st => some st
  | none =>
    if hasVolume e then
      match getVol s (volField e) with
      | some vol => firstFail (volumeChecks s p e vol)
      | none => some stAccessDenied
    else firstFail (echoChecks e)

/-! ### Check 13 (R165, R266, R268, R277, R414) -/

/-- The 4 KiB pages of a volume that a range of blocks touches. -/
def pagesTouched (vol : Volume) (lba n : Nat) : List Nat :=
  if n = 0 then []
  else (List.range ((lba + n - 1) / vol.pageBlocks - lba / vol.pageBlocks + 1)).map (fun i => lba / vol.pageBlocks + i)

/-- The pages of a write that a log may have to take: not those of an extent in NONE, nor those of a face at or beyond
FILL (R414). -/
def logBound (s : State) (v : Nat) (vol : Volume) (page : Nat) : Bool :=
  let x := page / max 1 vol.extentPages
  let e := getExt s v x
  !(e.state == .none || (e.state == .face && decide (extFill s v x ≤ pageBench vol.k (page % max 1 vol.extentPages))))

/-- The map pages that a write would have to create, by extent and place in its directory. -/
def newMapPages (s : State) (v : Nat) (vol : Volume) (pages : List Nat) : List (Nat × Nat) :=
  dedup ((pages.filter (fun g => logBound s v vol g &&
    (mapPageOf s v (g / max 1 vol.extentPages) (g % max 1 vol.extentPages)).isNone)).map (fun g =>
      (g / max 1 vol.extentPages, g % max 1 vol.extentPages / 8192)))

/-- Is the store block of the next map page to be created unmapped (R414)? -/
def nextBlockUnmapped (s : State) : Bool :=
  let n := (Tab.firstFree s.tabs.mapPages 0 (s.tabs.mapPages.length + 1)).getD 0
  (Tab.at? (n / 512) s.vault.blocks).isNone && !(s.vault.logPages.any (fun e => e.1 / 512 == n / 512))

/-- Is there page-map space for a write (R277, R414)? -/
def metadataRoom (s : State) (v : Nat) (vol : Volume) (pages : List Nat) : Bool :=
  let new := newMapPages s v vol pages
  let full := vaultFull s
  decide (s.tabs.mapPages.length + new.length ≤ mapPagesMax s) &&
    !(full && !new.isEmpty && nextBlockUnmapped s) &&
    !(full && decide (cfgFacesMax s ≤ (openFaces s).length) &&
      pages.any (fun g => (getExt s v (g / max 1 vol.extentPages)).state == .none))

/-- Check 13 and its reservation, one step (R165, R268): the status of a refusal, or none and the bytes reserved. -/
def checkSpace (s : State) (v : Nat) (vol : Volume) (lba n : Nat) : Option Nat × Nat :=
  let pages := pagesTouched vol lba n
  let r := reservationOf vol.k vol.m pages.length
  if availableBytes s < s.qm.reserved + r + reserveBytes s then (some stCapacity, 0)
  else if metadataRoom s v vol pages then (none, r) else (some stMetadata, 0)

/-! ### Transfers (R151) -/

/-- Where the buffers of a command lie along its transfer: offset, address, length. -/
def placed : Nat → List (Nat × Nat) → List (Nat × Nat × Nat)
  | _, [] => []
  | off, d :: t => (off, d.1, d.2) :: placed (off + d.2) t

/-- The reads of host memory that bring a transfer, split by Max_Read_Request_Size (R151). -/
def readParts (mrrs : Nat) (l : List (Nat × Nat)) : List (Nat × Nat × Nat) :=
  ((placed 0 l).map (fun d => (splitTransfer mrrs d.2.2 d.2.1 d.2.2).map (fun e => (d.1 + (e.1 - d.2.1), e.1, e.2)))).flatten

/-- A transfer goes to the host's buffers in descriptor order (R151). -/
def writeBuffers (p : PortId) (l : List (Nat × Nat)) (b : Bytes) (s : State) : State :=
  (placed 0 l).foldl (fun s d => if d.1 < b.length then writeHost p d.2.1 (slice b d.1 (min d.2.2 (b.length - d.1))) s else s) s

end Sys2Proof.Machine
end

