-- ==== Sys2Proof/Machine/Commands.lean ====
section
/-! DEFINITION. The Command Engine (05): decode, locks, reads, writes with their commit, FLUSH, DISCARD, ECHO,
VOLUME_QUERY and NOTICE_ACK. -/

namespace Sys2Proof.Machine

/-! ### Reads (R153, R206, R299, R304, R367, R368) -/

/-- Where blocks of a page are found (R206). -/
inductive Place where
  | bytes (b : Bytes)
  | sett (group bench pos unit : Nat)
  deriving DecidableEq, Repr

/-- The places of a page in the order of R206, each with the blocks that it holds. -/
def pageLayers (s : State) (v : Nat) (vol : Volume) (page : Nat) : List (Nat × Place) :=
  let x := page / max 1 vol.extentPages
  let q := page % max 1 vol.extentPages
  let cache := match findSlot s v page with
    | some (_, y) => [(if vol.emul then y.bmask else fullMask, Place.bytes y.data)]
    | none => []
  let log := match pmEntry s v x q with
    | some e => match getLog s e.logIx with
      | some l => [(if vol.emul then e.bmask else fullMask,
          Place.sett l.group (e.slot / (32 * vol.k)) (e.slot % (32 * vol.k) / 32) (e.slot % 32))]
      | none => []
    | none => []
  let e := getExt s v x
  let group := match e.group with
    | some g =>
      if e.state != .none && decide (pageBench vol.k q < extFill s v x) then
        [(fullMask, Place.sett g (pageBench vol.k q) (pageSett vol.k q) (q % settPages))]
      else []
    | none => []
  cache ++ log ++ group

/-- The read-cache key of a place: the chunk of its member, and its 4 KiB page in the chunk (R367). -/
def placeKey (s : State) (g b pos unit : Nat) : Option (Nat × Nat) :=
  (getGroup s g).bind (fun grp => (grp.chunk? (settMember grp.size b pos)).map (fun c => (c, b * settPages + unit)))

/-- The blocks of a page that a range asks for. -/
def askedMask (vol : Volume) (lba n page : Nat) : Nat :=
  if vol.emul then packBits ((List.range 8).map (fun j =>
    decide (lba ≤ page * 8 + j) && decide (page * 8 + j < lba + n))) else fullMask

/-- What a read has of a page: its bytes so far, the parts that drives owe, and the read-cache pages it hit. -/
structure Gathered where
  buf : Bytes
  parts : List ReadPart
  hits : List (Nat × Nat)
  deriving DecidableEq, Repr

/-- A page is put together from its places (R206): each block from the first that holds it, zeros where none does. -/
def gatherPage (s : State) (page mask : Nat) (layers : List (Nat × Place)) : Gathered :=
  (layers.foldl (fun (a : Gathered × Nat) l =>
    let take := a.2 &&& l.1
    if take = 0 then a
    else
      let left := a.2 ^^^ take
      match l.2 with
      | .bytes b => ({ a.1 with buf := mergeBlocks take b a.1.buf }, left)
      | .sett g b pos u =>
        match placeKey s g b pos u with
        | some (c, cp) =>
          match findRc s c cp with
          | some e => ({ a.1 with buf := mergeBlocks take e.data a.1.buf, hits := a.1.hits ++ [(c, cp)] }, left)
          | none => ({ a.1 with parts := a.1.parts ++ [⟨page, take, g, b, pos, u⟩] }, left)
        | none => ({ a.1 with parts := a.1.parts ++ [⟨page, take, g, b, pos, u⟩] }, left))
    (⟨zeros 4096, [], []⟩, mask)).1

/-- The tally key of the bench of a page (R288). -/
def pageTally (v : Nat) (vol : Volume) (page : Nat) : Nat :=
  let q := page % max 1 vol.extentPages
  tallyKey v (page / max 1 vol.extentPages) (pageBench vol.k q)

/-- The bytes of a read's range, from its pages. -/
def readBytes (vol : Volume) (c : Cmd) : Bytes :=
  let all := (c.pages.map (·.2)).flatten
  slice all ((c.lo % vol.pageBlocks) * vol.bs) (c.n * vol.bs)

/-- A read that has every block: its data goes to the host, then its record (R93, R153, R162). -/
def finishRead (p : PortId) (tag : Nat) (s : State) : State :=
  match findCmd s p tag with
  | none => s
  | some c =>
    match getVol s c.vol with
    | none => s
    | some vol =>
      let s := writeBuffers p (descs c.entry) (readBytes vol c) s
      completeCmd p tag ⟨if c.recovered then stRecovered else stSuccess, c.n, 0⟩ s

/-- A READ whose data cannot be given: its volume is below k members there, or the data is unrecoverable (R153, R247,
R300; log entry 34). -/
def failRead (p : PortId) (tag g : Nat) (s : State) : State :=
  let off := match getGroup s g with
    | some grp => decide (reachCount s grp < grp.k)
    | none => false
  if off then failCmd p tag stOffline s
  else
    let s := modCooper (fun c => { c with unrecoverable := c.unrecoverable + 1 }) s
    failCmd p tag stUnrecoverable s

/-- A read with its lock held gathers its pages (R179, R206): it fails when its volume is OFFLINE by then (R247), waits
while a page map is not resident, ends at once when the caches or zeros give every block, fails at a poisoned bench, and
asks the Assayer for the rest. -/
def startRead (p : PortId) (tag : Nat) (s : State) : State :=
  match findCmd s p tag with
  | none => s
  | some c =>
    match getVol s c.vol with
    | none => s
    | some vol =>
      let v := c.vol
      let pages := pagesTouched vol c.lo c.n
      let ready := pages.all (fun g => mapReady s v (g / max 1 vol.extentPages) (g % max 1 vol.extentPages))
      if vol.state == .offline then failCmd p tag stOffline s
      else if !ready then modCmd p tag (fun c => { c with stage := .lookup }) s
      else
        let s := (dedup (pages.map (pageTally v vol))).foldl (fun s k => countTally k s) (lookUp v vol pages s)
        let got := pages.map (fun g => (g, gatherPage s g (askedMask vol c.lo c.n g) (pageLayers s v vol g)))
        let parts := (got.map (fun g => g.2.parts)).flatten
        let s := got.foldl (fun s g =>
          let s := match findSlot s v g.1 with
            | some (i, _) => modSlot i (fun x => { x with used := true }) s
            | none => s
          let s := g.2.hits.foldl (fun s h => hitRc h.1 h.2 (tallyClass s (pageTally v vol g.1)) s) s
          modCache (fun k => { k with rcMisses := k.rcMisses + b2n (!g.2.parts.isEmpty) }) s) s
        let s := modCmd p tag (fun c => { c with
          stage := .reading, pages := got.foldl (fun t g => Tab.put g.1 g.2.buf t) [], waits := parts }) s
        match parts.find? (fun q => poisoned s q.group q.bench) with
        | some q => failRead p tag q.group s
        | none =>
          if parts.isEmpty then finishRead p tag s
          else
            (dedup (parts.map (fun q => (q.group, q.bench)))).foldl (fun s gb =>
              let mine := parts.filter (fun q => q.group == gb.1 && q.bench == gb.2)
              let log := ((getGroup s gb.1).map (fun g => g.state == .log)).getD false
              requestBench (.host p.val tag) (.host p.val vol.cls) gb.1 gb.2 (bit vol.vcflags 1 && !log)
                (dedup (mine.map (·.pos))) (4096 * mine.length) s) s

/-- A bench that the Assayer finds good for some positions goes to the reads that wait for it (R302), and its pages are
offered to the read cache (R368). `decoded` are the positions that a pass gave, `sure` those that are
verified. -/
def deliverParts (g b : Nat) (data : Tab Bytes) (decoded sure : List Nat) (c : Cmd) (s : State) : State :=
  let mine := c.waits.filter (fun q => q.group == g && q.bench == b && (Tab.at? q.pos data).isSome)
  if mine.isEmpty then s
  else
    let s := modCmd c.port c.tag (fun c => { c with
      pages := mine.foldl (fun t q =>
        Tab.mod t q.page (fun old => mergeBlocks q.mask (slice (Tab.atD data q.pos []) (4096 * q.unit) 4096) old)) c.pages
      waits := c.waits.filter (fun q => !decide (q ∈ mine))
      recovered := c.recovered || mine.any (fun q => decide (q.pos ∈ decoded)) }) s
    let s := match getVol s c.vol with
      | some vol =>
        if !noAdmit c.entry then
          (mine.filter (fun q => decide (q.pos ∈ sure))).foldl (fun s q => match placeKey s g b q.pos q.unit with
            | some (ch, cp) =>
              admitRc ch cp (tallyClass s (pageTally c.vol vol q.page)) (slice (Tab.atD data q.pos []) (4096 * q.unit) 4096) s
            | none => s) s
        else s
      | none => s
    match findCmd s c.port c.tag with
    | some d => if d.waits.isEmpty && d.stage == .reading then finishRead c.port c.tag s else s
    | none => s

/-- The commands that wait for a bench. -/
def waitersOf (s : State) (g b : Nat) : List Cmd :=
  s.ce.cmds.filter (fun c => c.stage == .reading && c.waits.any (fun q => q.group == g && q.bench == b))

/-! ### Writes (R154, R180, R201, R221, R362, R363) -/

/-- The bytes of a command's transfer that have arrived, in order. -/
def transferBytes (c : Cmd) : Bytes := (c.data.map (·.2)).flatten

/-- Does the cache run write-back (R365)? -/
def writeBack (s : State) : Bool := s.cache.mode == 1

/-- The content a write gives to a page: its blocks, with the mask of those it carries. -/
def pageOf (vol : Volume) (c : Cmd) (page : Nat) : Nat × Bytes :=
  let t := transferBytes c
  let inside (j : Nat) : Bool := decide (c.lo ≤ page * vol.pageBlocks + j) && decide (page * vol.pageBlocks + j < c.lo + c.n)
  let blocks := (List.range vol.pageBlocks).map (fun j =>
    if inside j then slice t ((page * vol.pageBlocks + j - c.lo) * vol.bs) vol.bs else zeros vol.bs)
  (if vol.emul then packBits ((List.range 8).map inside) else fullMask, blocks.flatten)

/-- A page with the blocks that it lacks taken from an older copy (R201, R363). -/
def unite (new old : Nat × Bytes) : Nat × Bytes := (new.1 ||| old.1, mergeBlocks new.1 new.2 old.2)

/-- Have all bytes of a write arrived? -/
def dataWhole (vol : Volume) (c : Cmd) : Bool :=
  c.todo.isEmpty && sumNat (c.data.map (fun d => d.2.length)) == c.n * vol.bs

/-- CACHE_REF (R361): the first slot of the command and its page count. -/
def cacheRef (slots : List (Nat × Slot)) : Nat := ((slots.head?.map (·.1)).getD 0) % 2 ^ 24 + slots.length * 2 ^ 32

/-- The WRITE_COMMIT record of a write (R224). -/
def commitRecord (c : Cmd) (slots : List (Nat × Slot)) : JBody :=
  .writeCommit c.vol c.port.val (packBits [opcodeOf c.entry == 3, isFua c.entry]) c.n c.lo c.tag (cacheRef slots)

/-- The slots of a command in page order, each with the slot after it (R361 WLINK). -/
def linked (l : List (Nat × Slot)) : List ((Nat × Slot) × Option Nat) := l.zip ((l.drop 1).map (fun e => some e.1) ++ [none])

/-- The oldest commit whose blocks a page holds that no drive holds, once a commit writes the blocks of a mask over it
(R156). -/
def oldestOf (s : State) (vol : Volume) (v page mask seq : Nat) : Nat :=
  match findSlot s v page with
  | some (_, y) => if vol.emul && y.state != WState.clean && y.bmask ||| mask != mask then min y.first seq else seq
  | none => seq

/-- The commit of a write-back write (R154, R180, R363): the record enters the journal, the slots become DIRTY and
supersede older copies, the lock is released, the command completes with the record's sequence. -/
def commitWrite (p : PortId) (tag : Nat) (c : Cmd) (vol : Volume) (s : State) : State :=
  let slots := slotsOf s p tag
  let s := journal (commitRecord c slots) s
  let seq := s.jr.last
  let s := (linked slots).foldl (fun s e =>
    let page := e.1.2.page
    let new := pageOf vol c page
    let full := match findSlot s c.vol page with
      | some (_, y) => if vol.emul && y.state != WState.clean then unite new (y.bmask, y.data) else new
      | none => new
    modSlot e.1.1 (fun x => { x with
      state := WState.dirty, bmask := full.1, data := full.2, atomic := opcodeOf c.entry == 3, link := e.2, jseq := seq
      first := oldestOf s vol c.vol page new.1 seq, since := s.clk.uptime, used := true }) (supersede c.vol page s)) s
  let s := expose vol (slots.map (fun e => e.2.page)) (retireRing s)
  completeCmd p tag ⟨stSuccess, 0, seq⟩ (modCe (fun k => { k with commits := k.commits + 1 }) s)

/-- Is an earlier staged copy of one of a write's pages still there (R201)? -/
def stageBlocked (s : State) (c : Cmd) : Bool :=
  (slotsOf s c.port c.tag).any (fun e => s.cache.slots.any (fun y =>
    y.2.state == WState.staged && y.2.volume == c.vol && y.2.page == e.2.page && !(y.2.port == c.port && y.2.tag == c.tag)))

/-- A write under write-through or FUA is staged for the drives (R154, R201): its slots hold the union that the drives
will carry. -/
def stageWrite (p : PortId) (tag : Nat) (c : Cmd) (vol : Volume) (s : State) : State :=
  let s := (linked (slotsOf s p tag)).foldl (fun s e =>
    let page := e.1.2.page
    let new := pageOf vol c page
    let full := match findUnion s c.vol page p.val tag with
      | some (_, y) => if vol.emul then unite new (y.bmask, y.data) else new
      | none => new
    modSlot e.1.1 (fun x => { x with
      state := .staged, bmask := full.1, data := full.2, atomic := opcodeOf c.entry == 3, link := e.2, jseq := 0
      since := s.clk.uptime }) s) s
  modCmd p tag (fun c => { c with stage := .staged }) s

/-- A write whose last byte has come commits, unless the journal ring is full (R222), or is staged; staging waits for
earlier staged copies (R154, R201). -/
def writeEnd (p : PortId) (tag : Nat) (s : State) : State :=
  match findCmd s p tag with
  | none => s
  | some c =>
    match getVol s c.vol with
    | none => s
    | some vol =>
      if c.stage == .fetching && isData (opcodeOf c.entry) && dataWhole vol c then
        if writeBack s && !isFua c.entry then (if ringFull s then s else commitWrite p tag c vol s)
        else if stageBlocked s c then s
        else stageWrite p tag c vol s
      else s

/-- Every write that waited for a staged copy that is gone, or for room in the journal ring, goes on (R201, R222). -/
def stageWaiting (s : State) : State := s.ce.cmds.foldl (fun s c => writeEnd c.port c.tag s) s

/-- Do the drives, and a healthy vault first, hold every map record up to a sequence, in segments that count as written
(R221, R237)? -/
def recordsOnDrives (s : State) (seq : Nat) : Bool :=
  (drivePending s).all (fun r => decide (seq < r.seq)) &&
    (s.vault.failed || (unjournalled s).all (fun r => decide (seq < r.seq)))

/-- The content of a staged page of a 512-byte volume when other blocks of the page were committed while its copy went to
the drives: its own blocks, then the newer ones, then those it was staged with (R363). -/
def overtaken (s : State) (c : Cmd) (vol : Volume) (x : Slot) : Option (Nat × Bytes) :=
  match findSlot s c.vol x.page with
  | some (_, y) =>
    let full := unite (pageOf vol c x.page) (unite (y.bmask, y.data) (x.bmask, x.data))
    if vol.emul && y.state != WState.clean && decide (full ≠ (x.bmask, x.data)) then some full else none
  | none => none

/-- A slot of a staged write commits: it is CLEAN at once, or DIRTY when it takes newer blocks that no drive holds
(R221, R363). The log copy that its page-map entry replaced dies (R207). -/
def commitSlot (c : Cmd) (vol : Volume) (seq : Nat) (e : Nat × Slot) (s : State) : State :=
  let s := match e.2.undo with
    | some (some o) => killLogPage o s
    | _ => s
  match overtaken s c vol e.2 with
  | some full =>
    let s := modSlot e.1 (fun x => { x with
      state := .dirty, bmask := full.1, data := full.2, jseq := seq, used := true, undo := none
      first := oldestOf s vol c.vol e.2.page 0 seq }) (supersede c.vol e.2.page s)
    expose vol [e.2.page] s
  | none =>
    let s := supersede c.vol e.2.page s
    let s := modQm (fun q => { q with reserved := q.reserved - e.2.reserved }) s
    let s := modSlot e.1 (fun x => { x with state := .clean, jseq := seq, reserved := 0, used := true, undo := none }) s
    let s := modCache (fun k => { k with destaged := k.destaged + 4096 }) s
    journal (.clean c.vol vol.pageBlocks (e.2.page * vol.pageBlocks) seq) s

/-- The commit of a staged write (R154, R221): its data and map records are on the drives. -/
def commitStaged (p : PortId) (tag : Nat) (c : Cmd) (vol : Volume) (s : State) : State :=
  let slots := slotsOf s p tag
  let s := journal (commitRecord c slots) s
  let seq := s.jr.last
  let s := slots.foldl (fun s e => commitSlot c vol seq e s) s
  let s := pinSync (freeLogs (retireRing s))
  completeCmd p tag ⟨stSuccess, 0, seq⟩ (modCe (fun k => { k with commits := k.commits + 1 }) s)

/-- WRITE_THROUGH_COMMIT (R154, R221): every page of a staged write is named by a map record that the drives hold. -/
def execWriteThroughCommit (p : PortId) (tag : Nat) (s : State) : Host.Outcome State Fault Refusal :=
  match findCmd s p tag with
  | none => finish s
  | some c =>
    match getVol s c.vol with
    | none => finish s
    | some vol =>
      if c.stage == .staged && !ringFull s &&
          (slotsOf s p tag).all (fun e => e.2.jseq != 0 && recordsOnDrives s e.2.jseq) then
        finish (stageWaiting (commitStaged p tag c vol s))
      else finish (writeEnd p tag s)

/-- BENCH_ON_MEDIA (R208, R209): the drives have reported every sett of a bench in flight on media; it becomes visible
with every bench that shares an atomic unit with it, once no earlier bench of its group is in flight. That of a merge
target stays invisible until MERGE_DONE. Commits that waited for room in the journal ring go on (R222). -/
def execBenchOnMedia (g b : Nat) (s : State) : Host.Outcome State Fault Refusal :=
  match s.etu.inflight.find? (fun f => f.group == g && f.bench == b) with
  | some f =>
    if (dataRuns s || s.pw.state == .dump) && benchWritten s g b then
      if f.kind = .target then finish (targetDone f s)
      else finish (stageWaiting (publishReady s.etu.inflight.length (modEtu (fun e => { e with
        inflight := e.inflight.map (fun q => if q = f then { q with onMedia := true } else q) }) s)))
    else finish s
  | none => finish s

/-- Are there slots for all pages of a write: under the dirty limit, FREE or CLEAN (R362, R364)? -/
def slotsFor (s : State) (n : Nat) : Bool :=
  decide (n ≤ slotRoom s) &&
    decide (s.cache.slots.length + n ≤ slotCount s + (s.cache.slots.filter (fun e => e.2.state == .clean)).length)

/-- A write with its lock held reserves its slots and issues its data reads, or waits (R362, R464). -/
def takeSlots (p : PortId) (tag : Nat) (s : State) : State :=
  match findCmd s p tag with
  | none => s
  | some c =>
    match getVol s c.vol with
    | none => s
    | some vol =>
      let pages := pagesTouched vol c.lo c.n
      if slotsFor s pages.length && !keySpent s vol then
        let each := c.reserved / max 1 pages.length
        let s := (pages.zip (List.range pages.length)).foldl (fun s e =>
          reserveSlot c.vol e.1 p tag (if e.2 = 0 then c.reserved - each * (pages.length - 1) else each) s) s
        pump p (modCmd p tag (fun c => { c with
          stage := .fetching, reserved := 0, todo := readParts (s.ports.get p).cfg.mrrs (descs c.entry) }) s)
      else if c.stage == .slots then s
      else
        modCmd p tag (fun c => { c with stage := .slots }) (modCache (fun k => { k with stalls := k.stalls + 1 }) s)

/-- SLOT_RESERVE (R362): a write that waits for slots gets them all. -/
def execSlotReserve (p : PortId) (tag : Nat) (s : State) : Host.Outcome State Fault Refusal :=
  match findCmd s p tag with
  | some c => if c.stage == .slots && (s.ports.get p).maySend then finish (takeSlots p tag s) else finish s
  | none => finish s

/-! ### Decode (R149, R163, R168, R169, R172) -/

/-- Does FENCE hold a command back: a command entry of its ring accepted before it has no record (R149)? -/
def fenced (s : State) (c : Cmd) : Bool :=
  isFence c.entry && (((getRing s c.port c.ring).out.takeWhile (fun o => o.notice || o.tag != c.tag)).any (fun o => !o.notice))

/-- Is a command of a ring accepted before this one and still to be decoded, though no FENCE holds it (R177)? -/
def decodeBehind (s : State) (c : Cmd) : Bool :=
  s.ce.cmds.any (fun d => d.port == c.port && d.ring == c.ring && decide (d.order < c.order) && d.stage == .accepted &&
    !fenced s d)

/-- May the Command Engine decode a command now (R66, R149, R177)? -/
def mayDecode (s : State) (c : Cmd) : Bool :=
  c.stage == .accepted && !fenced s c && !decodeBehind s c && ringsRun s && (s.ports.get c.port).maySend

/-- The lock-taking commands (R148). -/
def takesLock (e : Bytes) : Bool := isData (opcodeOf e) || opcodeOf e == 5

/-- The lock a command asks for (R169). -/
def lockOf (c : Cmd) : Lock :=
  let b := blocksOf c.entry
  { port := c.port, tag := c.tag, vol := volField c.entry, lo := b.1, len := b.2, exclusive := opcodeOf c.entry != 1
    held := false }

/-- A refusal for want of space: it is counted, and recorded when refusals begin (R268). -/
def refuseSpace (st : Nat) (s : State) : State :=
  if st = stCapacity then
    let first := !s.ce.refusals
    let s := modCe (fun k => { k with refusals := true }) (modQm (fun q => { q with refusals := q.refusals + 1 }) s)
    if first then event 0x3202 2 0 [1] s else s
  else s

/-- A write that passes check 13 ends a spell of refusals (R268). -/
def passSpace (s : State) : State :=
  if s.ce.refusals then event 0x3202 0 0 [0] (modCe (fun k => { k with refusals := false }) s) else s

/-- A DISCARD with its lock held: it waits while the maps that its partial part needs are not resident (R274), then its
record is made and it completes (R157, R219). -/
def runDiscard (p : PortId) (tag : Nat) (c : Cmd) (s : State) : State :=
  match getVol s c.vol with
  | none => completeCmd p tag ⟨stSuccess, 0, 0⟩ s
  | some vol =>
    if (discardMissing s c.vol vol c.lo c.n).isEmpty then
      let s := lookUp c.vol vol [c.lo / vol.pageBlocks, (c.lo + c.n - 1) / vol.pageBlocks] s
      completeCmd p tag ⟨stSuccess, 0, 0⟩ (discardRange c.vol c.lo c.n s)
    else modCmd p tag (fun c => { c with stage := .lookup }) s

/-- A command with its lock held goes on: a read gathers, a write takes slots, a discard records its hint (R157, R170,
R179, R219, R362). -/
def proceed (p : PortId) (tag : Nat) (s : State) : State :=
  match findCmd s p tag with
  | none => s
  | some c =>
    match opcodeOf c.entry with
    | 1 => startRead p tag s
    | 5 => runDiscard p tag c s
    | _ => takeSlots p tag s

/-- A lock-taking command that passed its checks requests its lock (R169). -/
def lockAndGo (c : Cmd) (s : State) : State :=
  let l := lockOf c
  let s := modCmd c.port c.tag (fun c => { c with vol := l.vol, lo := l.lo, n := l.len, stage := .stalled }) s
  let s := takeLock l s
  if s.ce.locks.any (fun k => k.port == c.port && k.tag == c.tag && k.held) then proceed c.port c.tag s else s

/-- Checks 1 to 12 of a command; the first that fails ends it (R163). -/
def checked (c : Cmd) (go : State → State) (s : State) : State :=
  let s := modPort c.port (fun q => { q with decoded := q.decoded + 1 }) s
  match checkCmd s c.port c.entry with
  | some st => failCmd c.port c.tag st s
  | none => go s

/-- Decode of a lock-taking command waits while the lock table is full (R172). -/
def decodeLocking (c : Cmd) (go : State → State) (s : State) : State :=
  if lockMax ≤ s.ce.locks.length then
    modCe (fun k => { k with decodeWaits := true, lockTableFull := k.lockTableFull + b2n (!k.decodeWaits) }) s
  else if s.ce.decodeWaits then s
  else checked c go s

/-- Check 13 of a write, with its reservation, then its lock (R163, R165, R268). -/
def spaceThenLock (c : Cmd) (s : State) : State :=
  match getVol s (volField c.entry) with
  | none => s
  | some vol =>
    match checkSpace s (volField c.entry) vol (blocksOf c.entry).1 (blocksOf c.entry).2 with
    | (some st, _) => failCmd c.port c.tag st (refuseSpace st s)
    | (none, r) =>
      let s := passSpace (modQm (fun q => { q with reserved := q.reserved + r }) s)
      lockAndGo { c with reserved := r } (modCmd c.port c.tag (fun c => { c with reserved := r }) s)

/-- Decode of a command of an opcode, by what the opcode does after its checks. -/
def decodeAs (op : Nat) (p : PortId) (tag : Nat) (go : Cmd → State → State) (s : State) : State :=
  match findCmd s p tag with
  | some c =>
    if mayDecode s c && opcodeOf c.entry == op then
      if takesLock c.entry then decodeLocking c (go c) s else checked c (go c) s
    else s
  | none => s

/-- READ (R153). -/
def execRead (p : PortId) (tag : Nat) (s : State) : Host.Outcome State Fault Refusal :=
  finish (decodeAs 1 p tag lockAndGo s)

/-- WRITE (R154). -/
def execWrite (p : PortId) (tag : Nat) (s : State) : Host.Outcome State Fault Refusal :=
  finish (decodeAs 2 p tag spaceThenLock s)

/-- ATOMIC_WRITE (R152, R174). -/
def execAtomicWrite (p : PortId) (tag : Nat) (s : State) : Host.Outcome State Fault Refusal :=
  finish (decodeAs 3 p tag spaceThenLock s)

/-- DISCARD (R157, R216). -/
def execDiscard (p : PortId) (tag : Nat) (s : State) : Host.Outcome State Fault Refusal :=
  finish (decodeAs 5 p tag lockAndGo s)

/-- LOCK_GRANT (R169): a stalled command gets its lock once no earlier one conflicts. -/
def execLockGrant (p : PortId) (tag : Nat) (s : State) : Host.Outcome State Fault Refusal :=
  if mayGrant [] s.ce.locks p tag && (s.ports.get p).maySend then
    finish (proceed p tag (modCe (fun k => { k with locks := k.locks.map (fun l =>
      if l.port = p ∧ l.tag = tag then { l with held := true } else l) }) s))
  else finish s

/-- LOCK_TABLE_FREE (R172). -/
def execLockTableFree (s : State) : Host.Outcome State Fault Refusal :=
  if s.ce.locks.length < lockMax then finish (modCe (fun k => { k with decodeWaits := false }) s) else finish s

/-- MAP_FETCH_DONE (R274): a vault read of a map page completes; the commands and merges that waited for it go on. -/
def execMapFetchDone (n : Nat) (s : State) : Host.Outcome State Fault Refusal :=
  if (getRes s n).fetching && !vaultHeld s then
    let s := mapFetched n s
    finish (mergeSteps ((s.ce.cmds.filter (fun c => c.stage == .lookup)).foldl (fun s c => proceed c.port c.tag s) s))
  else finish s

/-! ### FLUSH (R156) -/

/-- The volumes that a FLUSH names when it is decoded (R156, R168). -/
def flushVolumes (s : State) (p : PortId) (e : Bytes) : List Nat :=
  if flushAll e then
    (s.tabs.vols.filter (fun v => mayWrite s p v.1 && v.2.state != .recovering && s.pw.state != .start &&
      cipherReady s v.1 v.2)).map (·.1)
  else [volField e]

/-- FLUSH (R156): the volumes are named and their writes waited for. -/
def execFlush (p : PortId) (tag : Nat) (s : State) : Host.Outcome State Fault Refusal :=
  finish (decodeAs 4 p tag (fun c => modCmd p tag (fun d => { d with stage := .flushing, vols := flushVolumes s p c.entry })) s)

/-- The slots whose destage a FLUSH waits for. -/
def flushDirty (s : State) (c : Cmd) : List (Nat × Slot) :=
  s.cache.slots.filter (fun e => decide (e.2.volume ∈ c.vols) &&
    (e.2.state == .dirty || (e.2.state == .destaging && !e.2.old)) && decide (e.2.first ≤ c.upto))

/-- Dirty data whose destage needs a read of an extent below k reachable members (R156, R205). -/
def cannotDestage (s : State) (e : Nat × Slot) : Bool :=
  match getVol s e.2.volume with
  | none => false
  | some vol =>
    let x := e.2.page / max 1 vol.extentPages
    let q := e.2.page % max 1 vol.extentPages
    missingBlocks s e.2.volume x q vol e.2 &&
      (match (pmEntry s e.2.volume x q).bind (logPlace s) with
        | some (g, _, _) => ((getGroup s g).map (fun grp => decide (reachCount s grp < grp.k))).getD false
        | none => false)

/-- FLUSH_COMPLETE (R156): the data that a FLUSH waits for is clean and the map records that name it are on the drives;
or it cannot reach them. -/
def execFlushComplete (p : PortId) (tag : Nat) (s : State) : Host.Outcome State Fault Refusal :=
  match findCmd s p tag with
  | none => finish s
  | some c =>
    if c.stage != .flushing then finish s
    else if (flushDirty s c).any (cannotDestage s) then finish (failCmd p tag stOffline s)
    else if !(flushDirty s c).isEmpty then finish s
    else
      let mark := if c.lo = 0 then s.jr.last else c.lo
      if (drivePending s).all (fun r => decide (mark < r.seq)) then
        finish (completeCmd p tag ⟨stSuccess, c.vols.length, 0⟩ s)
      else finish (modCmd p tag (fun d => { d with lo := mark }) s)

/-! ### ECHO, VOLUME_QUERY, NOTICE_ACK (R158 to R160) -/

/-- ECHO (R158): with no bytes it completes at once, else it reads its source. -/
def execEcho (p : PortId) (tag : Nat) (s : State) : Host.Outcome State Fault Refusal :=
  finish (decodeAs 8 p tag (fun c s =>
    if nbytesField c.entry = 0 then completeCmd p tag ⟨stSuccess, 0, 0⟩ s
    else
      pump p (modCmd p tag (fun d => { d with
        stage := .fetching
        todo := readParts (s.ports.get p).cfg.mrrs [((descAt c.entry 0).1, nbytesField c.entry)] }) s)) s)

/-- An ECHO whose source has been read writes its destination and completes (R158, R162). -/
def echoEnd (p : PortId) (tag : Nat) (s : State) : State :=
  match findCmd s p tag with
  | none => s
  | some c =>
    let n := nbytesField c.entry
    if c.stage == .fetching && opcodeOf c.entry == 8 && c.todo.isEmpty && (transferBytes c).length == n then
      completeCmd p tag ⟨stSuccess, n, s.clk.uptime - c.accepted⟩ (writeHost p (descAt c.entry 1).1 (transferBytes c) s)
    else s

/-- The 64 bytes that VOLUME_QUERY writes (R159). -/
def volumeInfo (s : State) (p : PortId) (v : Nat) (vol : Volume) : Bytes :=
  let rebuild := (volGroups s v).any (·.rebuilding)
  fit 64 (leBytes 4 v ++ leBytes 1 vol.state.code ++ leBytes 1 (accessCode s p v) ++ leBytes 1 vol.k ++ leBytes 1 vol.m ++
    leBytes 8 vol.capacity ++ leBytes 2 vol.bs ++ leBytes 1 (redundancyLeft s v vol.m) ++
    leBytes 1 (packBits [vol.encrypted, writeBack s, rebuild, bit vol.vcflags 1]) ++
    leBytes 4 (2 ^ 21 / vol.bs) ++ leBytes 8 vol.extentBlocks ++ leBytes 4 (2 ^ 24 / vol.bs))

/-- VOLUME_QUERY (R159). -/
def execVolumeQuery (p : PortId) (tag : Nat) (s : State) : Host.Outcome State Fault Refusal :=
  finish (decodeAs 0x10 p tag (fun c s =>
    match getVol s (volField c.entry) with
    | some vol =>
      completeCmd p tag ⟨stSuccess, vol.state.code, vol.capacity⟩
        (writeHost p (descAt c.entry 0).1 (volumeInfo s p (volField c.entry) vol) s)
    | none => s) s)

/-- NOTICE_ACK (R160): a repetition that is queued goes with it (R161). -/
def execNoticeAck (p : PortId) (tag : Nat) (s : State) : Host.Outcome State Fault Refusal :=
  finish (decodeAs 0x11 p tag (fun c s =>
    let q := lbaField c.entry
    if (s.ports.get p).unacked.any (fun n => n.seq == q) then
      let s := modPort p (fun x => { x with
        unacked := x.unacked.filter (fun n => n.seq != q), notices := x.notices.filter (fun n => n.seq != q) }) s
      completeCmd p tag ⟨stSuccess, 0, q⟩ (event 0x2105 0 p.val (leBytes 8 q) s)
    else failCmd p tag stNotFound s) s)

/-- INVALID_OPCODE (R148). -/
def execInvalidOpcode (p : PortId) (tag : Nat) (s : State) : Host.Outcome State Fault Refusal :=
  match findCmd s p tag with
  | some c =>
    if mayDecode s c && !opDefined (opcodeOf c.entry) then finish (checked c (fun s => s) s) else finish s
  | none => finish s

end Sys2Proof.Machine
end

