-- ==== Sys2Proof/Machine/Ckpt.lean ====
section
/-! DEFINITION. Checkpoints on the drives, from the copy of the tables to the labels and the vault's copy (R234 to R236), and
the reports of the drives on metadata writes (R230, R233, R237). -/

namespace Sys2Proof.Machine

/-- The state with the durability part changed. -/
def modDur (f : Durability → Durability) (s : State) : State := { s with dur := f s.dur }

/-- The state with what the drives hold changed. -/
def modRecord (f : ArrayRecord → ArrayRecord) : State → State := modDur (fun d => { d with record := f d.record })

/-! ### Drives for copies (R235, R237) -/

/-- Up to `n` drives of a list in distinct domains, in the order of the list. -/
def distinctDomains (s : State) (n : Nat) (l : List Nat) : List Nat :=
  l.foldl (fun acc d =>
    if acc.length < n ∧ (acc.map (domainOf s)).contains (domainOf s d) = false then acc ++ [d] else acc) []

/-- The drives that take a checkpoint's copies: four in distinct domains, two or three with fewer (R235). They are taken
in turn from drive `first` on (log entry 90). -/
def ckptDrives (s : State) (first : Nat) : List Nat :=
  let all := (inService s).filter (fun d => decide (first ≤ d)) ++ (inService s).filter (fun d => decide (d < first))
  let l := distinctDomains s 4 all
  if 2 ≤ l.length then l else (l ++ all.filter (fun d => !decide (d ∈ l))).take 2

/-- The drives whose labels a metadata event rewrites. -/
def labelDrives (s : State) : List Nat := (s.drv.drives.filter (fun e => driveUp s e.1)).map (fun e => e.1)

/-- A drive for a copy that has to go elsewhere: none that has a copy, in a domain of its own where there is one. -/
def otherDrive (s : State) (d : Nat) (copies : List Nat) : Option Nat :=
  let left := copies.filter (· != d)
  let l := (inService s).filter (fun e => e != d && !decide (e ∈ copies))
  (l.find? (fun e => !(left.map (domainOf s)).contains (domainOf s e))).orElse (fun _ => l.head?)

/-! ### Retained checkpoints (R236) -/

/-- The newer and the older retained descriptor (R236). -/
def newerCkpt (s : State) : Ckpt := if s.dur.ckpt0.id ≤ s.dur.ckpt1.id then s.dur.ckpt1 else s.dur.ckpt0
/-- See `newerCkpt`. -/
def olderCkpt (s : State) : Ckpt := if s.dur.ckpt0.id ≤ s.dur.ckpt1.id then s.dur.ckpt0 else s.dur.ckpt1

/-- The dirty map pages whose oldest change a checkpoint covers are written back (R276). -/
def writeBackMaps (j : Nat) (s : State) : State :=
  if s.vault.failed then s
  else
    (s.qm.residency.filter (fun e => e.2.dirty && decide (e.2.oldest ≤ j))).foldl (fun s e => writeMap e.1 s) s

/-- Does a checkpoint that covers `j` cover a whole segment? -/
def Segment.covered (g : Segment) (j : Nat) : Bool := g.records.all (fun r => decide (r.seq ≤ j))

/-- Records that the older retained checkpoint covers are dropped (R236): of the drive journal the oldest segments, so that no
gap arises in SEG_SEQ (R250). -/
def retireRecords (s : State) : State :=
  let j := (olderCkpt s).covers
  let s : State := { s with jr := { s.jr with
    ring := s.jr.ring.filter (fun r => r.body.isCommit || decide (j < r.seq))
    vault := s.jr.vault.filter (fun r => decide (j < r.seq)) } }
  modRecord (fun r => { r with segments := r.segments.dropWhile (fun g => g.covered j && g.written && g.seq != s.dur.segSeq) }) s

/-- Some SPOIL chunks become FREE with one record, and their headers are written (R210, R233, R258). -/
def reclaimChunks (cs : List Nat) (s : State) : State :=
  let s := journal (.spoilReclaim cs) s
  cs.foldl (fun s c =>
    let d := (getChunk s c).drive
    let s := modChunk c (fun x => { x with state := .free, hdrPending := true, spoilJseq := 0, kind := 0 }) s
    let s := writeHeader d { freeHeader c with hjseq := s.jr.last } s
    if cfgDeallocOnReclaim s = 1 then issueOp d (.deallocate c 1) s else s) s

/-- Chunks in records of up to 2,036. -/
def reclaimBatches : Nat → List Nat → State → State
  | 0, _, s => s
  | n + 1, l, s => if l.isEmpty then s else reclaimBatches n (l.drop 2036) (reclaimChunks (l.take 2036) s)

/-- The group descriptors that no SPOIL chunk keeps are free again. -/
def freeGroups (s : State) : State :=
  let s := modTabs (fun t => { t with groups := t.groups.filter (fun e => e.2.state != .spoil ||
    e.2.members.any (fun m => (getChunk s m.chunk).state == .spoil)) }) s
  modRecord (fun r => { r with index := r.index.filter (fun i => (getGroup s i.group).isSome) }) s

/-- Spoil that neither retained checkpoint names is reclaimed with its record and headers (R210, R233, R258). -/
def reclaimSpoil (s : State) : State :=
  let j := (olderCkpt s).covers
  let cs := (s.tabs.chunks.filter (fun e => e.2.state == .spoil && decide (e.2.spoilJseq ≤ j))).map (fun e => e.1)
  if cs.isEmpty then s else freeGroups (reclaimBatches (cs.length / 2036 + 1) cs s)

/-! ### Taking a checkpoint (R235) -/

/-- An IMPORT event (R534). -/
def importEvent (step replacements : Nat) (s : State) : State :=
  let st : Nat := match s.dur.importState with
    | .idle => 0 | .scanning => 1 | .scanned => 2 | .committing => 3 | .done => 4 | .failed => 5
  event 0x3205 (if st = 5 then 2 else 0) 0 (leBytes 1 step ++ leBytes 1 st ++ leBytes 2 replacements) s

/-- Steps 1 and 2: the tables are copied, and the image goes to the older slot of the drives chosen. -/
def startCkpt (first : Nat) (s : State) : State :=
  let s := writeBackMaps s.jr.last s
  let c : Ckpt := {
    id := s.dur.nextCkpt, covers := s.jr.last, epoch := s.dur.epoch, time := 0
    slot := if s.dur.ckpt0.id ≤ s.dur.ckpt1.id then 0 else 1, drives := ckptDrives s first }
  let c : Ckpt := { c with hash := Config.sha512 (imageBytes s c s.tabs) }
  let t : Taking := { image := { desc := c, tables := s.tabs }, units := s.lock.unitsSince, labels := false }
  let s := mkSeal 627 (2 ^ 20) (modDur (fun d => { d with
    taking := some t, nextCkpt := c.id + 1, lastCkptTime := s.clk.uptime, requested := false, segsSinceCkpt := 0 }) s)
  c.drives.foldl (fun s d => issueOp d (.checkpoint c.id) s) s

/-- Steps 3 and 4: every copy has reported on media; the record is made, and the labels are written. -/
def ckptCopied (t : Taking) (s : State) : State :=
  let c := { t.image.desc with time := s.clk.now }
  let s := journal (.checkpoint c.id c.covers) s
  let s := modDur (fun d => { d with taking := some { t with image := { t.image with desc := c }, labels := true } }) s
  (labelDrives s).foldl (fun s d => writeLabels d s) s

/-- Step 5, once the labels are on media: the new descriptor is retained in place of the older, the vault receives its copy,
records and spoil go (R235, R236, R463). An import that commits is done (R250). -/
def ckptDone (t : Taking) (s : State) : State :=
  let c := t.image.desc
  let s := modDur (fun d => { d with
    taking := none, ckpt0 := if c.slot = 0 then c else d.ckpt0, ckpt1 := if c.slot = 0 then d.ckpt1 else c
    vaultCkpts := if s.vault.failed then d.vaultCkpts else [t.image] }) s
  let s := modRecord (fun r => { r with
    images := (r.images ++ [{ t.image with tables := driveImage t.image.tables }]).drop (r.images.length - 1) }) s
  let s := modLock (fun l => { l with unitsSince := l.unitsSince.map (fun e => (e.1, e.2 - Tab.atD t.units e.1 0)) }) s
  let s := reclaimSpoil (retireRecords s)
  if s.dur.importState = .committing then importEvent 7 0 (modDur (fun d => { d with importState := .done }) s) else s

/-- Is a copy of a running checkpoint still on its way to a drive? -/
def copyOpen (s : State) (c : Ckpt) : Bool :=
  c.drives.any (fun d => (openOps s d).any (fun o => o.what == .checkpoint c.id))

/-- A running checkpoint goes on as far as the drives have reported (R235). One that no drive holds ends without effect. -/
def ckptAdvance (s : State) : State :=
  match s.dur.taking with
  | none => s
  | some t =>
    if t.labels then (if labelsPending s then s else ckptDone t s)
    else if copyOpen s t.image.desc then s
    else if t.image.desc.drives.isEmpty then modDur (fun d => { d with taking := none }) s
    else
      let s := ckptCopied t s
      match s.dur.taking with
      | some t => if labelsPending s then s else ckptDone t s
      | none => s

/-- The chunks of a drive whose headers are owed and not on their way: those of records replayed at START, and those whose
header write failed (R233, R245). -/
def headersOwed (s : State) (d : Nat) : List Nat :=
  ((listedChunks s d).filter (fun e => e.2.hdrPending && !((openOps s d).any (fun o => match o.what with
    | .header c _ _ => c == e.1
    | _ => false)))).map (fun e => e.1)

/-- Headers that are owed to a drive in service are written, copy A first (R233). -/
def pumpHeaders (d : Nat) (s : State) : State :=
  if driveUp s d then (headersOwed s d).foldl (fun s c => issueOp d (.header c false (headerBlock s d c)) s) s else s

/-- Headers that are owed and labels that wait are written, and a running checkpoint goes on (R230, R233, R235). -/
def metaAdvance (s : State) : State :=
  ckptAdvance ((s.drv.drives.map (·.1)).foldl (fun s d => pumpLabel d (pumpHeaders d s)) s)

/-- A copy of a running checkpoint whose drive fails is written to another drive (R235). -/
def rewriteCopy (d id : Nat) (s : State) : State :=
  match s.dur.taking with
  | some t =>
    let c := t.image.desc
    if c.id = id ∧ d ∈ c.drives ∧ t.labels = false then
      let e := otherDrive s d c.drives
      let s := modDur (fun x => { x with taking := some { t with image := { t.image with
        desc := { c with drives := c.drives.filter (· != d) ++ e.toList } } } }) s
      match e with
      | some e => issueOp e (.checkpoint id) s
      | none => s
    else s
  | none => s

/-- The segment of a SEG_SEQ changed. -/
def modSegment (seq : Nat) (f : Segment → Segment) : State → State :=
  modRecord (fun r => { r with segments := r.segments.map (fun g => if g.seq = seq then f g else g) })

/-- A copy of a segment whose drive fails is written again elsewhere (R237). -/
def rewriteSegment (d seq : Nat) (s : State) : State :=
  match s.dur.record.segments.find? (fun g => g.seq == seq) with
  | some g =>
    let left := g.copies.filter (· != d)
    match otherDrive s d g.copies with
    | some e => issueOp e (.segment seq) (modSegment seq (fun g => { g with copies := left ++ [e] }) s)
    | none => if left.isEmpty then s else modSegment seq (fun g => { g with copies := left }) s
  | none => s

/-! ### Reports (R230, R233, R237, R337) -/

/-- A header block is on media: after copy A copy B is written; after copy B the chunk may be written, or allocated again
(R233). -/
def headerReported (d c : Nat) (copyB : Bool) (block : List Header) (s : State) : State :=
  let s := modRecord (fun r => if copyB then { r with headersB := putHeaders block r.headersB }
    else { r with headersA := putHeaders block r.headersA }) s
  if (getChunk s c).hdrPending then
    if copyB then mergeSteps (modChunk c (fun x => { x with hdrPending := false }) s)
    else issueOp d (.header c true (headerBlock s d c)) s
  else s

/-- The headers of a span are FREE. -/
def dropHeaders (p : Span) (t : Tab Header) : Tab Header :=
  t.filter (fun e => !(decide (p.base ≤ e.1) && decide (e.1 < p.base + p.count)))

/-- The next writes of a drive's adoption, in the order of R337: HDR_B behind HDR_A, the deallocation, LABEL_A, LABEL_B. -/
def adoptNext (d : Nat) (s : State) : State :=
  match getDrive s d, Tab.at? d s.tabs.spans with
  | some v, some p =>
    if v.state = .adopting then
      let s := modDrive d (fun x => { x with adoptStep := x.adoptStep + 1 }) s
      match v.adoptStep with
      | 1 => issueOp d (.headerTable true) s
      | 2 => if cfgDeallocOnReclaim s = 1 then issueOp d (.deallocate p.base p.count) s else s
      | 3 => writeLabel d { v with labelTop := true } s
      | 4 => writeLabel d v s
      | _ => s
    else s
  | _, _ => s

/-- Is every write of an adoption issued? -/
def adoptIssued (s : State) (d : Nat) : Bool := ((getDrive s d).map (fun v => decide (5 ≤ v.adoptStep))).getD true

/-- An adoption goes on when the writes issued have been reported; one that needs no deallocation goes on to its labels. -/
def adoptAdvance (d : Nat) : Nat → State → State
  | 0, s => s
  | n + 1, s => if (openOps s d).isEmpty && !adoptIssued s d then adoptAdvance d n (adoptNext d s) else s

/-- A drive has reported a command: what follows from its being on media. -/
def opReported (d : Nat) (o : DriveOp) (s : State) : State :=
  let s := match o.what with
    | .header c copyB block => headerReported d c copyB block s
    | .segment seq => modSegment seq (fun g => { g with media := g.media ++ [d] }) s
    | .headerTable copyB => match Tab.at? d s.tabs.spans with
      | some p => modRecord (fun r => if copyB then { r with headersB := dropHeaders p r.headersB }
          else { r with headersA := dropHeaders p r.headersA }) s
      | none => s
    | _ => s
  metaAdvance (adoptAdvance d 5 s)

end Sys2Proof.Machine
end

