-- ==== Sys2Proof/Machine/Drives.lean ====
section
/-! DEFINITION. The drive ports (10): states of drives, early warnings, recovery tables, adoption and removal; and the
marks that send chunks to relocation (R260, R286, R308, R349). -/

namespace Sys2Proof.Machine

/-! ### Drive records (R335, R533) -/

/-- SUBJECT of a drive's events: its number and the lane group of its path (R533). -/
def driveSubject (s : State) (d : Nat) : Nat :=
  d + (((getDrive s d).map (fun v => (v.path.getD 0 0).toNat)).getD 0) * 65536

/-- The code of a drive state (R335). -/
def DState.code : DState → Nat
  | .none => 0 | .blank => 1 | .foreign => 2 | .incompatible => 3 | .adopting => 4 | .online => 5 | .unreachable => 6
  | .evacuating => 7 | .removeReady => 8 | .failed => 9

/-- The code of a protocol (R353). -/
def protoCode : Proto → Nat
  | .nvme => 1 | .sas => 2 | .sata => 3

/-- Chunks of a drive with RELOCATE set. -/
def relocating (s : State) (d : Nat) : Nat := ((listedChunks s d).filter (fun e => e.2.relocate)).length

/-- Chunks of a drive that are ALLOCATED or SPOIL. -/
def heldChunks (s : State) (d : Nat) : Nat :=
  ((listedChunks s d).filter (fun e => e.2.state == .allocated || e.2.state == .spoil)).length

/-! ### Early warnings (R351, R352) -/

/-- The severity with which a cause stands at onset now, with the value and the threshold it met (R351). A value the
table does not name is none here. -/
def warnOnset (s : State) (d : Nat) (v : Drive) : Nat → Nat × Option Nat × Nat
  | 1 => if 100 ≤ v.wear then (3, some v.wear, 100)
    else if cfgEwWear s ≤ v.wear then (2, some v.wear, cfgEwWear s) else (0, none, 0)
  | 2 => if v.spareLow then (3, none, 0) else (0, none, 0)
  | 3 => if v.overTemp then (3, some (toTwos 32 v.temp), 0)
    else if (cfgEwTemp s : Int) ≤ v.temp then (2, some (toTwos 32 v.temp), cfgEwTemp s) else (0, none, 0)
  | 4 => if v.health then (3, none, 0) else (0, none, 0)
  | 5 => if cfgEwRelocate s ≤ relocating s d then (2, some (relocating s d), cfgEwRelocate s) else (0, none, 0)
  | 7 => if v.linkFull then (0, none, 0) else (2, none, 0)
  | 8 => if v.state = .unreachable then (3, none, 0) else (0, none, 0)
  | 9 => if v.state = .evacuating then (if v.why = .remove then 2 else 3, none, 0) else (0, none, 0)
  | 10 => if v.state = .removeReady then (1, none, 0) else (0, none, 0)
  | 11 => if v.state = .failed then (3, none, 0) else (0, none, 0)
  | _ => (0, none, 0)

/-- Does what clears an active cause hold (R351)? -/
def warnClear (s : State) (d : Nat) (v : Drive) : Nat → Bool
  | 1 => decide (v.wear < cfgEwWear s)
  | 2 => !v.spareLow
  | 3 => !v.overTemp && decide (v.temp ≤ (cfgEwTemp s : Int) - 5)
  | 4 => false
  | 5 => decide (2 * relocating s d < cfgEwRelocate s)
  | 6 => v.rcv.state == 0
  | 7 => v.linkFull
  | 8 => v.state == .online || v.state == .evacuating
  | 9 => v.state == .removeReady || v.state == .online
  | _ => false

/-- DETAIL of an early warning (R352). -/
def warnDetail (s : State) (d : Nat) (v : Drive) (w : Warning) (severity : Nat) : Bytes :=
  leBytes 2 d ++ leBytes 1 w.cause ++ leBytes 1 severity ++ leBytes 1 v.state.code ++ leBytes 1 (protoCode v.proto) ++
    leBytes 1 v.wear ++ leBytes 1 (toTwos 8 v.temp) ++ leBytes 4 w.value ++ leBytes 4 w.threshold ++ fit 16 v.guid ++
    leBytes 4 (relocating s d) ++ leBytes 4 (allocatedCount s d) ++ fit 1 v.path ++ leBytes 1 v.rcv.state ++ zeros 6

/-- A warning is recorded and sent (R352). -/
def sendWarning (d : Nat) (w : Warning) (severity : Nat) (s : State) : State :=
  match getDrive s d with
  | some v =>
    event 0x6501 (if severity = 3 then 2 else if severity = 2 then 1 else 0) (driveSubject s d)
      (warnDetail s d v w severity) { s with drv := { s.drv with ewRaised := s.drv.ewRaised + 1 } }
  | none => s

/-- A warning begins or rises; a VALUE that R352 does not name is a free value (log entry 1). -/
def raiseWarning (d cause sev : Nat) (value : Option Nat) (threshold : Nat) (s : State) : State :=
  let (x, s) := match value with
    | some n => (n, s)
    | none => let (n, s) := drawNat s; (n % 2 ^ 32, s)
  let w : Warning := ⟨cause, sev, x, threshold⟩
  sendWarning d w sev (modDrive d (fun v => { v with warnings := v.warnings.filter (fun y => y.cause != cause) ++ [w] }) s)

/-- One cause of a drive is looked at (R351). -/
def evalWarning (d cause : Nat) (s : State) : State :=
  match getDrive s d with
  | none => s
  | some v =>
    let on := warnOnset s d v cause
    match v.warnings.find? (fun w => w.cause == cause) with
    | none => if on.1 = 0 then s else raiseWarning d cause on.1 on.2.1 on.2.2 s
    | some w =>
      if warnClear s d v cause then
        modDrive d (fun y => { y with warnings := y.warnings.filter (fun z => z.cause != cause) }) (sendWarning d w 0 s)
      else if w.severity < on.1 then raiseWarning d cause on.1 on.2.1 on.2.2 s
      else s

/-- Every cause of a drive is looked at (R351). -/
def evalWarnings (d : Nat) (s : State) : State :=
  ((List.range 11).map (· + 1)).foldl (fun s c => evalWarning d c s) s

/-! ### Moves between drive states (R336) -/

/-- SEV of a move to a state (R534). -/
def driveSev : DState → Nat
  | .unreachable | .failed => 2
  | .incompatible | .foreign | .evacuating => 1
  | _ => 0

/-- A DRIVE_STATE event (R534). -/
def driveEvent (d : Nat) (old new : DState) (sev : Nat) (guid : Bytes) (s : State) : State :=
  event 0x5401 sev (driveSubject s d) (leBytes 1 old.code ++ leBytes 1 new.code ++ fit 16 guid) s

/-- A drive moves to a state, which is recorded, and its warnings are looked at (R336, R351, R534). -/
def moveDrive (d : Nat) (st : DState) (why : DWhy) (s : State) : State :=
  match getDrive s d with
  | none => s
  | some v =>
    if v.state = st then s
    else
      evalWarnings d (driveEvent d v.state st (driveSev st) v.guid
        (modDrive d (fun x => { x with state := st, why := why, left := if st = .unreachable then v.state else x.left }) s))

/-- A number returns to NONE (R336): what it held goes, its warnings are cleared (log entry 28). -/
def dropDrive (d : Nat) (s : State) : State :=
  match getDrive s d with
  | none => s
  | some v =>
    let s := v.warnings.foldl (fun s w => sendWarning d w 0 s) s
    let s := driveEvent d v.state .none 0 v.guid s
    { s with
      drv := { s.drv with drives := Tab.del s.drv.drives d, silent := s.drv.silent.filter (· != d) }
      qm := { s.qm with dispatchers := Tab.del s.qm.dispatchers d }
      dict := { s.dict with driveNv := Tab.del s.dict.driveNv d } }

/-! ### Relocation marks (R260, R286, R308, R349) -/

/-- A chunk is marked RELOCATE and its group queued (R286). -/
def markRelocate (c : Nat) (s : State) : State :=
  let x := getChunk s c
  if x.state = .allocated ∧ x.relocate = false then
    let s := modChunk c (fun y => { y with relocate := true }) s
    match x.group with
    | some g => queueRebuild g s
    | none => s
  else if x.state = .spoil then modChunk c (fun y => { y with state := .retired, spoilJseq := 0 }) s
  else s

/-- A drive begins to empty (R349): every ALLOCATED chunk is marked RELOCATE. -/
def evacuate (d : Nat) (why : DWhy) (s : State) : State :=
  match getDrive s d with
  | none => s
  | some v =>
    if v.state = .online then
      let cs := ((listedChunks s d).filter (fun e => e.2.state == .allocated && !e.2.relocate)).map (·.1)
      let s := moveDrive d .evacuating why s
      let s := modDrive d (fun x => { x with marked := cs }) s
      cs.foldl (fun s c => markRelocate c s) s
    else s

/-- Many marked chunks on one drive send it to EVACUATING (R349). -/
def evacuateCheck (d : Nat) (s : State) : State :=
  let n := relocating s d
  let s := evalWarning d 5 s
  if cfgEvacuatePm s ≠ 0 ∧ cfgEvacuatePm s * allocatedCount s d ≤ n * 1000 ∧ cfgEwRelocate s ≤ n then
    evacuate d .warned s
  else s

/-- ERR_TALLY of a chunk rises (R308); at RELOCATE_THRESHOLD the chunk is marked. -/
def addTally (c w : Nat) (s : State) : State :=
  let x := getChunk s c
  let n := satAdd 0xFFFFFFFF x.errTally w
  let s := modChunk c (fun y => { y with errTally := n }) s
  if cfgRelocateThreshold s ≤ n ∧ x.relocate = false ∧ x.state = .allocated then
    let d := (chunkDrive s c).getD 0
    let s := markRelocate c s
    let s := { s with cooper := { s.cooper with relocations := s.cooper.relocations + 1 } }
    evacuateCheck d (event 0x4304 1 (driveSubject s d) (leBytes 4 c ++ leBytes 4 n) s)
  else s

/-- The groups with two members in one domain (R260). -/
def domainConflicts (s : State) : List Nat :=
  (s.tabs.groups.filter (fun e => e.2.state != .spoil && e.2.state != .free &&
    (let ds := e.2.members.filterMap (fun m => (chunkDrive s m.chunk).map (domainOf s))
     (dedup ds).length != ds.length))).map (·.1)

/-- DRIVE_DOMAIN (R260, R483): the drive takes the domain; its members in groups that now conflict are marked RELOCATE;
the labels of a drive in service are written again. -/
def driveDomainWrite (d v : Nat) (s : State) : Nat × State :=
  match getDrive s d with
  | none => (stNotFound, s)
  | some x =>
    let s := modDrive d (fun y => { y with domain := v }) s
    let conflict (g : Nat) : Bool := match getGroup s g with
      | some grp => decide (2 ≤ (grp.members.filter (fun m => (chunkDrive s m.chunk).map (domainOf s) == some v)).length)
      | none => false
    let mine := (membersOn s d).filter (fun e => conflict e.1)
    let s := mine.foldl (fun s e =>
      match (getGroup s e.1).bind (fun grp => grp.chunk? e.2) with
      | some c => markRelocate c s
      | none => s) s
    let s := evacuateCheck d s
    (stSuccess, if x.state = .online ∨ x.state = .evacuating then writeLabels d s else s)

/-- DRIVE_TIER and DRIVE_CLASS keep one entry per drive number with the drive's DRIVE_GUID (R483). -/
def keepDriveNv (d : Nat) (s : State) : State :=
  match getDrive s d with
  | some x => { s with dict := { s.dict with
      driveNv := Tab.put d { guid := x.guid, dense := x.dense, cls := x.nextCls } s.dict.driveNv } }
  | none => s

/-- DRIVE_TIER (R261): later allocations follow the tier. -/
def driveTierWrite (d v : Nat) (s : State) : Nat × State :=
  match getDrive s d with
  | none => (stNotFound, s)
  | some _ => (stSuccess, keepDriveNv d (modDrive d (fun y => { y with dense := v == 1 }) s))

/-! ### Failed commands (R211, R342, R344) -/

/-- A rebuild begins again on a fresh chunk by a new MEMBER_REPLACE; the partly written chunk becomes spoil (R314). A
relocation goes on copying from the chunk it came from (R309). `failed` says that the drive of the chunk it leaves has
failed (R262). -/
def restartMember (failed : Bool) (g mem : Nat) (r : Rebuild) (s : State) : State :=
  if r.copy then
    match getGroup s g with
    | none => s
    | some grp =>
      match pickReplacement failed s g grp mem with
      | none => loseMember g mem (allocFails grp.volume g mem grp.dense s)
      | some c =>
        let part := (grp.chunk? mem).getD 0
        let s := journal (.memberReplace g mem grp.fill r.oldChunk c) s
        let s := releaseChunk part s
        let s := allocChunk c g mem 4 grp.volume s.jr.last s
        let s := modGroup g (fun x => { x with rebuilding := true, members := x.members.set mem ⟨c, .rebuilding⟩ }) s
        addRebuild { group := g, member := mem, oldChunk := r.oldChunk, cursor := grp.fill, progress := 0, copy := true } s
  else
    let n := startMember failed g mem false s
    if n.1 then n.2 else loseMember g mem n.2

/-- A write to a member's chunk has failed (R211, R314). -/
def failMember (g mem : Nat) (s : State) : State :=
  match getGroup s g with
  | none => s
  | some grp =>
    if groupWritten s grp then forceReplace g mem s
    else match s.cooper.rebuilds.find? (fun r => r.group == g && r.member == mem) with
      | some r => restartMember true g mem r s
      | none => s

/-- A write of an adoption has failed (R336): the drive is INCOMPATIBLE, and its span returns to ABSENT. -/
def adoptFails (d : Nat) (s : State) : State :=
  let s := modDispatcher d (fun q => { q with queue := [] }) (modDrive d (fun x => { x with ops := [], adoptStep := 0 }) s)
  moveDrive d .incompatible .none (modTabs (fun t => { t with spans := Tab.del t.spans d }) s)

/-- Is a drive being adopted? -/
def adopting (s : State) (d : Nat) : Bool := ((getDrive s d).map (fun v => v.state == .adopting)).getD false

/-- A command has failed to its requester (R342): a read is an erasure, a write fails its sett, one of an adoption ends it
(R336). -/
def opFailed (d : Nat) (o : DriveOp) (s : State) : State :=
  if adopting s d then (if o.what.isMeta then adoptFails d s else s)
  else match o.what with
  | .writeSett g _ mem _ => failMember g mem s
  | .header c _ _ => match (getChunk s c).state, (getChunk s c).group with
    | .allocated, some g => failMember g (getChunk s c).member s
    | _, _ => metaAdvance s
  | .segment seq => rewriteSegment d seq s
  | .checkpoint id => metaAdvance (rewriteCopy d id s)
  | .label _ _ => metaAdvance (modDrive d (fun v => { v with labelDue := true }) s)
  | _ => s

/-- A command's tag is free (R344). -/
def dropOp (d op : Nat) : State → State := modDrive d (fun v => { v with ops := v.ops.filter (fun o => o.id != op) })

/-- A command has failed and its tag stays outstanding (R344). -/
def endOp (d op : Nat) : State → State :=
  modDrive d (fun v => { v with ops := v.ops.map (fun o => if o.id = op then { o with ended := true } else o) })

/-- Every outstanding command of a drive fails (R344). -/
def failOps (d : Nat) (s : State) : State :=
  match getDrive s d with
  | none => s
  | some v =>
    (v.ops.filter (fun o => !o.ended)).foldl (fun s o => opFailed d o (endOp d o.id s)) s

/-- The metadata operations that wait for a drive out of service fail. -/
def failQueued (d : Nat) (s : State) : State :=
  let q := (getDispatcher s d).queue.filter (fun o => o.flow.isMetadata)
  let s := modDispatcher d (fun x => { x with queue := x.queue.filter (fun o => !o.flow.isMetadata) }) s
  q.foldl (fun s o => opFailed d o.op s) s

/-- Is an operation a read of a sett? -/
def DriveOp.isRead (o : DriveOp) : Bool :=
  match o.what with
  | .readSett _ _ _ => true
  | .copySett _ _ => true
  | _ => false

/-- May a command be issued again: a read or an admin command, not retried before (R342)? -/
def DriveOp.mayRetry (o : DriveOp) : Bool :=
  !o.retried && (match o.what with
    | .readSett _ _ _ => true
    | .copySett _ _ => true
    | .identify => true
    | .admin => true
    | .deallocate _ _ => true
    | _ => false)

/-- The members of written groups on a drive are replaced at once (R347). -/
def replaceOn (d : Nat) (s : State) : State := (membersOn s d).foldl (fun s e => memberReplace e.1 e.2 s) s

/-- The reads queued for a drive fail as erasures (R342). -/
def dropReads (d : Nat) : State → State :=
  modDispatcher d (fun q => { q with queue := q.queue.filter (fun o => !o.op.isRead) })

/-! ### Actions (R342) -/

/-- An entry of the trace toward drives. -/
def traceDrive (t : DriveTrace) (s : State) : State := { s with drv := { s.drv with trace := s.drv.trace ++ [t] } }

/-- The drives whose link RESET_LINK resets: those that share the root port or lane with a drive attached to it directly; a
switch downstream port or an expander phy is the drive's own (R342, R344). -/
def linkMates (s : State) (d : Nat) : List Nat :=
  match getDrive s d with
  | some v => (s.drv.drives.filter (fun e => e.1 == d ||
      (v.path.getD 2 0 == 0 && e.2.present && e.2.path.take 3 == v.path.take 3))).map (fun e => e.1)
  | none => []

/-- RESET_DEVICE or RESET_LINK: every outstanding command of the drive, or of the root port or path, fails (R342, R344). -/
def resetDrive (d : Nat) (a : DriveAct) (s : State) : State :=
  let s := traceDrive (.act d a) (modDrive d (fun v => { v with resets := v.resets + 1 }) s)
  (if a = .resetLink then linkMates s d else [d]).foldl (fun s e => failOps e s) s

/-- UNREACHABLE (R336, R342, R344, R347). -/
def makeUnreachable (d : Nat) (s : State) : State :=
  if driveUp s d then replaceOn d (failQueued d (failOps d (moveDrive d .unreachable .none s))) else s

/-- DECLARE_FAILED or FAIL (R336, R348). -/
def declareFailed (d : Nat) (s : State) : State :=
  match getDrive s d with
  | some v =>
    if driveUp s d then
      let s := { s with drv := { s.drv with failedGuids := v.guid :: s.drv.failedGuids } }
      replaceOn d (failQueued d (failOps d (moveDrive d .failed .declared s)))
    else s
  | none => s

/-- RESUME (R336, R342). -/
def resume (d : Nat) (s : State) : State :=
  match getDrive s d with
  | some v =>
    let s := modDrive d (fun x => { x with rcv := { x.rcv with quiesced := false } }) s
    if v.state = .unreachable then
      moveDrive d v.left (if v.left = .evacuating then v.why else .none) s
    else s
  | none => s

/-- ABORT of a command: on SATA it is taken as RESET_DEVICE (R342). -/
def abortOp (d : Nat) (op : Option DriveOp) (s : State) : State :=
  match getDrive s d, op with
  | some v, some o =>
    if v.proto = .sata then resetDrive d .resetDevice s
    else issueOp d .admin (traceDrive (.act d (.abort o.id)) s)
  | some v, none => if v.proto = .sata then resetDrive d .resetDevice s else s
  | none, _ => s

/-- One action bit (R342). FAIL_CMD and RETRY are decided with the command itself. -/
def takeAction (d bit : Nat) (op : Option DriveOp) (s : State) : State :=
  match bit with
  | 0 => dropReads d (modDrive d (fun v => { v with rcv := { v.rcv with quiesced := true } }) s)
  | 3 => abortOp d op s
  | 4 => resetDrive d .resetDevice s
  | 5 => resetDrive d .resetLink s
  | 6 => resume d s
  | 7 =>
    let s := evalWarnings d s
    match getDrive s d with
    | some v => if v.warnings.any (fun w => w.cause == 6) then s else raiseWarning d 6 2 (some v.rcv.state) 0 s
    | none => s
  | 8 => evacuate d .warned s
  | 9 => makeUnreachable d s
  | 10 => declareFailed d s
  | _ => s

/-- The actions of a row in bit order (R342). A command that is to be issued again is issued, any other one that raised
the event fails. The Bool says that it was issued again. -/
def takeActions (d acts : Nat) (op : Option DriveOp) (s : State) : State :=
  (List.range 11).foldl (fun s b => if acts.testBit b then takeAction d b op s else s) s

/-! ### The recovery engine (R340 to R346) -/

/-- The first row whose STATE is the state or 0xFF and whose EVENT is the event, with its number from 1 (R343). -/
def matchRow (t : RecTable) (st ev : Nat) : Option (Nat × RecRow) :=
  ((t.rows.zip (List.range t.rows.length)).find? (fun e => e.1.event == ev && (e.1.state == st || e.1.state == 0xFF))).map
    (fun e => (e.2 + 1, e.1))

/-- A drive enters a recovery state (R339, R343, R345, R353). -/
def enterState (d n : Nat) (s : State) : State :=
  match getDrive s d with
  | none => s
  | some v =>
    if n = v.rcv.state then s
    else if n = 0 then
      let t := s.drv.tables.getD v.nextCls v.rcv.table
      evalWarning d 6 (modDrive d (fun x => { x with
        cls := x.nextCls, rcv := { x.rcv with state := 0, counts := [], table := t } }) s)
    else
      let s := if v.rcv.state = 0 then
          { s with drv := { s.drv with entries := s.drv.entries.set v.cls (s.drv.entries.getD v.cls 0 + 1) } }
        else s
      modDrive d (fun x => { x with rcv := { x.rcv with state := n } }) s

/-- A DRIVE_RECOVERY event (R534). -/
def recoveryEvent (d row ev : Nat) (s : State) : State :=
  match getDrive s d with
  | some v => event 0x5402 0 (driveSubject s d)
      (leBytes 1 v.cls ++ leBytes 1 row ++ leBytes 1 ev ++ leBytes 1 v.rcv.state) s
  | none => s

/-- The timer after a row: armed, cancelled on a change of state, or left running (R343). -/
def rowTimer (d : Nat) (r : RecRow) : State → State :=
  modDrive d (fun v => { v with rcv := { v.rcv with
    timer := if r.timer ≠ 0 then r.timer else if r.next ≠ 0xFF ∧ r.next ≠ v.rcv.state then 0 else v.rcv.timer } })

/-- An event is matched (R343); the ACTIONS of the row taken are answered, 0 when none was or its LIMIT was exceeded. -/
def matchEvent (d : Nat) (op : Option DriveOp) : Nat → Nat → State → Nat × State
  | 0, _, s => (0, s)
  | fuel + 1, ev, s =>
    match getDrive s d with
    | none => (0, s)
    | some v =>
      match matchRow v.rcv.table v.rcv.state ev with
      | none => (0, recoveryEvent d 0 ev s)
      | some (n, r) =>
        let c := Tab.atD v.rcv.counts n 0 + 1
        let s := modDrive d (fun x => { x with rcv := { x.rcv with counts := Tab.put n c x.rcv.counts } }) s
        if r.limit ≠ 0 ∧ r.limit < c then
          let s := modDrive d (fun x => { x with rcv := { x.rcv with timer := 0 } }) s
          (0, (matchEvent d op fuel 11 (recoveryEvent d n ev (enterState d r.past s))).2)
        else
          let s := takeActions d r.actions op s
          let s := rowTimer d r s
          (r.actions, recoveryEvent d n ev (if r.next = 0xFF then s else enterState d r.next s))

/-- How many COUNT_EXCEEDED may follow one another in one match (log entry 29). -/
def matchFuel : Nat := 64

/-- An event without a command. -/
def driveEventMatch (d ev : Nat) (s : State) : State := (matchEvent d none matchFuel ev s).2

/-- An event that a failing command raised (R342): unless the row issues it again it fails. `done` says that the command
itself has ended. -/
def cmdEventMatch (d : Nat) (o : DriveOp) (ev : Nat) (done : Bool) (s : State) : State :=
  let s := if done then dropOp d o.id s else endOp d o.id s
  let r := matchEvent d (some o) matchFuel ev s
  let retry := r.1.testBit 2 && !r.1.testBit 1 && o.mayRetry && (match getDrive r.2 d with
    | some v => v.state != .unreachable && v.state != .failed && !(o.isRead && v.rcv.quiesced)
    | none => false)
  if retry then
    let (n, s) := newOp o.what r.2
    sendOp d { n with retried := true } s
  else opFailed d o r.2

/-- An outstanding command that has not failed. -/
def liveOp (s : State) (d op : Nat) : Option DriveOp :=
  (getDrive s d).bind (fun v => v.ops.find? (fun o => o.id == op && !o.ended))

/-- DRIVE_CMD_OK (R341, R344): a command completes; outside NORMAL it raises CMD_OK. An abort that completes has
confirmed the commands that had failed. -/
def execDriveCmdOk (d op : Nat) (s : State) : Host.Outcome State Fault Refusal :=
  match liveOp s d op, getDrive s d with
  | some o, some v =>
    let s := opReported d o (dropOp d op s)
    let s := if o.what = .admin then modDrive d (fun x => { x with ops := x.ops.filter (fun y => !y.ended) }) s else s
    finish (if v.rcv.state = 0 then s else driveEventMatch d 0 s)
  | _, _ => finish s

/-- DRIVE_CMD_TIMEOUT (R341, R342). -/
def execDriveCmdTimeout (d op : Nat) (s : State) : Host.Outcome State Fault Refusal :=
  match liveOp s d op with
  | some o => finish (cmdEventMatch d o 1 false (modDrive d (fun v => { v with timeouts := v.timeouts + 1 }) s))
  | none => finish s

/-- DRIVE_READ_MEDIA (R341). -/
def execDriveReadMedia (d op : Nat) (s : State) : Host.Outcome State Fault Refusal :=
  match liveOp s d op with
  | some o => if o.isRead then finish (cmdEventMatch d o 2 true s) else finish s
  | none => finish s

/-- DRIVE_WRITE_FAIL (R341). -/
def execDriveWriteFail (d op : Nat) (s : State) : Host.Outcome State Fault Refusal :=
  match liveOp s d op with
  | some o => if o.isRead then finish s else finish (cmdEventMatch d o 3 true s)
  | none => finish s

/-- DRIVE_TRANSPORT (R341): a transport error of a command, or of the link alone. -/
def execDriveTransport (d : Nat) (op : Option Nat) (s : State) : Host.Outcome State Fault Refusal :=
  match op with
  | none => finish (driveEventMatch d 4 s)
  | some n => match liveOp s d n with
    | some o => finish (cmdEventMatch d o 4 true s)
    | none => finish s

/-- DRIVE_RECOVERED (R308, R341): a read completes as recovered; its data stands whatever the row does. -/
def execDriveRecovered (d op : Nat) (s : State) : Host.Outcome State Fault Refusal :=
  match liveOp s d op with
  | some o =>
    let s := dropOp d op s
    let s := match o.what with
      | .readSett g _ mem => match (getGroup s g).bind (fun y => y.chunk? mem) with
        | some c => addTally c (cfgWeightRecovered s) s
        | none => s
      | .copySett c _ => addTally c (cfgWeightRecovered s) s
      | _ => s
    finish (driveEventMatch d 5 s)
  | none => finish s

/-- DRIVE_LINK_DOWN (R341). -/
def execDriveLinkDown (d : Nat) (s : State) : Host.Outcome State Fault Refusal :=
  finish (driveEventMatch d 6 (modDrive d (fun v => { v with present := false }) s))

/-- DRIVE_LINK_UP (R332, R341). -/
def execDriveLinkUp (d : Nat) (path : Bytes) (s : State) : Host.Outcome State Fault Refusal :=
  finish (driveEventMatch d 7 (modDrive d (fun v => { v with present := true, path := fit 8 path }) s))

/-- DRIVE_RESET_DONE (R341, R344): the reset has confirmed every failed command. -/
def execDriveResetDone (d : Nat) (s : State) : Host.Outcome State Fault Refusal :=
  finish (driveEventMatch d 8 (modDrive d (fun v => { v with ops := v.ops.filter (fun o => !o.ended) }) s))

/-- DRIVE_RESET_FAILED (R341). -/
def execDriveResetFailed (d : Nat) (s : State) : Host.Outcome State Fault Refusal := finish (driveEventMatch d 9 s)

/-- RECOVERY_TIMER_EXPIRY (R343). -/
def execRecoveryTimerExpiry (d : Nat) (s : State) : Host.Outcome State Fault Refusal :=
  match getDrive s d with
  | some v =>
    if v.rcv.timer = 0 then finish s
    else finish (driveEventMatch d 10 (modDrive d (fun x => { x with rcv := { x.rcv with timer := 0 } }) s))
  | none => finish s

/-- HEALTH_CRITICAL (R341, R351). -/
def execHealthCritical (d : Nat) (s : State) : Host.Outcome State Fault Refusal :=
  finish (driveEventMatch d 12 (evalWarning d 4 (modDrive d (fun v => { v with health := true }) s)))

/-- COUNT_WINDOW_EXPIRY (R343): row `row`, counted from 1, has not fired for COUNT_WINDOW. -/
def execCountWindowExpiry (d row : Nat) (s : State) : Host.Outcome State Fault Refusal :=
  finish (modDrive d (fun v => { v with rcv := { v.rcv with counts := Tab.del v.rcv.counts row } }) s)

/-- DRIVE_CMD_HARD_LIMIT (R344): a command outstanding 10 × its timeout fails, and UNREACHABLE is taken. -/
def execDriveCmdHardLimit (d op : Nat) (s : State) : Host.Outcome State Fault Refusal :=
  match (getDrive s d).bind (fun v => v.ops.find? (fun o => o.id == op)) with
  | some o => finish (makeUnreachable d (if o.ended then dropOp d op s else opFailed d o (dropOp d op s)))
  | none => finish s

/-- DRIVE_LATE_COMPLETION (R344): a completion for a command already failed is discarded and counted. -/
def execDriveLateCompletion (d op : Nat) (s : State) : Host.Outcome State Fault Refusal :=
  if (liveOp s d op).isNone ∧ op < s.drv.nextOp then
    finish (modDrive d (fun v => { v with late := v.late + 1, ops := v.ops.filter (fun o => o.id != op) }) s)
  else finish s

/-! ### Health (R351) -/

/-- A health report is taken over. -/
def takeReport (r : HealthReport) : State → State :=
  modDrive r.drive (fun v => { v with
    wear := if v.rotating then 0 else min 255 r.wear, temp := r.temp, spareLow := r.spareLow, overTemp := r.overTemp
    linkFull := r.linkFull })

/-- HEALTH_POLL_EXPIRY (R351): the reports that drives gave are taken over and every drive's causes evaluated. -/
def execHealthPollExpiry (reports : List HealthReport) (s : State) : Host.Outcome State Fault Refusal :=
  if awake s then
    let s := reports.foldl (fun s r => takeReport r s) s
    finish ((s.drv.drives.map (·.1)).foldl (fun s d => evalWarnings d s) s)
  else finish s

/-- DRIVE_ASYNC_REPORT (R351). -/
def execDriveAsyncReport (r : HealthReport) (s : State) : Host.Outcome State Fault Refusal :=
  finish (evalWarnings r.drive (takeReport r s))

/-! ### Discovery (R329 to R337, R350, R550) -/

/-- Is a device compatible (R329)? -/
def infoCompatible (i : DriveInfo) : Bool :=
  i.answered && (i.blockSize == 512 || i.blockSize == 4096) && !i.metadata &&
    decide (4 * 2 ^ 30 + 16 * 2 ^ 28 ≤ i.capacity) && i.writable && i.protoOk

/-- CHUNK_COUNT of a drive (R256). -/
def chunkCount (capacity : Nat) : Nat := min 524288 ((capacity - 4 * 2 ^ 30) / 2 ^ 28)

/-- Does a device carry a label of this array and its current epoch, written for itself (R335)? -/
def ownLabel (s : State) (i : DriveInfo) : Option LabelInfo :=
  i.label.filter (fun l => s.dur.arrayId != zeros 16 && l.arrayId == s.dur.arrayId && l.epoch == s.dur.epoch &&
    l.driveGuid == i.guid && decide (l.driveNo < 512))

/-- Is a chunk span free of the spans of other drives (R256)? -/
def spanFree (s : State) (d base count : Nat) : Bool :=
  s.tabs.spans.all (fun e => e.1 == d || decide (base + count ≤ e.2.base) || decide (e.2.base + e.2.count ≤ base))

/-- The number that a device takes (R333), with the label when it comes back into the array with it. -/
def numberFor (s : State) (i : DriveInfo) : Option (Nat × Option LabelInfo) :=
  let free (n : Nat) : Bool := (getDrive s n).isNone && (Tab.at? n s.tabs.spans).isNone
  let other : Option (Nat × Option LabelInfo) := ((List.range 512).find? free).map (fun n => (n, none))
  match ownLabel s i with
  | some l =>
    if (getDrive s l.driveNo).isNone then
      some (l.driveNo, if spanFree s l.driveNo l.chunkBase l.chunkCount && !decide (i.guid ∈ s.drv.failedGuids)
                       then some l else none)
    else other
  | none => other

/-- The class that a device's kind gives (R339). -/
def infoClass (i : DriveInfo) : Nat :=
  match i.proto with
  | .nvme => 0
  | .sas => if i.rotating then 2 else 1
  | .sata => if i.rotating then 4 else 3

/-- The record of a newly found device in state NONE (R327, R339, R483, R550). -/
def newDrive (s : State) (n : Nat) (i : DriveInfo) : Drive :=
  let nv := (Tab.at? n s.dict.driveNv).filter (fun e => i.answered && e.guid == i.guid)
  let cls := (nv.map (·.cls)).getD (infoClass i)
  { state := .none, left := .none, why := .none, present := true, proto := i.proto, rotating := i.rotating
    guid := if i.answered then fit 16 i.guid else zeros 16, capacity := if i.answered then i.capacity else 0
    wear := if i.rotating then 0 else min 255 i.wear, temp := i.temp, path := fit 8 i.path, label := i.label
    labelSeq := (i.label.map (·.labelSeq)).getD 0, labelTop := (i.label.map (·.copyB)).getD false, labelDue := false
    adoptStep := 0, cls := cls, nextCls := cls, domain := n
    dense := (nv.map (·.dense)).getD (i.proto != .nvme), spareLow := false, overTemp := false, linkFull := i.linkFull
    health := false, warnings := [], rcv := { table := s.drv.tables.getD cls (defaultTable 0), state := 0, counts := []
                                              timer := 0, quiesced := false }
    ops := [], timeouts := 0, resets := 0, late := 0, marked := [], adoptFrom := .none }

/-- The lane group of a device's path is up (R353). -/
def groupUp (path : Bytes) (s : State) : State :=
  { s with drv := { s.drv with groupState := s.drv.groupState.set (path.getD 0 0).toNat 2 } }

/-- The drive whose number a newly found one takes over (R333): both carry a label of this array with that number, and
the newcomer's names the higher CKPT_ID, or an equal one with the lower DRIVE_GUID. A drive in service keeps its
number. -/
def outranked (s : State) (i : DriveInfo) : Option (Nat × Drive) :=
  match ownLabel s i with
  | some l =>
    match getDrive s l.driveNo with
    | some v =>
      match v.label with
      | some y =>
        if s.pw.state = .start ∧ v.state = .online ∧ (y.ckptId < l.ckptId ∨
            (y.ckptId = l.ckptId ∧ beNat (fit 16 i.guid) < beNat (fit 16 v.guid))) then some (l.driveNo, v)
        else none
      | none => none
    | none => none
  | none => none

/-- A drive that loses its number is FOREIGN under the lowest free one, or ignored when there is none (R333). -/
def renumber (v : Drive) (s : State) : State :=
  match (List.range 512).find? (fun n => (getDrive s n).isNone && (Tab.at? n s.tabs.spans).isNone) with
  | some n =>
    moveDrive n .foreign .none { s with drv := { s.drv with
      drives := Tab.put n { v with state := .none, domain := n } s.drv.drives } }
  | none => event 0x5401 1 (0xFFFF + (v.path.getD 0 0).toNat * 65536) (zeros 2 ++ fit 16 v.guid) s

/-- A device without a known number is given one and its first state (R333, R336, R550). -/
def enterDrive (i : DriveInfo) (s : State) : State :=
  match numberFor s i with
  | none =>
    event 0x5401 1 (0xFFFF + (i.path.getD 0 0).toNat * 65536)
      (zeros 2 ++ (if i.answered then fit 16 i.guid else zeros 16)) s
  | some (n, l) =>
    let v := newDrive s n i
    let s : State := { s with drv := { s.drv with drives := Tab.put n v s.drv.drives } }
    if !i.answered then
      moveDrive n .incompatible .none { s with drv := { s.drv with silent := s.drv.silent ++ [n] } }
    else if !infoCompatible i then moveDrive n .incompatible .none s
    else match l with
      | some l =>
        let s := modDrive n (fun x => { x with domain := l.domain }) s
        let s := if (Tab.at? n s.tabs.spans).isSome then s
          else modTabs (fun t => { t with spans := Tab.put n ⟨l.chunkBase, l.chunkCount, false⟩ t.spans }) s
        moveDrive n .online .none s
      | none => if i.label.isSome then moveDrive n .foreign .none s else moveDrive n .blank .none s

/-- A device without a known number is found (R333, R336, R550). -/
def placeDrive (i : DriveInfo) (s : State) : State :=
  match outranked s i with
  | some (n, v) =>
    renumber v (enterDrive i { s with
      drv := { s.drv with drives := Tab.del s.drv.drives n }
      tabs := { s.tabs with spans := Tab.del s.tabs.spans n } })
  | none => enterDrive i s

/-- A known drive is found on a path again (R332, R350). -/
def refindDrive (d : Nat) (v : Drive) (i : DriveInfo) (s : State) : State :=
  if v.present && v.state != .failed then driveEvent d v.state v.state 1 v.guid s
  else
    let s := modDrive d (fun x => { x with present := true, path := fit 8 i.path, linkFull := i.linkFull }) s
    if v.state = .failed then
      if v.why = .lossWait ∧ (ownLabel s i).isSome = true then
        let s := match i.label with
          | some l =>
            if (Tab.at? d s.tabs.spans).isNone ∧ spanFree s d l.chunkBase l.chunkCount = true then
              modTabs (fun t => { t with spans := Tab.put d ⟨l.chunkBase, l.chunkCount, false⟩ t.spans }) s
            else s
          | none => s
        moveDrive d .online .none (modDrive d (fun x => { x with
          rcv := { x.rcv with state := 0, counts := [], timer := 0, quiesced := false }, ops := [] }) s)
      else moveDrive d .foreign .none s
    else driveEventMatch d 7 s

/-- The silent device of a path, if one holds a number there (R550). -/
def silentOn (s : State) (path : Bytes) : Option Nat :=
  s.drv.silent.find? (fun n => match getDrive s n with
    | some v => v.path.take 3 == (fit 8 path).take 3
    | none => false)

/-- A device is found (R332 to R336, R350, R550). -/
def findDrive (i : DriveInfo) (s : State) : State :=
  let s := groupUp i.path s
  match silentOn s i.path with
  | some n => if i.answered then placeDrive i (dropDrive n s) else s
  | none =>
    match s.drv.drives.find? (fun e => i.answered && e.2.guid == fit 16 i.guid && !decide (e.1 ∈ s.drv.silent)) with
    | some e => refindDrive e.1 e.2 i s
    | none => placeDrive i s

/-- May drives be found: enumeration has started (R334)? -/
def enumerating (s : State) : Bool := serving s || s.pw.state == .start

/-- DRIVE_FOUND (R336). -/
def execDriveFound (i : DriveInfo) (s : State) : Host.Outcome State Fault Refusal :=
  if enumerating s && !groupHeld s (i.path.getD 0 0).toNat then finish (findDrive i s) else finish s

/-- A drive drops from discovery (R336, R341). -/
def loseDrive (d : Nat) (s : State) : State :=
  match getDrive s d with
  | none => s
  | some v =>
    if v.state = .online ∨ v.state = .evacuating ∨ v.state = .unreachable then
      driveEventMatch d 6 (modDrive d (fun x => { x with present := false }) s)
    else
      let s := modDrive d (fun x => { x with present := false }) s
      if v.state = .adopting then
        dropDrive d (modTabs (fun t => { t with spans := Tab.del t.spans d }) s)
      else if heldChunks s d = 0 then dropDrive d s
      else s

/-- DRIVE_GONE (R336). -/
def execDriveGone (d : Nat) (s : State) : Host.Outcome State Fault Refusal := finish (loseDrive d s)

/-- BROADCAST_CHANGE (R331): the lane's domain is discovered again. -/
def execBroadcastChange (g : Fin 24) (found : List DriveInfo) (lost : List Nat) (s : State) :
    Host.Outcome State Fault Refusal :=
  if enumerating s && !groupHeld s g.val && bitsOf (cfgGroupCfg s g.val) 1 0 == 2 then
    finish (found.foldl (fun s i => findDrive i s) (lost.foldl (fun s d => loseDrive d s) s))
  else finish s

/-- SWITCH_PORT_CHANGE (R330): a switch downstream port trains or loses its link. -/
def execSwitchPortChange (g : Fin 24) (found : Option DriveInfo) (lost : Option Nat) (s : State) :
    Host.Outcome State Fault Refusal :=
  if enumerating s && !groupHeld s g.val && bitsOf (cfgGroupCfg s g.val) 1 0 == 1 then
    let s := match lost with
      | some d => loseDrive d s
      | none => s
    match found with
    | some i => finish (findDrive i s)
    | none => finish s
  else finish s

/-- IDENTIFY_RETRY (R550): the identification of a silent device is issued again; when it answers, it is handled as newly
found. -/
def execIdentifyRetry (d : Nat) (i : DriveInfo) (s : State) : Host.Outcome State Fault Refusal :=
  if enumerating s && !groupHeld s (i.path.getD 0 0).toNat && decide (d ∈ s.drv.silent) then
    let (op, s) := newOp .identify s
    let s := traceDrive (.issue d op) s
    if i.answered then finish (placeDrive i (dropDrive d s)) else finish s
  else finish s

/-! ### Adoption (R256, R336, R337) -/

/-- The lowest start of a run of `n` ABSENT entries: 0 or just behind a span (R256). -/
def spanStart (s : State) (n : Nat) : Option Nat :=
  minBy (fun b => b) ((0 :: s.tabs.spans.map (fun e => e.2.base + e.2.count)).filter (fun b =>
    decide (b + n ≤ 67108864) && spanFree s 512 b n))

/-- The KEY_ID of an MK that the module makes: a free value among those that no key has (R451; log entry 181). -/
def newKeyId (s : State) : Nat × State :=
  let (n, s) := drawNat s
  let ids := (List.range (s.lock.keys.length + 2)).map (fun i => (n + i) % 0xFFFFFFFE + 1)
  ((ids.find? (fun i => (getKey s i).isNone)).getD 1, s)

/-- The first adoption creates an array (R241, R337): its ARRAY_ID and MK come from the DRBG, its epoch is 1. -/
def createArray (s : State) : State :=
  if s.dur.arrayId = zeros 16 then
    let (id, s) := drbgBytes 16 s
    let (mk, s) := drbgBytes 32 s
    let s : State := { s with
      dur := { s.dur with arrayId := id, mediaArray := id, record := ArrayRecord.empty, epoch := 1 }
      drv := { s.drv with failedGuids := [] } }
    let (kid, s) := newKeyId s
    let k : Key := { kind := 2, flags := 3, id := kid, parent := 0, arrayId := id, value := mk }
    modLock (fun l => { l with metaKey := some k, storeMeta := some k, storeSeq := l.storeSeq + 1 }) s
  else s

/-- The span that a drive under a number held before leaves it: it returns to ABSENT, or, while members still name its chunks,
stands without a drive until they do not (R258). -/
def leaveSpan (d : Nat) (s : State) : State :=
  match Tab.at? d s.tabs.spans with
  | none => s
  | some p =>
    let n := (Tab.firstFree s.tabs.spans 512 (s.tabs.spans.length + 1)).getD 512
    dropSpan n (modTabs (fun t => { t with spans := Tab.put n { p with retired := true } (Tab.del t.spans d) }) s)

/-- Adoption of a drive begins (R256, R337): the status for a DRIVE_ADOPT write, and the state. The writes behind the first
ones follow as the drive reports. -/
def adopt (d : Nat) (s : State) : Nat × State :=
  match getDrive s d with
  | none => (stNotFound, s)
  | some v =>
    if (v.state = .blank ∨ v.state = .foreign) ∧ v.present = true then
      let s := createArray s
      let n := chunkCount v.capacity
      let fresh := leaveSpan d s
      match spanStart fresh n with
      | none => (stRangeInvalid, driveEvent d v.state v.state 1 v.guid s)
      | some b =>
        let s := modTabs (fun t => { t with spans := Tab.put d ⟨b, n, false⟩ t.spans }) fresh
        let s := modDrive d (fun x => { x with
          adoptFrom := v.state, domain := d, dense := v.proto != .nvme, adoptStep := 1, labelDue := false, ops := [] }) s
        let s := modDispatcher d (fun q => { q with queue := [] }) (keepDriveNv d s)
        let s := moveDrive d .adopting .none s
        let s := modDur (fun x => { x with headers := dropHeaders ⟨b, n, false⟩ x.headers }) s
        (stSuccess, mkSeal n 76 (issueOp d (.headerTable false) (issueOp d .zeroArea s)))
    else (stBusy, s)

/-- The writes of an adoption that have not been issued go out. -/
def adoptRest (d : Nat) (s : State) : State := (List.range 4).foldl (fun s _ => if adoptIssued s d then s else adoptNext d s) s

/-- ADOPT_DONE (R336, R337): every adoption write is on media, or one has failed. A drive adopted afresh begins in NORMAL and
no longer counts as one that this array failed (log entry 147). -/
def execAdoptDone (d : Nat) (ok : Bool) (s : State) : Host.Outcome State Fault Refusal :=
  match getDrive s d with
  | some v =>
    if v.state = .adopting then
      if ok then
        let s := adoptRest d s
        let s := modDispatcher d (fun q => { q with queue := [] }) (modDrive d (fun x => { x with ops := [], adoptStep := 0 }) s)
        let s := { s with drv := { s.drv with failedGuids := s.drv.failedGuids.filter (· != v.guid) } }
        let p := (Tab.at? d s.tabs.spans).getD ⟨0, 0, false⟩
        let s := modRecord (fun r => { r with headersA := dropHeaders p r.headersA, headersB := dropHeaders p r.headersB }) s
        finish (moveDrive d .online .none (enterState d 0 (modDrive d (fun x => { x with
          rcv := { x.rcv with timer := 0, quiesced := false } }) s)))
      else finish (adoptFails d s)
    else finish s
  | none => finish s

/-! ### Removal and failure (R336, R347 to R349) -/

/-- DRIVE_CMD REMOVE (R349, R353). -/
def driveRemove (d : Nat) (s : State) : Nat × State :=
  match getDrive s d with
  | none => (stNotFound, s)
  | some v => if v.state = .online then (stSuccess, evacuate d .remove s) else (stBusy, s)

/-- The queue without the groups that no longer need work (R284). -/
def tidyQueue (s : State) : State :=
  modQm (fun q => { q with queue := q.queue.filter (fun e => match getGroup s e.group with
    | some g => g.members.any (fun m => m.state != .ok || (getChunk s m.chunk).relocate)
    | none => false) }) s

/-- DRIVE_CMD CANCEL_REMOVE (R349): the marks that the evacuation set go, where no relocation has begun. -/
def driveCancelRemove (d : Nat) (s : State) : Nat × State :=
  match getDrive s d with
  | none => (stNotFound, s)
  | some v =>
    if v.state = .evacuating ∧ v.why = .remove then
      let begun (c : Nat) : Bool := s.cooper.rebuilds.any (fun r => r.oldChunk == c)
      let s := (v.marked.filter (fun c => !begun c)).foldl (fun s c => modChunk c (fun x => { x with relocate := false }) s) s
      (stSuccess, tidyQueue (moveDrive d .online .none (modDrive d (fun x => { x with marked := [] }) s)))
    else (stBusy, s)

/-- DRIVE_CMD FAIL (R336). -/
def driveFail (d : Nat) (s : State) : Nat × State :=
  match getDrive s d with
  | none => (stNotFound, s)
  | some _ => if driveUp s d then (stSuccess, declareFailed d s) else (stBusy, s)

/-- EVACUATION_DONE (R336, R349): nothing on the drive is ALLOCATED or SPOIL; its FREE chunks become RETIRED. -/
def execEvacuationDone (d : Nat) (s : State) : Host.Outcome State Fault Refusal :=
  match getDrive s d with
  | some v =>
    if v.state = .evacuating ∧ heldChunks s d = 0 then
      finish (dropSpan d (retireChunks d (moveDrive d .removeReady .none s)))
    else finish s
  | none => finish s

/-- DRIVE_LOSS_WAIT_EXPIRY (R336, R347). -/
def execDriveLossWaitExpiry (d : Nat) (s : State) : Host.Outcome State Fault Refusal :=
  match getDrive s d with
  | some v => if v.state = .unreachable then finish (moveDrive d .failed .lossWait s) else finish s
  | none => finish s

/-! ### Chunk headers and labels (R230, R233) -/

/-- METADATA_ON_MEDIA (R230, R233): a drive reports a chunk header write on media, or, without a chunk, a label write. -/
def execMetadataOnMedia (d : Nat) (c : Option Nat) (copyB : Bool) (s : State) : Host.Outcome State Fault Refusal :=
  let mine (o : DriveOp) : Bool := match o.what, c with
    | .header x b _, some c => x == c && b == copyB
    | .label b _, none => b == copyB
    | _, _ => false
  match ((getDrive s d).map (·.ops)).bind (fun l => l.find? (fun o => !o.ended && mine o)) with
  | some o => finish (opReported d o (dropOp d o.id s))
  | none => finish s

/-! ### Lane groups (R321, R322, R326) -/

/-- Does a GROUP_CFG value hold no field that is refused (R321)? -/
def groupCfgOk (v : Nat) : Bool :=
  bitsOf v 1 0 != 3 && decide (3 ≤ bitsOf v 4 2) && decide (bitsOf v 4 2 ≤ 6) && bitsOf v 6 5 != 3 &&
    decide (bitsOf v 9 8 ≤ 1)

/-- GROUP_CFG as it is kept: reserved bits read as zero (R14, R321). -/
def groupCfgKept (v : Nat) : Nat := v % 2 ^ 10

/-- What the module drives on the sideband contacts of a group (R27, R55). -/
inductive GroupSide where
  /-- A group that is not set to PCIe, or without main rails: reference clock and PERST_N are held inactive. -/
  | inactive
  /-- A group set to PCIe: one 100 MHz reference, with down-spread or without, and the level of PERST_N. -/
  | driven (spread perst : Bool)
  deriving DecidableEq, Repr

/-- The sideband outputs of a group (R27, R55). -/
def groupSide (s : State) (g : Nat) : GroupSide :=
  let v := cfgGroupCfg s g
  if s.pw.rails && bitsOf v 1 0 == 1 then .driven (bit v 7) (decide (g ∈ s.drv.perst)) else .inactive

/-- A group retrains (R322): it is tried again, PERST_N pulses in PCIe mode. -/
def retrainGroup (g v : Nat) (s : State) : State :=
  let s : State := { s with
    drv := { s.drv with groupState := s.drv.groupState.set g (if bitsOf v 1 0 = 0 then 0 else 1) }
    pw := { s.pw with groupsFailed := s.pw.groupsFailed.filter (· != g) } }
  if bitsOf v 1 0 = 1 then traceDrive (.perst g) s else s

/-- GROUP_CFG (R321, R322): the status of a write, and the state. -/
def groupCfgWrite (g v : Nat) (s : State) : Nat × State :=
  if !groupCfgOk v then (stValue, s)
  else
    let busy := s.drv.drives.any (fun e => (e.2.path.getD 0 0).toNat == g &&
      (e.2.state == .adopting || e.2.state == .online || e.2.state == .unreachable || e.2.state == .evacuating))
    if busy then (stBusy, s) else (stSuccess, retrainGroup g v s)

/-- A group is out of service (R326). -/
def failGroup (g : Nat) (s : State) : State :=
  let s : State := { s with
    drv := { s.drv with groupState := s.drv.groupState.set g 3 }
    pw := { s.pw with groupsFailed := if g ∈ s.pw.groupsFailed then s.pw.groupsFailed else s.pw.groupsFailed ++ [g] } }
  ((s.drv.drives.filter (fun e => (e.2.path.getD 0 0).toNat == g)).map (·.1)).foldl (fun s d => makeUnreachable d s) s

/-- GROUP_LANES_LOST (R326). -/
def execGroupLanesLost (g : Fin 24) (s : State) : Host.Outcome State Fault Refusal :=
  if serving s then finish (failGroup g.val s) else finish s

/-! ### Recovery tables by the dictionary (R339, R340, R345) -/

/-- The row at place `i` of a table's bytes (R340). -/
def recRowOf (b : Bytes) (i : Nat) : RecRow :=
  let o := 16 + 12 * i
  ⟨field b o 1, field b (o + 1) 1, field b (o + 2) 1, field b (o + 3) 1, field b (o + 4) 1, field b (o + 6) 2,
    field b (o + 8) 2⟩

/-- The table that bytes spell (R340). -/
def recTableOf (b : Bytes) : RecTable :=
  { nstates := field b 2 1, cmdTimeout := field b 4 2, adminTimeout := field b 6 2, countWindow := field b 8 2
    rows := (List.range (field b 1 1)).map (recRowOf b) }

/-- May a row stand in a table (R340)? -/
def recRowOk (n : Nat) (r : RecRow) : Bool :=
  (r.state == 0xFF || decide (r.state < n)) && (r.next == 0xFF || decide (r.next < n)) && decide (r.past < n) &&
    decide (r.event ≤ 12) && decide (r.actions < 2048)

/-- May a table be loaded for a class (R340)? -/
def recTableOk (cls : Nat) (b : Bytes) : Bool :=
  let t := recTableOf b
  field b 0 1 == cls && decide (1 ≤ t.rows.length) && decide (t.rows.length ≤ 168) && decide (2 ≤ t.nstates) &&
    decide (t.nstates ≤ 32) && decide (100 ≤ t.cmdTimeout) && decide (100 ≤ t.adminTimeout) &&
    decide (1 ≤ t.countWindow) && decide (t.countWindow ≤ 1440) && t.rows.all (recRowOk t.nstates)

/-- A class takes a table; its drives in NORMAL run under it at once (R345). -/
def loadTable (cls : Nat) (t : RecTable) (s : State) : State :=
  { s with drv := { s.drv with
      tables := s.drv.tables.set cls t
      drives := s.drv.drives.map (fun e =>
        if e.2.cls = cls ∧ e.2.rcv.state = 0 then (e.1, { e.2 with rcv := { e.2.rcv with table := t } }) else e) } }

/-- RECOVERY_TABLE (R340): the status of a write for class `cls`, and the state. -/
def recoveryTableWrite (cls : Nat) (b : Bytes) (s : State) : Nat × State :=
  if recTableOk cls b then (stSuccess, loadTable cls (recTableOf b) s) else (stValue, s)

/-- DRIVE_CLASS (R339): the class takes effect when the drive is in NORMAL. -/
def driveClassWrite (d v : Nat) (s : State) : Nat × State :=
  match getDrive s d with
  | none => (stNotFound, s)
  | some x =>
    let s := modDrive d (fun y => { y with nextCls := v }) s
    let s := if x.rcv.state = 0 then
        modDrive d (fun y => { y with cls := v, rcv := { y.rcv with table := s.drv.tables.getD v y.rcv.table } }) s
      else s
    (stSuccess, keepDriveNv d s)

end Sys2Proof.Machine
end

