-- ==== Sys2Proof/Machine/TestOps.lean ====
section
/-! DEFINITION. The running test as other parts see it: its result, and its abort by what happens to its interface
(R542 to R544). -/

namespace Sys2Proof.Machine

/-- The state with the test controller changed. -/
def modTest (f : TestUnit → TestUnit) (s : State) : State := { s with test := f s.test }

/-- Does the running test use an interface? -/
def testOn (s : State) (i : Nat) : Bool :=
  match s.test.running with
  | some r => r.interface == i
  | none => false

/-- Is a LINK, PCS or PMA test of a host port running (R544)? -/
def portTestOn (s : State) (p : PortId) : Bool :=
  match s.test.running with
  | some r => r.interface == p.val + 1 && decide (1 ≤ r.depth) && decide (r.depth ≤ 3)
  | none => false

/-- The name under which a failed test lights FAULT: its interface and depth (R51). -/
def selftestKey (interface depth : Nat) : Nat := interface * 256 + depth

/-- The SELFTEST event (R534). OUTCOME 1 passes, 2 fails, 3 is aborted. -/
def selftestEvent (test interface depth outcome : Nat) : State → State :=
  event 0xDC01 (if outcome = 1 then 0 else if outcome = 3 then 1 else 2) 0
    (leBytes 1 test ++ leBytes 1 interface ++ leBytes 1 depth ++ leBytes 1 outcome)

/-- TEST_RESULT (R542). -/
def testResult (r : TestReq) (outcome attempts stop compared errors worst cause : Nat) (lanes : Bytes) : Bytes :=
  leBytes 1 r.interface ++ leBytes 1 r.depth ++ leBytes 1 outcome ++ leBytes 1 attempts ++ leBytes 2 r.lanes ++ zeros 2 ++
    leBytes 8 r.start ++ leBytes 8 stop ++ leBytes 8 compared ++ leBytes 8 errors ++ leBytes 1 worst ++
    leBytes 1 r.rate ++ leBytes 1 cause ++ zeros 5 ++ fit 16 lanes

/-- The running test is aborted (R542, R544). How far it had come is a free value (log entry 1). -/
def abortTest (cause : Nat) (s : State) : State :=
  match s.test.running with
  | none => s
  | some r =>
    let (a, s) := drawNat s
    let (c, s) := drawNat s
    let (e, s) := drawNat s
    let (w, s) := drawNat s
    let s := modTest (fun t => { t with
      running := none, state := .aborted
      result := testResult r 3 (1 + a % 2) s.clk.now c e w cause ((List.range 16).map (fun i => Config.freeByte (16 * s.free + i))) }) s
    selftestEvent 0 r.interface r.depth 3 s

/-- The test on an interface, if one runs there, is aborted. -/
def abortTestOn (i cause : Nat) (s : State) : State := if testOn s i then abortTest cause s else s

end Sys2Proof.Machine
end

