-- ==== Sys2Proof/Machine/PowerOps.lean ====
section
/-! DEFINITION. Entering DUMP from any cause (R56, R58, R64, R318, R359). -/

namespace Sys2Proof.Machine

/-- The state with the power part changed. -/
def modPw (f : Power → Power) (s : State) : State := { s with pw := f s.pw }

/-- The state with the sideband part changed. -/
def modSide (f : Sideband → Sideband) (s : State) : State := { s with side := f s.side }

/-- The state with the dump part changed. -/
def modDump (f : DumpState → DumpState) (s : State) : State := { s with dump := f s.dump }

/-- FAULT is lit by an event (R51). -/
def addFault (e : FaultEvent) : State → State :=
  modPw (fun p => { p with faults := if e ∈ p.faults then p.faults else p.faults ++ [e] })

/-- LAST_RESET_CAUSE of a dump that ends in a module reset (R71). -/
def DumpCause.reset : DumpCause → Nat
  | .modReset => 1
  | .controlReset => 2
  | .controlStandby => 2
  | .thermalTrip => 3
  | .mgmtWatchdog => 4
  | .clockFault => 5
  | .trip12V => 6
  | .hbmError => 7
  | .coderKat => 8
  | .serviceSet => 8

/-- Causes whose dump leaves a fault hold (R58). -/
def DumpCause.holds : DumpCause → Bool
  | .clockFault | .coderKat | .serviceSet => true
  | _ => false

/-- Every port stops fetching and accepting, and every accepted command is cancelled. -/
def stopPorts (s : State) : State :=
  let s := s.ce.cmds.foldl (fun s c => cancelCmd c s) s
  allPorts.foldl (fun s p => modPort p (fun q => { q with maint := true, reqs := [] }) s) s

/-- A management path leaves MAINTENANCE: it is DOWN until its link comes up again (R505, R539). -/
def leavePath (m : MPath) : MPath := { m with state := .down, link := 0 }

/-- Every MAINTENANCE ends (R544). -/
def endMaint (s : State) : State :=
  let s : State := { s with paths := { s.paths with
    a := if inMaint s 0x25 then leavePath s.paths.a else s.paths.a
    b := if inMaint s 0x26 then leavePath s.paths.b else s.paths.b } }
  modTest (fun t => { t with maint := [] }) s

/-- DUMP is entered (R58): tests end (R542), commands stop, and DUMP_ACT shows it (R37). In OFF and in DUMP nothing
happens. -/
def enterDump (cause : DumpCause) (s : State) : State :=
  if s.pw.state = .off ∨ s.pw.state = .dump then s
  else
    let s := endMaint (abortTest 2 s)
    let s := stopPorts s
    let s := modPw (fun p => { p with cause := some cause, startStep := 0, capped := false }) s
    let s := modSide (fun x => { x with dumpAct := true, pwrGood := x.pwrGood && cause != .trip12V }) s
    let s := modDump (fun d => { d with tripTime := s.clk.now, sourceLost := false, dumped := false }) s
    setPower .dump s

end Sys2Proof.Machine
end

