-- ==== Sys2Proof/Machine/Assay.lean ====
section
/-! DEFINITION. The Assayer (09): the outcome of a bench, mismatches, scrub, rebuild, relocation, error tallies and the
known-answer tests of Cooper. A row's operand holds what every sett read so far for the bench brought. -/

namespace Sys2Proof.Machine

/-! ### The outcome of a bench (R300) -/

/-- The bytes of a sett that was read. -/
def SettResult.bytes : SettResult → Option Bytes
  | .good d => some d
  | .recovered d => some d
  | .failed => none

/-- A result deciphered (R294). -/
def SettResult.opened (f : Bytes → Bytes) : SettResult → SettResult
  | .good d => .good (f d)
  | .recovered d => .recovered (f d)
  | .failed => .failed

/-- The results of the reads of a bench, deciphered before any pass uses them (R294). -/
def openSetts (s : State) (grp : Group) (b : Nat) (setts : List SettRead) : List SettRead :=
  setts.map (fun e =>
    let f := settCipher Config.xtsDecrypt s grp ((grp.chunk? (settMember grp.size b e.position)).getD 0) b
    { e with result := SettResult.opened f e.result })

/-- The lanes' passes for a number of setts that were read. -/
def openPasses (grp : Group) (n : Nat) (s : State) : State := (List.range n).foldl (fun s _ => settPass grp s) s

/-- The positions whose read failed (R300). -/
def failedSetts (setts : List SettRead) : List Nat :=
  dedup ((setts.filter (fun e => e.result == .failed)).map (fun e => e.position))

/-- Is a sett an erasure (R300)? -/
def settErased (s : State) (g : Nat) (grp : Group) (b : Nat) (failed : List Nat) (pos : Nat) : Bool :=
  let mem := settMember grp.size b pos
  !memberPresent s g grp b mem || repairListed s g b mem || decide (pos ∈ failed)

/-- The setts that were read and are no erasures, in the order of their positions. -/
def settsRead (s : State) (g : Nat) (grp : Group) (b : Nat) (failed : List Nat) (setts : List SettRead) : Tab Bytes :=
  (List.range grp.size).filterMap (fun p =>
    if settErased s g grp b failed p then none
    else ((setts.find? (fun e => e.position == p)).bind (fun e => SettResult.bytes e.result)).map (fun d => (p, d)))

/-- An outcome: `good` with the setts known, the positions that a pass decoded, those that are verified (R302), and
whether comparisons were made and all equal; or more setts are needed; or a comparison differs; or unrecoverable. -/
inductive Verdict where
  | good (data : Tab Bytes) (decoded sure : List Nat) (compared : Bool)
  | more
  | mismatch
  | unrecoverable
  deriving DecidableEq, Repr

/-- The setts of a bench with the lost ones among `need` decoded from the first k read (R295, R300). -/
def decodeLost (k : Nat) (ok : Tab Bytes) (need : List Nat) : Tab Bytes × List Nat :=
  let lost := need.filter (fun p => (Tab.at? p ok).isNone)
  (lost.foldl (fun t p => Tab.put p (gfPass k (ok.take k) p settBytes) t) ok, lost)

/-- The table of R300. -/
def judge (s : State) (g : Nat) (grp : Group) (r : BenchRead) (setts : List SettRead) : Verdict :=
  let failed := dedup (r.failed ++ failedSetts setts)
  let e := ((List.range grp.size).filter (settErased s g grp r.bench failed)).length
  let ok := settsRead s g grp r.bench failed setts
  let given := r.need.all (fun p => (Tab.at? p ok).isSome)
  if grp.m < e then if given then .good ok [] (Tab.keys ok) false else .unrecoverable
  else if !r.whole && given then .good ok [] (Tab.keys ok) false
  else if ok.length < grp.k then .more
  else if !comparesEqual grp.k ok settBytes then .mismatch
  else
    let compared := decide (grp.k < ok.length)
    let d := decodeLost grp.k ok r.need
    .good d.1 d.2 (if compared then Tab.keys d.1 else Tab.keys ok) compared

/-- Each failed read adds WEIGHT_UNRECOVERED to its sett's chunk (R308). -/
def countFailed (g : Nat) (b : Nat) (ps : List Nat) (s : State) : State :=
  ps.foldl (fun s p => match (getGroup s g).bind (fun grp => grp.chunk? (settMember grp.size b p)) with
    | some c => addTally c (cfgWeightUnrecovered s) s
    | none => s) s

/-! ### Delivery -/

/-- The flow of a reader's drive operations (R281). -/
def readerFlow (s : State) : Reader → Flow
  | .host p tag => .host p (((s.ce.cmds.find? (fun c => c.port.val == p && c.tag == tag)).bind (fun c =>
      (getVol s c.vol).map (fun v => v.cls))).getD 0)
  | .destage v _ => .destage (((getVol s v).map (fun x => x.cls)).getD 0)
  | .scrub => .background 4
  | .rebuild => .background 0
  | .merge v x => .background (mergeKind (((findMerge s v x).map (·.reason)).getD 0))

/-- The command of a host reader. -/
def readerCmd (s : State) (p tag : Nat) : Option Cmd := s.ce.cmds.find? (fun c => c.port.val == p && c.tag == tag)

/-- The old log copy of a page fills the blocks that its slot lacks (R205). -/
def uniteOld (v page g b : Nat) (data : Tab Bytes) (s : State) : State :=
  match getVol s v with
  | none => s
  | some vol =>
    let x := page / max 1 vol.extentPages
    let p := page % max 1 vol.extentPages
    match pmEntry s v x p, dirtySlotOf s v vol x p with
    | some e, some (i, _) =>
      match logPlace s e with
      | some (g', b', pos) =>
        if g' = g ∧ b' = b ∧ (Tab.at? pos data).isSome = true then
          modSlot i (fun z => { z with
            bmask := z.bmask ||| e.bmask
            data := mergeBlocks z.bmask z.data (slice (Tab.atD data pos []) (4096 * (e.slot % 32)) 4096) }) s
        else s
      | none => s
    | _, _ => s

/-- A bench read leaves the list. -/
def dropRead (r : BenchRead) : State → State := modCooper (fun c => { c with reads := c.reads.erase r })

/-- A rebuilt sett goes to a member's chunk (R311), and the member's rebuild moves on. -/
def writeRebuilt (g b mem : Nat) (data : Bytes) (s : State) : State :=
  match getGroup s g, ((getGroup s g).bind (fun x => x.chunk? mem)).bind (chunkDrive s) with
  | some grp, some d =>
    let x := settCipher Config.xtsEncrypt s grp ((grp.chunk? mem).getD 0) b data
    let s := settPass grp (enqueueOp d (.background 0) settBytes (.writeSett g b mem x) s)
    modCooper (fun c => { c with
      settsRebuilt := c.settsRebuilt + 1
      rebuilds := c.rebuilds.map (fun r =>
        if r.group = g ∧ r.member = mem then { r with progress := b + 1, decode := false } else r) }) s
  | _, _ => s

/-- The members whose rebuild needs bench `b` next: their replacement's headers are on media (R233, R310). A relocation needs
a pass only for a bench that cannot be copied (R309). -/
def rebuildsAt (s : State) (g b : Nat) : List Rebuild :=
  s.cooper.rebuilds.filter (fun r => r.group == g && r.progress == b && decide (b < r.cursor) && (!r.copy || r.decode) &&
    (match (getGroup s g).bind (fun x => x.chunk? r.member) with
      | some c => !(getChunk s c).hdrPending
      | none => false))

/-- A good bench goes to its reader (R302). -/
def deliverBench (r : BenchRead) (data : Tab Bytes) (decoded sure : List Nat) (s : State) : State :=
  match r.reader with
  | .host p tag => match readerCmd s p tag with
    | some c => deliverParts r.group r.bench data decoded sure c s
    | none => s
  | .destage v page => uniteOld v page r.group r.bench data s
  | .merge v x => mergeTake v x r.group r.bench data false s
  | .rebuild => (rebuildsAt s r.group r.bench).foldl (fun s q => match getGroup s r.group with
    | some grp => writeRebuilt r.group r.bench q.member
        (Tab.atD data (memberPos grp.size r.bench q.member) (zeros settBytes)) s
    | none => s) s
  | .scrub => s

/-- `n` bytes that the spec leaves open (log entry 1). -/
def freeBytes (n : Nat) (s : State) : Bytes × State :=
  ((List.range n).map (fun i => Config.freeByte (s.free + i)), { s with free := s.free + n })

/-- An unrecoverable bench and its reader: a READ fails (R300), a page whose old copy cannot be read asks for a merge
(R205), a merge takes the setts that were read and zeros for the others (R305), a rebuild writes what the spec leaves open
after an unlocated mismatch (log entry 1). -/
def loseBench (r : BenchRead) (ok : Tab Bytes) (s : State) : State :=
  match r.reader with
  | .host p tag => match readerCmd s p tag with
    | some c => failRead c.port c.tag r.group s
    | none => s
  | .destage v page => match getVol s v with
    | some vol => queueMerge v (page / max 1 vol.extentPages) 2 s
    | none => s
  | .merge v x => mergeTake v x r.group r.bench ok true s
  | .rebuild => (rebuildsAt s r.group r.bench).foldl (fun s q =>
      let f := freeBytes settBytes s
      writeRebuilt r.group r.bench q.member f.1 f.2) s
  | .scrub => s

/-! ### Scrub's end (R306, R316) -/

/-- A STALE member found failed, or one whose located sett found no room, becomes MISSING and returns no more (R303,
R316). -/
def failStale (g mem : Nat) (s : State) : State :=
  let s := queueRebuild g (modGroup g (fun x => { x with degraded := true }) (setMember g mem .missing 1 s))
  modCooper (fun c => { c with noReturn := c.noReturn ++ [(g, mem)] }) s

/-- The STALE members of a group. -/
def staleMembers (grp : Group) : List Nat :=
  ((grp.members.zip (List.range grp.members.length)).filter (fun e => e.1.state == .stale)).map (fun e => e.2)

/-- GFLAGS.DEGRADED and GFLAGS.REBUILDING as the members give them (R310). -/
def groupFlags (g : Nat) : State → State :=
  modGroup g (fun x => { x with
    rebuilding := x.members.any (fun m => m.state == .rebuilding)
    degraded := x.degraded && x.members.any (fun m => m.state != .ok) })

/-- The last bench of a group is done: SCRUBBED is set, and STALE members that passed are OK (R306, R316). -/
def endScrub (g : Nat) (s : State) : State :=
  let s := modCooper (fun c => { c with
    scrubGroup := none, scrubBad := 0, scrubAsked := none, scrubFirst := c.scrubFirst.filter (fun x => x != g) }) s
  match getGroup s g with
  | none => s
  | some grp =>
    let s := (staleMembers grp).foldl (fun s mem =>
      if ((grp.chunk? mem).map (chunkUp s)).getD false then setMember g mem .ok 0 s else failStale g mem s) s
    let w := Tab.atD s.tabs.scrub g (0, 0)
    tidyQueue (groupFlags g (modTabs (fun t => { t with
      scrub := Tab.put g (bitsOf s.clk.now 61 30, w.2) t.scrub }) s))

/-- A bench that scrub read again is settled. -/
def scrubSettled (r : BenchRead) (s : State) : State :=
  if r.reader = .scrub ∧ s.cooper.scrubGroup = some r.group then
    let s := modCooper (fun c => { c with scrubBad := c.scrubBad - 1 }) s
    if s.cooper.scrubBad = 0 then endScrub r.group s else s
  else s

/-! ### Bench reads (R300, R301) -/

/-- The members present for a bench and not repair-listed. -/
def presentMembers (s : State) (g : Nat) (grp : Group) (b : Nat) : List Nat :=
  goodMembers s g grp b ++ suspectMembers s g grp b

/-- The members whose setts the second read of R301 takes: those that the first read took, STALE ones only for scrub or
when the others are short of k (log entry 148). -/
def againMembers (s : State) (r : BenchRead) (grp : Group) : List Nat :=
  let S := goodMembers s r.group grp r.bench
  if r.reader ≠ .scrub ∧ grp.k ≤ S.length then S else presentMembers s r.group grp r.bench

/-- A bench whose comparison differed is read again, once (R301). -/
def readAgain (r : BenchRead) (grp : Group) (failed : List Nat) (s : State) : State :=
  let s := modCooper (fun c => { c with reads := c.reads ++ [{ r with again := true, failed := failed }] }) s
  queueReads (readerFlow s r.reader) r.group grp r.bench settBytes (againMembers s r grp) s

/-- Further survivors are read in place of those that failed (R299, R314). -/
def readMore (r : BenchRead) (grp : Group) (failed : List Nat) (setts : List SettRead) (s : State) : State :=
  let s := modCooper (fun c => { c with reads := c.reads ++ [{ r with failed := failed }] }) s
  let ok := settsRead s r.group grp r.bench failed setts
  let rest := (presentMembers s r.group grp r.bench).filter (fun m =>
    let p := memberPos grp.size r.bench m
    (Tab.at? p ok).isNone && !decide (p ∈ failed))
  queueReads (readerFlow s r.reader) r.group grp r.bench settBytes (rest.take (grp.k - ok.length)) s

/-- Is a good bench decoded (R300): one with erasures over which a pass ran, whether or not it gave what was asked for? -/
def benchDecoded (s : State) (grp : Group) (r : BenchRead) (failed decoded : List Nat) (compared : Bool) : Bool :=
  let e := ((List.range grp.size).filter (settErased s r.group grp r.bench failed)).length
  !decoded.isEmpty || (decide (1 ≤ e) && decide (e ≤ grp.m) && (compared || r.whole))

/-- Counters of a good bench (R320). -/
def countGood (decoded compared : Bool) : State → State :=
  modCooper (fun c => { c with verified := c.verified + b2n compared, decoded := c.decoded + b2n decoded })

/-- The Assayer decides a bench that was read for the first time (R300). -/
def decideBench (r : BenchRead) (grp : Group) (setts : List SettRead) (s : State) : State :=
  let failed := dedup (r.failed ++ failedSetts setts)
  let v := judge s r.group grp r setts
  let lost := benchDecoded s grp r failed
  let s := dropRead r (countFailed r.group r.bench (failed.filter (fun p => !decide (p ∈ r.failed))) s)
  match v with
  | .good data decoded sure compared => deliverBench r data decoded sure (countGood (lost decoded compared) compared s)
  | .unrecoverable => loseBench r (settsRead s r.group grp r.bench failed setts) s
  | .mismatch => readAgain r grp failed s
  | .more => readMore r grp failed setts s

/-- A located sett (R301, R303): its repair entry, or its member MISSING when the table is full; WEIGHT_MISMATCH and the
event. -/
def noteLocated (g : Nat) (grp : Group) (b pos : Nat) (s : State) : State :=
  let mem := settMember grp.size b pos
  let c := (grp.chunk? mem).getD 0
  let s := if s.tabs.repair.length < 65536 then
      modTabs (fun t => { t with repair := t.repair ++ [⟨g, b, mem⟩] }) s
    else failStale g mem s
  let s := addTally c (cfgWeightMismatch s) (modCooper (fun x => { x with located := x.located + 1 }) s)
  event 0x4302 1 grp.volume (leBytes 4 g ++ leBytes 2 b ++ leBytes 1 mem ++ leBytes 4 c) s

/-- A mismatch that persists is located or poisons the bench (R301). `unread` says that comparisons remain. -/
def locateBench (r : BenchRead) (grp : Group) (ok : Tab Bytes) (e : Nat) (s : State) : State :=
  let found := if 2 ≤ grp.m - e then locate grp.k ok settBytes else none
  match found with
  | some pos =>
    let s := noteLocated r.group grp r.bench pos s
    let good := ok.filter (fun x => x.1 != pos)
    let d := decodeLost grp.k good r.need
    let d' := if r.reader = .rebuild then decodeLost grp.k good (List.range grp.size) else d
    deliverBench r d'.1 d'.2 (Tab.keys d'.1) (countGood true true s)
  | none =>
    let s := modCooper (fun x => { x with unlocated := x.unlocated + 1 }) s
    let s := addPoison { group := r.group, bench := r.bench, volume := grp.volume, owner := grp.owner, cause := 1 } s
    loseBench r ok s

/-! ### The queues of Cooper (R298) -/

/-- Does a reader's work draw on the background queue (R298)? -/
def Reader.back : Reader → Bool
  | .host .. | .destage .. => false
  | .merge .. | .scrub | .rebuild => true

/-- The queue of a pass: that of the work that asks for it, a location pass in that of the work that found the mismatch
(R298). -/
def Pass.back : Pass → Bool
  | .bench r _ | .again r _ | .locate r _ => r.reader.back
  | .scrub .. | .rebuild .. => true

/-- A pass joins its queue. -/
def enqueuePass (p : Pass) : State → State :=
  modCooper (fun c => if p.back then { c with back := c.back ++ [p] } else { c with fore := c.fore ++ [p] })

/-- The pass that Cooper takes next (R298): while both queues wait a foreground one, but after seven of them one of the
background queue. -/
def nextPass (c : Cooper) : Option (Pass × Cooper) :=
  match c.fore, c.back with
  | [], [] => none
  | f :: t, [] => some (f, { c with fore := t, streak := c.streak + 1 })
  | [], b :: t => some (b, { c with back := t, streak := 0 })
  | f :: ft, b :: bt =>
    if 7 ≤ c.streak then some (b, { c with back := bt, streak := 0 })
    else some (f, { c with fore := ft, streak := c.streak + 1 })

/-- The second read of a mismatching bench (R301). -/
def rereadBench (r : BenchRead) (grp : Group) (setts : List SettRead) (s : State) : State :=
  let failed := dedup (r.failed ++ failedSetts setts)
  let ok := settsRead s r.group grp r.bench failed setts
  let v := judge s r.group grp { r with whole := true } setts
  let lost := benchDecoded s grp { r with whole := true } failed
  let s := dropRead r (countFailed r.group r.bench (failed.filter (fun p => !decide (p ∈ r.failed))) s)
  match v with
  | .good data decoded sure compared =>
    let s := if compared then
        event 0x4301 0 grp.volume (leBytes 4 r.group ++ leBytes 2 r.bench)
          (modCooper (fun x => { x with transient := x.transient + 1 }) s)
      else s
    scrubSettled r (deliverBench r data decoded sure (countGood (lost decoded compared) compared s))
  | .mismatch => enqueuePass (.locate { r with failed := failed } setts) s
  | .unrecoverable => scrubSettled r (loseBench r ok s)
  | .more => readAgain r grp failed s

/-- A location pass (R301). -/
def locatePass (r : BenchRead) (grp : Group) (setts : List SettRead) (s : State) : State :=
  let e := ((List.range grp.size).filter (settErased s r.group grp r.bench r.failed)).length
  scrubSettled r (locateBench r grp (settsRead s r.group grp r.bench r.failed setts) e s)

/-! ### Scrub (R306, R307, R316, R319) -/

/-- May a group be scrubbed now: it holds data, and its volume can be deciphered (R294)? -/
def mayScrub (s : State) (g : Nat) : Bool :=
  match getGroup s g with
  | some grp => grp.holds && (match getVol s grp.volume with
    | some vol => cipherReady s grp.volume vol
    | none => false)
  | none => false

/-- The group that scrub takes next (R306): one marked by R316 or R319, else, while SCRUB_ENABLE is 1, the one with the
oldest SCRUBBED. A group with a STALE member is scrubbed whatever SCRUB_ENABLE says. -/
def nextScrub (s : State) : Option Nat :=
  let stale (g : Nat) : Bool := ((getGroup s g).map (fun x => !(staleMembers x).isEmpty)).getD false
  match s.cooper.scrubFirst.find? (fun g => mayScrub s g && (cfgScrubEnable s == 1 || stale g)) with
  | some g => some g
  | none =>
    if cfgScrubEnable s = 1 then
      (minBy (fun e => e.2.1) (s.tabs.scrub.filter (fun e => mayScrub s e.1))).map (fun e => e.1)
    else none

/-- The members whose setts scrub reads of a bench (R299, R316): STALE ones too. -/
def scrubMembers (s : State) (g : Nat) (grp : Group) (b : Nat) : List Nat :=
  goodMembers s g grp b ++ suspectMembers s g grp b

/-- Did the row bring every sett that scrub reads? -/
def scrubWhole (s : State) (g : Nat) (grp : Group) (benches : List (List SettRead)) : Bool :=
  benches.length == grp.fill && (benches.zip (List.range benches.length)).all (fun e =>
    (scrubMembers s g grp e.2).all (fun m => e.1.any (fun x => x.position == memberPos grp.size e.2 m)))

/-- The reads of a group's scrub join the queues of its drives, once (R280, R306). -/
def askScrub (g : Nat) (grp : Group) (s : State) : State :=
  if s.cooper.scrubAsked = some g then s
  else
    (List.range grp.fill).foldl (fun s b => queueReads (.background 4) g grp b settBytes (scrubMembers s g grp b) s)
      (modCooper (fun c => { c with scrubAsked := some g }) s)

/-- One bench of a scrub (R300, R307): a failed read of a STALE sett finds its member failed (R316), a mismatch is read
again. -/
def scrubBench (g : Nat) (grp : Group) (b : Nat) (setts : List SettRead) (s : State) : State :=
  let failed := failedSetts setts
  let r : BenchRead := { group := g, bench := b, whole := true, need := [], reader := .scrub, again := false, failed := [] }
  let v := judge s g grp r setts
  let lost := benchDecoded s grp r failed
  let s := countFailed g b failed s
  let s := (failed.map (settMember grp.size b)).foldl (fun s m =>
    if memberSuspect grp m && ((getGroup s g).map (fun x => memberSuspect x m)).getD false then failStale g m s else s) s
  let s := modCooper (fun c => { c with scrubbed := c.scrubbed + 1 }) s
  match v with
  | .mismatch => readAgain r grp failed (modCooper (fun c => { c with scrubGroup := some g, scrubBad := c.scrubBad + 1 }) s)
  | .good _ decoded _ compared => countGood (lost decoded compared) compared s
  | _ => s

/-- STALE_MEMBER_RETURN (R316). -/
def execStaleMemberReturn (g mem : Nat) (s : State) : Host.Outcome State Fault Refusal :=
  match getGroup s g with
  | some grp =>
    match grp.members[mem]? with
    | some m =>
      if serving s && grp.holds && m.state == .missing && chunkUp s m.chunk &&
          !decide ((g, mem) ∈ s.cooper.noReturn) then
        let s := queueRebuild g (setMember g mem .stale 3 s)
        finish (modCooper (fun c => { c with scrubFirst := if g ∈ c.scrubFirst then c.scrubFirst else c.scrubFirst ++ [g] }) s)
      else finish s
    | none => finish s
  | none => finish s

/-! ### Rebuild and relocation (R309 to R314) -/

/-- Fewer than k setts can be read: zeros are written and the bench is poisoned (R313). -/
def rebuildZeros (g b : Nat) (grp : Group) (s : State) : State :=
  let s := (rebuildsAt s g b).foldl (fun s r => writeRebuilt g b r.member (zeros settBytes) s) s
  addPoison { group := g, bench := b, volume := grp.volume, owner := grp.owner, cause := 2 } s

/-- The rebuild pass of a bench (R311 to R314). -/
def rebuildBench (g b : Nat) (grp : Group) (setts : List SettRead) (s : State) : State :=
  let failed := failedSetts setts
  let ok := settsRead s g grp b failed setts
  let unread := (presentMembers s g grp b).filter (fun m =>
    !(setts.any (fun e => e.position == memberPos grp.size b m)))
  let s := countFailed g b failed s
  if ok.length < grp.k then
    if unread.isEmpty then rebuildZeros g b grp s
    else queueReads (.background 0) g grp b settBytes (unread.take (grp.k - ok.length)) s
  else if cfgRebuildVerify s = 1 ∧ comparesEqual grp.k (ok.take (grp.k + 1)) settBytes = false then
    readAgain { group := g, bench := b, whole := true, reader := .rebuild, again := false, failed := []
                need := (rebuildsAt s g b).map (fun r => memberPos grp.size b r.member) } grp failed s
  else
    (rebuildsAt s g b).foldl (fun s r =>
      writeRebuilt g b r.member (gfPass grp.k (ok.take grp.k) (memberPos grp.size b r.member) settBytes) s) s

/-! ### Cooper's passes (R296 to R298) -/

/-- What a pass does when Cooper takes it; its group may be gone by then. -/
def runPass (p : Pass) (s : State) : State :=
  match p with
  | .bench r setts => match getGroup s r.group with
    | some grp => decideBench r grp setts s
    | none => s
  | .again r setts => match getGroup s r.group with
    | some grp => rereadBench r grp setts s
    | none => s
  | .locate r setts => match getGroup s r.group with
    | some grp => locatePass r grp setts s
    | none => s
  | .scrub g b setts => match getGroup s g with
    | some grp => scrubBench g grp b setts s
    | none => s
  | .rebuild g b setts => match getGroup s g with
    | some grp => rebuildBench g b grp setts s
    | none => s

/-- Cooper takes passes until its queues are empty (R298); each pass adds one location pass at most (log entry 161). -/
def servePasses : Nat → State → State
  | 0, s => s
  | n + 1, s => match nextPass s.cooper with
    | some (p, c) => servePasses n (runPass p { s with cooper := c })
    | none => s

/-- Passes join their queues, which are empty between commands (log entry 161), and Cooper serves them. -/
def pass (ps : List Pass) (s : State) : State :=
  let s := ps.foldl (fun s p => enqueuePass p s) (modCooper (fun c => { c with fore := [], back := [] }) s)
  servePasses (2 * (s.cooper.fore.length + s.cooper.back.length)) s

/-- BENCH_READ_DONE (R300): the setts of a bench arrive for its first reader. Those of an encrypted volume wait for its key and
the lanes (R294). -/
def execBenchReadDone (g b : Nat) (setts : List SettRead) (s : State) : Host.Outcome State Fault Refusal :=
  match getGroup s g, s.cooper.reads.find? (fun r => r.group == g && r.bench == b && !r.again) with
  | some grp, some r =>
    if dataRuns s && groupReady s grp then
      finish (pass [.bench r (openSetts s grp b setts)] (openPasses grp setts.length s))
    else finish s
  | _, _ => finish s

/-- MISMATCH_REREAD (R301). -/
def execMismatchReread (g b : Nat) (setts : List SettRead) (s : State) : Host.Outcome State Fault Refusal :=
  match getGroup s g, s.cooper.reads.find? (fun r => r.group == g && r.bench == b && r.again) with
  | some grp, some r =>
    if dataRuns s && groupReady s grp then
      finish (pass [.again r (openSetts s grp b setts)] (openPasses grp setts.length s))
    else finish s
  | _, _ => finish s

/-- SCRUB_GROUP (R306): the group that is next is read, and verified whole when its setts have come. -/
def execScrubGroup (benches : List (List SettRead)) (s : State) : Host.Outcome State Fault Refusal :=
  match (nextScrub s).bind (fun g => (getGroup s g).map (fun grp => (g, grp))) with
  | some (g, grp) =>
    if serving s && s.cooper.scrubGroup.isNone then
      if scrubWhole s g grp benches then
        let ps := (benches.zip (List.range benches.length)).map (fun e => Pass.scrub g e.2 (openSetts s grp e.2 e.1))
        let s := pass ps (openPasses grp (sumNat (benches.map (fun e => e.length))) s)
        finish (if s.cooper.scrubBad = 0 then endScrub g s else s)
      else finish (askScrub g grp s)
    else finish s
  | none => finish s

/-- REBUILD_BENCH (R311). -/
def execRebuildBench (g b : Nat) (setts : List SettRead) (s : State) : Host.Outcome State Fault Refusal :=
  match getGroup s g with
  | some grp =>
    match getVol s grp.volume with
    | some vol =>
      if serving s && decide (g ∈ rebuilding s) && cipherReady s grp.volume vol && !(rebuildsAt s g b).isEmpty &&
          !(s.cooper.reads.any (fun r => r.group == g && r.bench == b && r.reader == .rebuild)) then
        finish (pass [.rebuild g b (openSetts s grp b setts)] (openPasses grp setts.length s))
      else finish s
    | none => finish s
  | none => finish s

/-- A member's rebuild or relocation ends (R309, R310). -/
def completeMember (g mem : Nat) (s : State) : State :=
  let s := setMember g mem .ok 0 s
  let s := modCooper (fun c => { c with
    rebuilds := c.rebuilds.filter (fun r => !(r.group == g && r.member == mem))
    rebuildsDone := c.rebuildsDone + 1, noReturn := c.noReturn.filter (fun e => e != (g, mem)) }) s
  groupFlags g s

/-- REBUILD_COMPLETE (R310): every bench below CURSOR is on media. -/
def execRebuildComplete (g mem : Nat) (s : State) : Host.Outcome State Fault Refusal :=
  match findRebuild s g mem with
  | some r =>
    if serving s && !r.copy && decide (r.cursor ≤ rebuiltTo s r) then finish (completeMember g mem s) else finish s
  | none => finish s

/-- The bench that a relocation comes to next is reconstructed instead of copied (R309). -/
def copyFails (g mem : Nat) : State → State := modCooper (fun c => { c with
  rebuilds := c.rebuilds.map (fun r => if r.group = g ∧ r.member = mem then { r with decode := true } else r) })

/-- A sett of the old chunk deciphered (R294, R459). -/
def openCopy (s : State) (g : Nat) (r : Rebuild) (x : SettResult) : SettResult :=
  match getGroup s g with
  | some grp => SettResult.opened (settCipher Config.xtsDecrypt s grp r.oldChunk r.progress) x
  | none => x

/-- Its pass through a lane. -/
def copyPass (g : Nat) (s : State) : State :=
  match getGroup s g with
  | some grp => settPass grp s
  | none => s

/-- The results of the copy reads, from the first bench not copied on (R308, R309): a sett that was read goes to the
replacement; one that failed, or is repair-listed, waits for a rebuild pass. -/
def copySetts (g mem : Nat) : List SettResult → State → State
  | [], s => s
  | x :: t, s =>
    match findRebuild s g mem with
    | none => s
    | some r =>
      if r.decode || decide (r.cursor ≤ r.progress) then s
      else if repairEntry s g r.progress mem then copyFails g mem s
      else match openCopy s g r x with
        | .good data => copySetts g mem t (writeRebuilt g r.progress mem data (copyPass g s))
        | .recovered data => copySetts g mem t (writeRebuilt g r.progress mem data (copyPass g s))
        | .failed => copyFails g mem (addTally r.oldChunk (cfgWeightUnrecovered s) s)

/-- The next bench of the old chunk is read, once (R280, R309). -/
def askCopy (r : Rebuild) (s : State) : State :=
  match chunkDrive s r.oldChunk with
  | some d =>
    if (liveOps s d).any (fun o => o.what == .copySett r.oldChunk r.progress) then s
    else enqueueOp d (.background 0) settBytes (.copySett r.oldChunk r.progress) s
  | none => s

/-- A relocation goes on: it ends once every bench is on media, with MEMBER_STATE OK, and the old chunk becomes RETIRED; else
its next bench is reconstructed if it is repair-listed or cannot be read, or read (R309). -/
def copyStep (r : Rebuild) (s : State) : State :=
  if r.cursor ≤ rebuiltTo s r then releaseChunk r.oldChunk (dropRepairs r.group r.member (completeMember r.group r.member s))
  else if r.decode || decide (r.cursor ≤ r.progress) then s
  else if repairEntry s r.group r.progress r.member || !chunkUp s r.oldChunk then copyFails r.group r.member s
  else askCopy r s

/-- RELOCATION_COPY (R309): what the reads of the old chunk brought is written to the replacement, bench by bench. -/
def execRelocationCopy (g : Nat) (reads : CopyReads) (s : State) : Host.Outcome State Fault Refusal :=
  let mem := reads.member
  match findRebuild s g mem, getGroup s g with
  | some r, some grp =>
    let ready := match getVol s grp.volume with
      | some vol => cipherReady s grp.volume vol
      | none => false
    let written := ((grp.chunk? mem).map (fun c => !(getChunk s c).hdrPending)).getD false
    if serving s && r.copy && ready && written && decide (g ∈ rebuilding s) then
      let s := copySetts g mem reads.setts s
      match findRebuild s g mem with
      | some r => finish (copyStep r s)
      | none => finish s
    else finish s
  | _, _ => finish s

/-- ERR_DECAY_SWEEP (R308). -/
def execErrDecaySweep (s : State) : Host.Outcome State Fault Refusal :=
  if serving s then
    finish (modTabs (fun t => { t with
      chunks := t.chunks.map (fun e => (e.1, { e.2 with errTally := e.2.errTally / 2 })) }) s)
  else finish s

/-! ### Known-answer tests (R317, R318) -/

/-- A passing run. -/
def katPass (s : State) : State :=
  modCooper (fun c => { c with katResult := 1, katLastPass := s.clk.now, katPending := false }) s

/-- The second failure of a test (R318). -/
def katFail (test : Nat) (s : State) : State :=
  let s := modCooper (fun c => { c with failed := true, katResult := 2, katPending := false }) s
  enterDump .coderKat (event 0x4305 2 0 (leBytes 1 test) (addFault .coderKat s))

/-- A write to KAT_RUN (R317, R318). -/
def katRun (v : KatVerdict) (s : State) : Nat × State :=
  if s.pw.state = .standby ∨ s.pw.state = .dump then (stBusy, s)
  else if v.first || v.second then (stSuccess, katPass s)
  else (stSelftest, katFail v.test s)

/-- KAT_INTERVAL_EXPIRY (R317): the tests run; a failure waits for its repetition. -/
def execKatIntervalExpiry (v : KatVerdict) (s : State) : Host.Outcome State Fault Refusal :=
  if serving s then
    if v.first then finish (katPass s) else finish (modCooper (fun c => { c with katPending := true }) s)
  else finish s

/-- KAT_REPEAT (R318). -/
def execKatRepeat (v : KatVerdict) (s : State) : Host.Outcome State Fault Refusal :=
  if serving s && s.cooper.katPending then
    if v.second then finish (katPass s) else finish (katFail v.test s)
  else finish s

end Sys2Proof.Machine
end

