-- ==== Sys2Proof/Machine/HostPort.lean ====
section
/-! DEFINITION. Host ports (03): link, resets, hold and quarantine, completions and timeouts, interrupts, configuration
space and registers. -/

namespace Sys2Proof.Machine

/-! ### Link and resets (R73, R74, R80, R86, R103, R104, R106) -/

/-- Are the host ports out of reset (R59, R66, R110)? A START releases them at step 6; STANDBY and OFF hold them. -/
def portsRun (s : State) : Bool :=
  s.pw.rails &&
    match s.pw.state with
    | .off | .standby => false
    | .start => decide (5 ≤ s.pw.startStep)
    | .service | .throttle | .learn | .dump => true

/-- Has a port left reset for the link: released by START, enabled, PERST_N high, its PHY sound (R25, R59, R66, R110)? -/
def mayTrain (s : State) (p : PortId) : Bool :=
  portsRun s && cfgPortEnable s p.val == 1 && !(s.ports.get p).link.perst && !decide (p.val ∈ s.pw.portsFailed)

/-- Is this a rate and a width at which the port may train (R73, R74, R110)? No training without the even-numbered cable
(R25), which carries PERST_N and the reference clock; a width of x16 takes the odd-numbered one too (R24). -/
def linkOk (s : State) (p : PortId) (rate width : Nat) (flit : Bool) (cables : Cables) : Bool :=
  cables.even && decide (1 ≤ rate) && decide (rate ≤ 6) && decide (rate ≤ cfgMaxRate s p.val) &&
    isPow2 width && decide (width ≤ 16) && decide (width ≤ cfgMaxWidth s p.val) && (width != 16 || cables.odd) &&
    (rate != 6 || flit) && (!flit || decide (3 ≤ rate))

/-- The link trains, with the reference clock mode that REFCLK_MODE has at this training (R54). -/
def trainLink (p : PortId) (rate width : Nat) (flit : Bool) (cables : Cables) (s : State) : State :=
  modPort p (fun q => { q with link := { q.link with
    up := true, rate := rate, width := width, flit := flit, surprise := false, trained := true
    evenCable := cables.even, oddCable := cables.odd, refclk := cfgRefclkMode s p.val } }) s

/-- The link is gone, and with it INTA as the host saw it. -/
def dropLink (p : PortId) : State → State :=
  modPort p (fun q => { q with
    inta := false, link := { q.link with up := false, rate := 0, width := 0, flit := false } })

/-- HOST_LINK_UP (R73, R74, R86). -/
def execHostLinkUp (p : PortId) (rate width : Nat) (flit : Bool) (cables : Cables) (s : State) :
    Host.Outcome State Fault Refusal :=
  let l := (s.ports.get p).link
  if !l.up && !l.surprise && mayTrain s p && linkOk s p rate width flit cables then
    finish (trainLink p rate width flit cables s)
  else finish s

/-- SURPRISE_LINK_DOWN (R103, R106): a containment event that discards the rings and configuration. From D3hot it is an
orderly link down, and during a test of the port's PHY it is none (R544). -/
def execSurpriseLinkDown (p : PortId) (s : State) : Host.Outcome State Fault Refusal :=
  let q := s.ports.get p
  if !q.link.up then finish s
  else if q.cfg.d3hot || portTestOn s p then finish (portReset p (dropLink p s))
  else
    let s := resetFunction p (contain p 3 false (dropLink p s))
    finish (modPort p (fun q => { q with link := { q.link with surprise := true } }) s)

/-- HOT_INSERT (R87, R106): the link trains again after surprise link loss, over the cables that are present then. -/
def execHotInsert (p : PortId) (rate width : Nat) (x : Retrained) (s : State) : Host.Outcome State Fault Refusal :=
  let l := (s.ports.get p).link
  if !l.up && l.surprise && mayTrain s p && linkOk s p rate width x.flit x.cables then
    finish (contain p 4 true (trainLink p rate width x.flit x.cables s))
  else finish s

/-- PERST_N_ASSERT (R103). A test of the port ends (R544). -/
def execPerstNAssert (p : PortId) (s : State) : Host.Outcome State Fault Refusal :=
  let s := portReset p (dropLink p (abortTestOn (p.val + 1) 3 s))
  finish (modPort p (fun q => { q with link := { q.link with perst := true } }) s)

/-- PERST_N_DEASSERT (R25): the port may train. -/
def execPerstNDeassert (p : PortId) (s : State) : Host.Outcome State Fault Refusal :=
  finish (modPort p (fun q => { q with link := { q.link with perst := false } }) s)

/-- HOT_RESET (R103): a hot reset, or an orderly link down, of which the link does not come back by itself. -/
def execHotReset (p : PortId) (linkDown : Bool) (s : State) : Host.Outcome State Fault Refusal :=
  if (s.ports.get p).link.up then
    let s := abortTestOn (p.val + 1) 3 s
    finish (portReset p (if linkDown then dropLink p s else modPort p (fun q => { q with inta := false }) s))
  else finish s

/-- FLR (R103, R104). -/
def execFlr (p : PortId) (s : State) : Host.Outcome State Fault Refusal :=
  if (s.ports.get p).link.up then finish (portReset p (abortTestOn (p.val + 1) 3 s)) else finish s

/-- BUS_MASTER_CLEAR (R101, R103). -/
def execBusMasterClear (p : PortId) (s : State) : Host.Outcome State Fault Refusal :=
  let q := s.ports.get p
  if q.link.up && q.cfg.busMaster then
    finish (modPort p (fun q => { q with cfg := { q.cfg with busMaster := false } }) (hold p true s))
  else finish s

/-- BUS_MASTER_SET (R86): the hold ends; its rings stay stopped. -/
def execBusMasterSet (p : PortId) (s : State) : Host.Outcome State Fault Refusal :=
  if (s.ports.get p).link.up then
    finish (sendAgain p (modPort p (fun q => { q with cfg := { q.cfg with busMaster := true } }) s))
  else finish s

/-- D3HOT_ENTRY (R80). -/
def execD3hotEntry (p : PortId) (s : State) : Host.Outcome State Fault Refusal :=
  let q := s.ports.get p
  if q.link.up && !q.cfg.d3hot then
    finish (modPort p (fun q => { q with cfg := { q.cfg with d3hot := true } }) (hold p true s))
  else finish s

/-- D3HOT_EXIT (R80): the function is reset as an FLR resets it. -/
def execD3hotExit (p : PortId) (s : State) : Host.Outcome State Fault Refusal :=
  let q := s.ports.get p
  if q.link.up && q.cfg.d3hot then finish (portReset p (abortTestOn (p.val + 1) 3 s)) else finish s

/-! ### Errors, completions and timeouts (R96 to R100, R102, R105, R106) -/

/-- A request is outstanding no more. -/
def answerReq (p : PortId) (tag : Nat) : State → State :=
  modPort p (fun q => { q with reqs := Tab.del q.reqs tag, quarTags := q.quarTags.filter (fun t => t != tag) })

/-- POISONED_TLP (R106): a write, or a completion, is dropped and the port contained. -/
def execPoisonedTlp (p : PortId) (completionTag : Option Nat) (s : State) : Host.Outcome State Fault Refusal :=
  let s := match completionTag with
    | some t => answerReq p t s
    | none => s
  finish (contain p 0 true s)

/-- MALFORMED_TLP (R106): a malformed TLP, or an ECRC check failure. -/
def execMalformedTlp (p : PortId) (_ecrc : Bool) (s : State) : Host.Outcome State Fault Refusal :=
  finish (contain p 1 true s)

/-- KIND of event 0x2102 (R534). -/
def ReqKind.code : ReqKind → Nat
  | .ring _ _ => 1
  | .data _ _ => 2
  | .echo _ _ => 3

/-- What a timeout does to what it fetched (R97, R155): a ring counts it, and faults at the third in a row; a command
fails with HOST_FETCH_TIMEOUT and gives up its slots. `write` says that its record may be written now. -/
def timedOut (write : Bool) (p : PortId) (k : ReqKind) (len : Nat) (s : State) : State :=
  match k with
  | .ring r off =>
    let s := modRing p r (fun x => { x with timeouts := x.timeouts + 1, retry := x.retry ++ [(off, len)] }) s
    if 3 ≤ (getRing s p r).timeouts ∧ (getRing s p r).state = .running then
      ringFault p r 5 (modRing p r (fun x => { x with retry := [] }) s)
    else s
  | .data c _ | .echo c _ => endCmd write p c ⟨stFetchTimeout, 0, 0⟩ (cancelSlots p c s)

/-- The timeouts of a port that lie within 100 ms before now (R100). -/
def recentTimeouts (s : State) (q : Port) : List Nat := q.ctoTimes.filter (fun t => decide (s.clk.uptime ≤ t + 100000000))

/-- COMPLETION_TIMEOUT (R97, R99, R100, R105). -/
def execCompletionTimeout (p : PortId) (tag : Nat) (s : State) : Host.Outcome State Fault Refusal :=
  match Tab.at? tag (s.ports.get p).reqs with
  | none => finish s
  | some r =>
    let s := modPort p (fun q => { q with
      reqs := Tab.del q.reqs tag, withheld := q.withheld ++ [tag], cto := q.cto + 1
      ctoTimes := if r.held then q.ctoTimes else recentTimeouts s q ++ [s.clk.uptime] }) s
    let s := event 0x2102 0 p.val (leBytes 2 tag ++ leBytes 8 r.addr ++ leBytes 1 r.kind.code ++ leBytes 1 (b2n r.held)) s
    let n := cfgCtoThreshold s p.val
    let limit := !r.held && n != 0 && decide (n ≤ (recentTimeouts s (s.ports.get p)).length)
    let s := if r.dropped then s else timedOut (!limit) p r.kind r.len s
    finish (pump p (if limit then contain p 2 true s else s))

/-- UNEXPECTED_COMPLETION (R98). -/
def execUnexpectedCompletion (p : PortId) (tag : Nat) (s : State) : Host.Outcome State Fault Refusal :=
  if (Tab.at? tag (s.ports.get p).reqs).isSome || !(s.ports.get p).link.up then finish s
  else
    let s := modPort p (fun q => { q with unexp := q.unexp + 1 }) s
    finish (event 0x2103 0 p.val (leBytes 2 tag) (sendTlp p .unexpectedCompletion s))

/-- What a completed read brings (R102, R131, R158, R180): ring bytes, or a part of a transfer, whose last byte ends the
transfer. `data` are all the bytes of the read. -/
def readArrives (p : PortId) (tag : Nat) (data : Bytes) (s : State) : State :=
  match Tab.at? tag (s.ports.get p).reqs with
  | none => s
  | some r =>
    let s := answerReq p tag s
    if r.dropped then s
    else
      let b := fit r.len data
      match r.kind with
      | .ring n off =>
        pump p (modRing p n (fun x => { x with
          timeouts := 0
          granules := (List.range (r.len / 64)).foldl (fun g k =>
            Tab.put (off / 64 + k) ⟨slice b (64 * k) 64, false⟩ g) x.granules }) s)
      | .data c off => pump p (writeEnd p c (modCmd p c (fun d => { d with data := Tab.put off b d.data }) s))
      | .echo c off => pump p (echoEnd p c (modCmd p c (fun d => { d with data := Tab.put off b d.data }) s))

/-- HOST_READ_COMPLETION (R102, R131). -/
def execHostReadCompletion (p : PortId) (tag : Nat) (data : Bytes) (s : State) : Host.Outcome State Fault Refusal :=
  finish (readArrives p tag data s)

/-- Is a read the last that a write still waits for? -/
def lastRead (s : State) (p : PortId) (tag : Nat) : Bool :=
  match Tab.at? tag (s.ports.get p).reqs with
  | some r =>
    match r.kind with
    | .data c _ =>
      !r.dropped && ((findCmd s p c).map (fun d => d.todo.isEmpty)).getD false &&
        ((s.ports.get p).reqs.filter (fun e => match e.2.kind with
          | .data d _ => d == c
          | _ => false)).length == 1
    | _ => false
  | none => false

/-- WRITE_DATA_END (R154, R180): the last data byte of a write arrives. -/
def execWriteDataEnd (p : PortId) (tag : Nat) (data : Bytes) (s : State) : Host.Outcome State Fault Refusal :=
  if lastRead s p tag then finish (readArrives p tag data s) else finish s

/-- TAG_WITHHOLD_EXPIRY (R99): twice the timeout has passed, the tag is free again. -/
def execTagWithholdExpiry (p : PortId) (tag : Nat) (s : State) : Host.Outcome State Fault Refusal :=
  finish (pump p (modPort p (fun q => { q with
    withheld := q.withheld.filter (fun t => t != tag), quarTags := q.quarTags.filter (fun t => t != tag) }) s))

/-! ### Release (R87, R108, R109) -/

/-- A release: accepted, or BUSY (R109). -/
def releasePort (p : PortId) (s : State) : Nat × State :=
  let q := s.ports.get p
  if q.state = .quarantined ∧ q.cause = 0#32 ∧ q.link.up = true then
    (stSuccess, modPort p (fun q => { q with state := .releasing }) s)
  else (stBusy, s)

/-- PORT_CAUSE bits are cleared by writing 1 (R87, R110). -/
def clearCause (p : PortId) (v : BitVec 32) : State → State := modPort p (fun q => { q with cause := q.cause &&& ~~~v })

/-- RELEASE_COMPLETE (R108): every tag outstanding at entry was answered or has served its wait. -/
def execReleaseComplete (p : PortId) (s : State) : Host.Outcome State Fault Refusal :=
  let q := s.ports.get p
  if q.state == .releasing && q.quarTags.isEmpty then
    finish (pump p (sendAgain p (modPort p (fun q => { q with state := .active }) s)))
  else finish s

/-! ### Interrupts (R89 to R91, R115) -/

/-- INT_PENDINGn is written (R85, R91): ones clear. -/
def clearPending (p : PortId) (index : Nat) (v : Nat) (s : State) : State :=
  putPending p ((s.ports.get p).intPending &&& ~~~(BitVec.ofNat 256 (v * 2 ^ (32 * index)))) s

/-- INT_PENDING_CLEAR (R91). -/
def execIntPendingClear (p : PortId) (index : Fin 8) (v : BitVec 32) (s : State) : Host.Outcome State Fault Refusal :=
  if barOpen s p then finish (clearPending p index.val v.toNat s) else finish s

/-- A mask bit of the MSI-X table is cleared: a message that it held is sent once (R90). -/
def unmask (p : PortId) (v : Nat) (s : State) : State :=
  sendHeld p (modPort p (fun q =>
    if v ∈ q.msixUnmasked then q else { q with msixUnmasked := q.msixUnmasked ++ [v] }) s)

/-- MSIX_UNMASK (R90). -/
def execMsixUnmask (p : PortId) (v : Nat) (s : State) : Host.Outcome State Fault Refusal :=
  if barOpen s p && decide (v < 2048) then finish (unmask p v s) else finish s

/-- COALESCE_TIMER_EXPIRY (R115, R116): TIME has run out since the first record not signalled. -/
def execCoalesceTimerExpiry (p : PortId) (r : Nat) (s : State) : Host.Outcome State Fault Refusal :=
  let x := getRing s p r
  if x.coal != 0 && x.coalTime != 0 && (s.ports.get p).maySend then
    finish (sendMsg p x.vector (modRing p r (fun x => { x with coal := 0 }) s))
  else finish s

/-! ### Configuration space (R75, R81, R89, R92, R96) -/

/-- A 64-bit BAR with its lower half written; bits below `lo` of the half are fixed (R81). -/
def barLower (old v lo : Nat) : Nat := old / 2 ^ 32 * 2 ^ 32 + v / 2 ^ lo * 2 ^ lo

/-- A 64-bit BAR with its upper half written (R81). -/
def barUpper (old v : Nat) : Nat := old % 2 ^ 32 + v * 2 ^ 32

/-- A field of configuration space takes the value written, in the coding of the base specification. -/
def writeField (c : PortCfg) (f : ConfigField) (v : Nat) : PortCfg :=
  match f with
  | .msixEnable => { c with msixEnable := bit v 0 }
  | .msixFunctionMask => { c with msixFunctionMask := bit v 0 }
  | .msiMask => { c with msiMask := BitVec.ofNat 32 v }
  | .msiEnable => { c with msiEnable := bit v 0 }
  | .msiVectors => { c with msiVectors := 2 ^ min 5 (v % 8) }
  | .interruptDisable => { c with interruptDisable := bit v 0 }
  | .completionTimeoutValue => { c with cplTimeout := v % 16 }
  | .extendedTag => { c with extTag := bit v 0 }
  | .tag10 => { c with tag10 := bit v 0 }
  | .tag14 => { c with tag14 := bit v 0 }
  | .maxPayloadSize => { c with mps := min 512 (128 * 2 ^ (v % 8)) }
  | .maxReadRequestSize => { c with mrrs := min 4096 (128 * 2 ^ (v % 8)) }
  | .relaxedOrdering => { c with relaxedOrd := bit v 0 }
  | .idoRequest => { c with ido := bit v 0 }
  | .bar0Lower => { c with bar0 := barLower c.bar0 v 26 }
  | .bar0Upper => { c with bar0 := barUpper c.bar0 v }
  | .bar2Lower => { c with bar2 := barLower c.bar2 v 24 }
  | .bar2Upper => { c with bar2 := barUpper c.bar2 v }

/-- CONFIG_WRITE (R89): it takes effect for the next request or message. -/
def execConfigWrite (p : PortId) (f : ConfigField) (v : BitVec 32) (s : State) : Host.Outcome State Fault Refusal :=
  let q := s.ports.get p
  if q.link.up then
    finish (pump p (sendAgain p (modPort p (fun q => { q with cfg := writeField q.cfg f v.toNat }) s)))
  else finish s

/-! ### Registers of BAR0 (R82, R84, R85, R113 to R117, R129, R134) -/

/-- A 4-byte write to the port register block (R85). -/
def writePortReg (p : PortId) (off v : Nat) (s : State) : State :=
  if off = 0x08 then clearCause p (BitVec.ofNat 32 v) s
  else if off = 0x0C then (if bit v 0 then (releasePort p s).2 else s)
  else if 0x40 ≤ off ∧ off < 0x60 then clearPending p ((off - 0x40) / 4) v s
  else s

/-- A 4-byte write to a ring's control block (R113 to R117). -/
def writeRingReg (p : PortId) (r off v : Nat) (s : State) : State :=
  let free := (getRing s p r).state == .none
  if off = 0x00 then
    if free then modRing p r (fun x => { x with base := x.base / 2 ^ 32 * 2 ^ 32 + v / 4096 * 4096 }) s else s
  else if off = 0x04 then
    if free then modRing p r (fun x => { x with base := x.base % 2 ^ 32 + v * 2 ^ 32 }) s else s
  else if off = 0x08 then
    let s := modRing p r (fun x => { x with irqEn := bit v 19 }) s
    if free then
      modRing p r (fun x => { x with
        sizeLog2 := bitsOf v 4 0, vector := bitsOf v 18 8, pushRing := bit v 20, notice := bit v 21 }) s
    else s
  else if off = 0x0C then modRing p r (fun x => { x with coalCount := bitsOf v 7 0, coalTime := bitsOf v 23 8 }) s
  else if off = 0x10 then ringCommand p r (bitsOf v 2 0) s
  else s

/-- A 4-byte write to the MSI-X table (R82): address and data words, and the mask bit of an entry. -/
def writeMsix (p : PortId) (off v : Nat) (s : State) : State :=
  let n := off / 16
  if off % 16 = 12 then
    if bit v 0 then modPort p (fun q => { q with msixUnmasked := q.msixUnmasked.filter (fun e => e != n) }) s
    else unmask p n s
  else modPort p (fun q => { q with msixWords := Tab.putD q.msixWords (off / 4) v 0 }) s

/-- A 4-byte write to BAR0 (R82); reserved offsets ignore it (R84). -/
def writeBar0 (p : PortId) (off v : Nat) (s : State) : State :=
  if off < 0x10000 then writePortReg p off v s
  else if off < 0x20000 then writeRingReg p ((off - 0x10000) / 256) (off % 256) v s
  else if 0x100000 ≤ off ∧ off < 0x200000 then
    let r := (off - 0x100000) / 4096
    if off % 4096 = 0 then ringDoorbell p r (Pos.ofWord v) s
    else if 0x100 ≤ off % 4096 ∧ off % 4096 < 0x200 then pushWrite p r (off % 4096 - 0x100) (leBytes 4 v) s
    else s
  else if 0x200000 ≤ off ∧ off < 0x208000 then writeMsix p (off - 0x200000) v s
  else s

end Sys2Proof.Machine
end

