-- ==== Sys2Proof/Machine/ConfigSpace.lean ====
section
/-! DEFINITION. What a host reads from a port: configuration space (R77 to R81) and the BARs (R82 to R87, R94, R113 to R118,
R498, R499, R528). The command table has one command that reads, BAR_BAD_ACCESS; a read of a good register is defined
here for every offset all the same (log entry 158). -/

namespace Sys2Proof.Machine

/-! ### Configuration space (R77 to R81) -/

/-- The header of a capability: its ID, and the offset of the next one (R78; the IDs are those of the base specification,
log entry 159). -/
def capHead (id next control : Nat) : Nat := id + next * 2 ^ 8 + control * 2 ^ 16

/-- The header of an extended capability: ID, version and the offset of the next one (R78; log entry 159). -/
def extHead (id version next : Nat) : Nat := id + version * 2 ^ 16 + next * 2 ^ 20

/-- The lower half of a BAR as it reads back: the address bits that can be written, and the type bits (R81). -/
def barLow (addr type : Nat) : Nat := addr % 2 ^ 32 + type

/-- The Type 0 header of a port (R77, R79, R81). None: a field that the model does not hold. -/
def headerRead (c : PortCfg) (off : Nat) : Option Nat :=
  match off with
  | 0x00 => some (0x1F7A + 0x4800 * 2 ^ 16)
  | 0x08 => some (Config.stepping % 256 + 0x018000 * 2 ^ 8)
  | 0x0C => some 0
  | 0x10 => some (barLow c.bar0 0x4)
  | 0x14 => some (c.bar0 / 2 ^ 32)
  | 0x18 => some (barLow c.bar2 0xC)
  | 0x1C => some (c.bar2 / 2 ^ 32)
  | 0x20 | 0x24 => some 0
  | 0x2C => some (0x1F7A + (if Config.isE then 2 else 1) * 2 ^ 16)
  | 0x30 => some 0
  | 0x34 => some 0x40
  | 0x3C => some (1 * 2 ^ 8)
  | _ => none

/-- The code of a size of 128 × 2^n bytes in Device Control. -/
def sizeCode (n : Nat) : Nat := (n / 128).log2

/-- The PCI Express capability at 0x70 (R74, R75, R78): endpoint, 512 bytes, Extended Tag, Function Level Reset, 64 GT/s, x16,
no ASPM, Completion Timeout Ranges A to D and no disable, 10-Bit Tags. -/
def pcieCapRead (q : Port) (off : Nat) : Option Nat :=
  let c := q.cfg
  match off with
  | 0x70 => some (capHead 0x10 0xB0 0x0002)
  | 0x74 => some (2 + 2 ^ 5 + 2 ^ 15 + 2 ^ 28)
  | 0x78 => some (b2n c.relaxedOrd * 2 ^ 4 + sizeCode c.mps * 2 ^ 5 + b2n c.extTag * 2 ^ 8 + sizeCode c.mrrs * 2 ^ 12)
  | 0x7C => some (6 + 16 * 2 ^ 4)
  | 0x80 => some ((q.link.rate + q.link.width * 2 ^ 4) * 2 ^ 16)
  | 0x94 => some (0xF + 2 ^ 16 + 2 ^ 17)
  | 0x98 => some (c.cplTimeout + b2n c.ido * 2 ^ 8 + b2n c.tag10 * 2 ^ 12)
  | 0x9C => some (0x3F * 2)
  | _ => none

/-- The capabilities of R78 below 0x100. -/
def capRead (q : Port) (off : Nat) : Option Nat :=
  let c := q.cfg
  match off with
  | 0x40 => some (capHead 0x01 0x50 0x0003)
  | 0x44 => some (if c.d3hot then 3 else 0)
  | 0x50 => some (capHead 0x05 0x70 (b2n c.msiEnable + 5 * 2 + c.msiVectors.log2 * 2 ^ 4 + 2 ^ 7 + 2 ^ 8))
  | 0x60 => some c.msiMask.toNat
  | 0x64 => some q.msiPending.toNat
  | 0xB0 => some (capHead 0x11 0 (2047 + b2n c.msixFunctionMask * 2 ^ 14 + b2n c.msixEnable * 2 ^ 15))
  | 0xB4 => some 0x00200000
  | 0xB8 => some 0x00210000
  | _ => pcieCapRead q off

/-- The extended capabilities of R78. -/
def extCapRead (q : Port) (off : Nat) : Option Nat :=
  match off with
  | 0x100 => some (extHead 0x0001 2 0x148)
  | 0x118 => some (2 ^ 5 + 2 ^ 7)
  | 0x148 => some (extHead 0x0003 1 0x158)
  | 0x14C => some (Config.pcieSerial % 2 ^ 32)
  | 0x150 => some (Config.pcieSerial / 2 ^ 32 % 2 ^ 32)
  | 0x158 => some (extHead 0x0019 1 0x188)
  | 0x188 => some (extHead 0x0025 1 0x198)
  | 0x198 => some (extHead 0x0026 1 0x1C8)
  | 0x1C8 => some (extHead 0x002A 1 0x1F8)
  | 0x1F8 => some (extHead 0x0031 1 0x218)
  | 0x218 => some (extHead 0x0027 1 0x260)
  | 0x260 => some (extHead 0x002F 1 0x270)
  | 0x264 => some (2 ^ 1 + 2 ^ 2)
  | 0x268 => some (b2n q.cfg.tag14 * 2 ^ 2)
  | 0x270 => some (extHead 0x0032 1 0)
  | _ => none

/-- A configuration read of 4 bytes (R77 to R81). Command and Status are composed of the fields the model holds. None: a
field that the spec leaves to the base specification and that the model does not hold. -/
def configRead (s : State) (p : PortId) (off : Nat) : Option Nat :=
  let q := s.ports.get p
  if off = 0x04 then some (b2n q.cfg.busMaster * 2 ^ 2 + b2n q.cfg.interruptDisable * 2 ^ 10 + 2 ^ 20)
  else if off < 0x40 then headerRead q.cfg off
  else if off < 0x100 then capRead q off
  else extCapRead q off

/-! ### BAR0 (R82, R84 to R87, R113 to R118) -/

/-- PORT_STATE (R86). -/
def portStateWord (s : State) (p : PortId) : Nat :=
  let q := s.ports.get p
  let st : Nat := match q.state with
    | .active => 1
    | .quarantined => 2
    | .releasing => 3
  let stopped := (ringsOf s p).any (fun r => (getRing s p r).state == .stopped)
  st + 4 * b2n q.isHeld + 8 * b2n stopped + 16 * q.link.rate + 128 * q.link.width + 4096 * b2n q.link.flit +
    8192 * q.tagMode

/-- A counter as its 32-bit copy in BAR0 shows it: saturated (R85, R110). -/
def saturate32 (n : Nat) : Nat := min n 0xFFFFFFFF

/-- A 4-byte read of the port register block (R85). PORT_RELEASE is write-only. -/
def portRegRead (s : State) (p : PortId) (off : Nat) : Nat :=
  let q := s.ports.get p
  if off = 0x00 then p.val
  else if off = 0x04 then portStateWord s p
  else if off = 0x08 then q.cause.toNat
  else if off = 0x10 then saturate32 q.cto
  else if off = 0x14 then saturate32 q.unexp
  else if 0x40 ≤ off ∧ off < 0x60 then q.intPending.toNat / 2 ^ (8 * (off - 0x40)) % 2 ^ 32
  else 0

/-- The codes of RING_STATUS.STATE (R118). -/
def RState.code : RState → Nat
  | .none => 0
  | .running => 1
  | .stopped => 2
  | .resetting => 3
  | .faulted => 4

/-- A 4-byte read of a ring's control block (R113 to R118). RING_CMD is write-only. -/
def ringRegRead (x : Ring) (off : Nat) : Nat :=
  if off = 0x00 then x.base % 2 ^ 32
  else if off = 0x04 then x.base / 2 ^ 32
  else if off = 0x08 then
    x.sizeLog2 + x.vector * 2 ^ 8 + b2n x.irqEn * 2 ^ 19 + b2n x.pushRing * 2 ^ 20 + b2n x.notice * 2 ^ 21
  else if off = 0x0C then x.coalCount + x.coalTime * 2 ^ 8
  else if off = 0x14 then x.state.code + x.fault * 2 ^ 8 + b2n x.cmdRefused * 2 ^ 12
  else if off = 0x18 then x.db.off + b2n x.db.lap * 2 ^ 31
  else if off = 0x1C then x.acc.off + b2n x.acc.lap * 2 ^ 31
  else if off = 0x20 then x.out.length
  else if off = 0x28 then x.cplCount % 2 ^ 32
  else if off = 0x2C then x.cplCount / 2 ^ 32 % 2 ^ 32
  else 0

/-- A 4-byte read of the MSI-X table: three words of an entry, then its mask bit (R82, R90). -/
def msixRead (q : Port) (off : Nat) : Nat :=
  if off % 16 = 12 then b2n (!decide (off / 16 ∈ q.msixUnmasked)) else Tab.atD q.msixWords (off / 4) 0

/-- A 4-byte read of the MSI-X pending bit array (R82, R90). -/
def pbaRead (q : Port) (off : Nat) : Nat := packBits ((List.range 32).map (fun i => decide (8 * off + i ∈ q.msixPending)))

/-- A 4-byte read of BAR0 (R82); reserved offsets, and the ring pages, which only take writes, read zero (R84). -/
def bar0Read (s : State) (p : PortId) (off : Nat) : Nat :=
  if off < 0x10000 then portRegRead s p off
  else if off < 0x20000 then ringRegRead (getRing s p ((off - 0x10000) / 256)) (off % 256)
  else if 0x200000 ≤ off ∧ off < 0x208000 then msixRead (s.ports.get p) (off - 0x200000)
  else if 0x210000 ≤ off ∧ off < 0x210100 then pbaRead (s.ports.get p) (off - 0x210000)
  else 0

/-! ### BAR2 (R83, R84, R498 to R500, R528) -/

/-- MB_STATE (R499). -/
def mbStateWord (b : Mailbox) : Nat :=
  (if b.busy then 1 else if b.done then 2 else 0) + 4 * b2n b.overrun + 8 * b2n b.session.isSome +
    b.doneCount % 2 ^ 16 * 2 ^ 16

/-- One byte of BAR2 (R83, R498, R528); reserved offsets read zero (R84). -/
def bar2Byte (s : State) (p : PortId) (off : Nat) : Byte :=
  let b := (s.ports.get p).mailbox
  if off < 4 then (leBytes 4 (0x4D42 + 1 * 2 ^ 16)).getD off 0
  else if off < 8 then (leBytes 4 (mbStateWord b)).getD (off - 4) 0
  else if 0x1000 ≤ off ∧ off < 0x4000 then Tab.atD b.request (off - 0x1000) 0
  else if 0x4000 ≤ off ∧ off < 0x7000 then b.response.getD (off - 0x4000) 0
  else if 0x100000 ≤ off ∧ off < 0x100040 then (windowHeader s).getD (off - 0x100000) 0
  else if 0x200000 ≤ off ∧ off < 0xA00000 then ringByte s (off - 0x200000)
  else 0

/-! ### Reads by the host (R82, R84, R94) -/

/-- Is an access of BAR0 one that R82 serves: naturally aligned, of 4 or 8 bytes, or in a push window of any size to 64? -/
def bar0Served (off size : Nat) : Bool :=
  let window := decide (0x100000 ≤ off) && decide (off < 0x200000) && decide (0x100 ≤ off % 4096) &&
    decide (off % 4096 < 0x200)
  (size == 4 || size == 8 || (window && isPow2 size && decide (size ≤ 64))) && off % size == 0

/-- The data of a host's Memory Read of a BAR (R82 to R84): zeros where the access is not one that the BAR serves. -/
def barRead (s : State) (p : PortId) (bar off size : Nat) : Bytes :=
  if bar = 0 then
    if bar0Served off size then
      ((List.range ((size + 3) / 4)).flatMap (fun i => leBytes 4 (bar0Read s p (off + 4 * i)))).take size
    else zeros size
  else if bar = 2 then (List.range size).map (fun i => bar2Byte s p (off + i))
  else zeros size

/-- BAR_BAD_ACCESS (R82, R84, R94): an access is completed normally; a write that the BAR does not serve is ignored, a read
returns zero. The completion of a read goes out behind every request that the port issued before it. -/
def execBarBadAccess (p : PortId) (x : BarPlace) (size : Nat) (write : Bool) (s : State) : Host.Outcome State Fault Refusal :=
  finish (if barOpen s p && !write then sendTlp p (.completion (barRead s p x.bar x.offset size)) s else s)

end Sys2Proof.Machine
end

