-- ==== Sys2Proof/Machine/Objects.lean ====
section
/-! DEFINITION. The objects of the dictionary: the object tables of the chapters as one list (R16, R17). -/

namespace Sys2Proof.Machine

/-- The types of R17. -/
inductive OTy where
  | bool | u8 | u16 | u32 | u64 | i16 | i32 | i64 | time | str | oct
  deriving DecidableEq, Repr

/-- A row of an object table: index, first and last subindex, type, length in bytes, whether that is a largest length,
access (1 RO, 2 RW, 3 WO), role (0 Observer, 1 Operator, 2 Custodian), whether it is stored under R483, whether each
session keeps its own, the default, and the ranges a written number may lie in (any number where there are none). -/
structure ObjRow where
  index : Nat
  subLo : Nat
  subHi : Nat
  ty : OTy
  len : Nat
  upTo : Bool
  access : Nat
  role : Nat
  stored : Bool
  select : Bool
  dflt : OVal
  ranges : List (Nat × Nat)
  deriving DecidableEq, Repr

/-- Object rows, part 0. -/
def objRows0 : List ObjRow := [
  ⟨0x1100, 0x01, 0x01, .u8, 1, false, 1, 0, false, false, .num 0, []⟩,
  ⟨0x1100, 0x02, 0x02, .u8, 1, false, 1, 0, false, false, .num 0, []⟩,
  ⟨0x1100, 0x03, 0x03, .u8, 1, false, 1, 0, false, false, .num 0, []⟩,
  ⟨0x1100, 0x04, 0x04, .u8, 1, false, 1, 0, false, false, .num 0, []⟩,
  ⟨0x1100, 0x05, 0x05, .bool, 1, false, 2, 1, true, false, .num 1, [(0, 1)]⟩,
  ⟨0x1100, 0x06, 0x06, .u8, 1, false, 1, 0, false, false, .num 0, []⟩,
  ⟨0x1100, 0x07, 0x07, .u8, 1, false, 2, 2, true, false, .num 0, [(0, 1)]⟩,
  ⟨0x1100, 0x08, 0x08, .u16, 2, false, 2, 1, true, false, .num 60, [(0, 600)]⟩,
  ⟨0x1101, 0x01, 0x01, .u8, 1, false, 3, 2, false, false, .num 0, [(1, 4)]⟩,
  ⟨0x1102, 0x01, 0x01, .u32, 4, false, 1, 0, false, false, .num 0, []⟩,
  ⟨0x1102, 0x02, 0x02, .u8, 1, false, 1, 0, false, false, .num 0, []⟩,
  ⟨0x1102, 0x03, 0x03, .u8, 1, false, 1, 0, false, false, .num 0, []⟩,
  ⟨0x1102, 0x04, 0x04, .u64, 8, false, 1, 0, false, false, .num 0, []⟩,
  ⟨0x1103, 0x01, 0x01, .u8, 1, false, 1, 0, false, false, .num 0, []⟩,
  ⟨0x2010, 0x01, 0x04, .u8, 1, false, 2, 1, true, false, .num 0, [(0, 1)]⟩,
  ⟨0x2000, 0x01, 0x04, .bool, 1, false, 2, 1, true, false, .num 1, [(0, 1)]⟩,
  ⟨0x2001, 0x01, 0x04, .u32, 4, false, 1, 0, false, false, .num 0, []⟩,
  ⟨0x2002, 0x01, 0x04, .u32, 4, false, 2, 1, false, false, .num 0, []⟩,
  ⟨0x2003, 0x01, 0x04, .u8, 1, false, 2, 1, true, false, .num 6, [(3, 6)]⟩,
  ⟨0x2004, 0x01, 0x04, .u8, 1, false, 2, 1, true, false, .num 16, [(1, 1), (2, 2), (4, 4), (8, 8), (16, 16)]⟩,
  ⟨0x2005, 0x01, 0x04, .u16, 2, false, 2, 1, true, false, .num 8, [(0, 1024)]⟩,
  ⟨0x2006, 0x01, 0x04, .u64, 8, false, 1, 0, false, false, .num 0, []⟩,
  ⟨0x2007, 0x01, 0x04, .u64, 8, false, 1, 0, false, false, .num 0, []⟩,
  ⟨0x2008, 0x01, 0x04, .u32, 4, false, 1, 0, false, false, .num 0, []⟩,
  ⟨0x2011, 0x01, 0x04, .u8, 1, false, 3, 1, false, false, .num 0, [(1, 1)]⟩,
  ⟨0x2400, 0x01, 0x04, .u16, 2, false, 1, 0, false, false, .num 0, []⟩,
  ⟨0x2401, 0x01, 0x04, .u32, 4, false, 1, 0, false, false, .num 0, []⟩,
  ⟨0x2402, 0x01, 0x04, .u32, 4, false, 2, 1, true, false, .num 65536, [(1024, 262144)]⟩,
  ⟨0x2403, 0x01, 0x04, .u16, 2, false, 1, 0, false, false, .num 0, []⟩,
  ⟨0x2404, 0x01, 0x04, .u64, 8, false, 1, 0, false, false, .num 0, []⟩,
  ⟨0x2405, 0x01, 0x04, .u64, 8, false, 1, 0, false, false, .num 0, []⟩,
  ⟨0x2406, 0x01, 0x04, .u64, 8, false, 1, 0, false, false, .num 0, []⟩,
  ⟨0x2407, 0x01, 0x04, .u32, 4, false, 1, 0, false, false, .num 1, []⟩,
  ⟨0x2410, 0x01, 0x04, .oct, 1024, false, 2, 1, true, false, .bytes (zeros 1024), []⟩,
  ⟨0x2411, 0x01, 0x04, .u64, 8, false, 1, 0, false, false, .num 0, []⟩,
  ⟨0x2412, 0x01, 0x04, .u64, 8, false, 1, 0, false, false, .num 0, []⟩,
  ⟨0x2420, 0x01, 0x01, .u32, 4, false, 1, 0, false, false, .num 0, []⟩,
  ⟨0x2420, 0x02, 0x02, .u64, 8, false, 1, 0, false, false, .num 0, []⟩,
  ⟨0x2420, 0x03, 0x03, .u64, 8, false, 1, 0, false, false, .num 0, []⟩,
  ⟨0x2421, 0x01, 0x01, .u16, 2, false, 2, 1, true, false, .num 60, [(0, 3600)]⟩]

/-- Object rows, part 1. -/
def objRows1 : List ObjRow := [
  ⟨0x3000, 0x01, 0x01, .u16, 2, false, 1, 0, false, false, .num 0, []⟩,
  ⟨0x3001, 0x01, 0x01, .u16, 2, false, 2, 0, false, true, .num 0, [(0, 4095)]⟩,
  ⟨0x3002, 0x01, 0x01, .oct, 32, false, 3, 1, false, false, .bytes [], []⟩,
  ⟨0x3002, 0x02, 0x02, .oct, 16, false, 3, 1, false, false, .bytes [], []⟩,
  ⟨0x3002, 0x03, 0x03, .u16, 2, false, 3, 1, false, false, .num 0, [(0, 4095)]⟩,
  ⟨0x3003, 0x01, 0x01, .u8, 1, false, 1, 0, false, false, .num 0, []⟩,
  ⟨0x3003, 0x02, 0x02, .u8, 1, false, 1, 0, false, false, .num 0, []⟩,
  ⟨0x3003, 0x03, 0x03, .u16, 2, false, 1, 0, false, false, .num 0, []⟩,
  ⟨0x3003, 0x04, 0x04, .u64, 8, false, 1, 0, false, false, .num 0, []⟩,
  ⟨0x3003, 0x05, 0x05, .u8, 1, false, 2, 1, true, false, .num 0, []⟩,
  ⟨0x3003, 0x06, 0x06, .u8, 1, false, 2, 1, true, false, .num 0, [(0, 15)]⟩,
  ⟨0x3003, 0x07, 0x07, .u32, 4, false, 1, 0, false, false, .num 0, []⟩,
  ⟨0x3003, 0x08, 0x08, .u64, 8, false, 1, 0, false, false, .num 0, []⟩,
  ⟨0x3003, 0x09, 0x09, .u16, 2, false, 1, 0, false, false, .num 0, []⟩,
  ⟨0x3010, 0x01, 0x01, .u32, 4, false, 1, 0, false, false, .num 0, []⟩,
  ⟨0x3010, 0x02, 0x02, .u32, 4, false, 1, 0, false, false, .num 0, []⟩,
  ⟨0x3010, 0x03, 0x03, .u32, 4, false, 1, 0, false, false, .num 0, []⟩,
  ⟨0x3010, 0x04, 0x04, .u32, 4, false, 1, 0, false, false, .num 0, []⟩,
  ⟨0x3010, 0x05, 0x05, .u32, 4, false, 1, 0, false, false, .num 0, []⟩,
  ⟨0x3011, 0x01, 0x01, .u16, 2, false, 2, 1, true, false, .num 1024, [(64, 4096)]⟩,
  ⟨0x3011, 0x02, 0x02, .u16, 2, false, 2, 1, true, false, .num 32, [(1, 256)]⟩,
  ⟨0x3011, 0x03, 0x03, .u32, 4, false, 2, 1, true, false, .num 2000, [(10, 60000)]⟩,
  ⟨0x3011, 0x04, 0x04, .u32, 4, false, 2, 1, true, false, .num 2000, [(1, 60000)]⟩,
  ⟨0x3012, 0x01, 0x01, .u8, 1, false, 2, 1, true, false, .num 25, [(1, 100)]⟩,
  ⟨0x3012, 0x02, 0x02, .u16, 2, false, 2, 1, true, false, .num 256, [(1, 4096)]⟩,
  ⟨0x3012, 0x03, 0x03, .u32, 4, false, 2, 1, true, false, .num 4096, [(256, 16384)]⟩,
  ⟨0x3012, 0x04, 0x04, .u64, 8, false, 1, 0, false, false, .num 0, []⟩,
  ⟨0x3012, 0x05, 0x05, .u64, 8, false, 1, 0, false, false, .num 0, []⟩,
  ⟨0x3012, 0x06, 0x06, .u32, 4, false, 1, 0, false, false, .num 0, []⟩,
  ⟨0x3013, 0x01, 0x01, .u64, 8, false, 1, 0, false, false, .num 0, []⟩,
  ⟨0x3013, 0x02, 0x02, .u32, 4, false, 2, 1, true, false, .num 1000, [(100, 100000)]⟩,
  ⟨0x3013, 0x03, 0x03, .u32, 4, false, 1, 0, false, false, .num 0, []⟩,
  ⟨0x3014, 0x01, 0x01, .bool, 1, false, 2, 1, true, false, .num 1, [(0, 1)]⟩,
  ⟨0x3020, 0x01, 0x01, .oct, 16, false, 1, 0, false, false, .bytes [], []⟩,
  ⟨0x3020, 0x02, 0x02, .u64, 8, false, 1, 0, false, false, .num 0, []⟩,
  ⟨0x3020, 0x03, 0x03, .u8, 1, false, 1, 0, false, false, .num 0, []⟩,
  ⟨0x3021, 0x01, 0x01, .u32, 4, false, 2, 1, true, false, .num 300, [(30, 3600)]⟩,
  ⟨0x3021, 0x02, 0x02, .bool, 1, false, 3, 1, false, false, .num 0, [(0, 1)]⟩,
  ⟨0x3021, 0x03, 0x03, .u64, 8, false, 1, 0, false, false, .num 0, []⟩,
  ⟨0x3021, 0x04, 0x04, .u64, 8, false, 1, 0, false, false, .num 0, []⟩]

/-- Object rows, part 2. -/
def objRows2 : List ObjRow := [
  ⟨0x3021, 0x05, 0x05, .time, 8, false, 1, 0, false, false, .num 0, []⟩,
  ⟨0x3022, 0x01, 0x01, .u16, 2, false, 2, 1, true, false, .num 10, [(2, 100)]⟩,
  ⟨0x3022, 0x02, 0x02, .u32, 4, false, 1, 0, false, false, .num 0, []⟩,
  ⟨0x3022, 0x03, 0x03, .u32, 4, false, 1, 0, false, false, .num 0, []⟩,
  ⟨0x3022, 0x04, 0x04, .time, 8, false, 1, 0, false, false, .num 0, []⟩,
  ⟨0x3024, 0x01, 0x01, .oct, 64, false, 1, 0, false, false, .bytes [], []⟩,
  ⟨0x3024, 0x02, 0x02, .u32, 4, false, 2, 0, false, true, .num 0, []⟩,
  ⟨0x3024, 0x03, 0x03, .oct, 16, false, 1, 0, false, false, .bytes [], []⟩,
  ⟨0x3024, 0x04, 0x04, .u64, 8, false, 3, 1, false, false, .num 0, []⟩,
  ⟨0x3024, 0x05, 0x05, .bool, 1, false, 2, 2, true, false, .num 0, [(0, 1)]⟩,
  ⟨0x3025, 0x01, 0x01, .u8, 1, false, 3, 2, false, false, .num 0, [(1, 4)]⟩,
  ⟨0x3025, 0x02, 0x02, .u8, 1, false, 1, 0, false, false, .num 0, []⟩,
  ⟨0x3025, 0x03, 0x03, .oct, 16, false, 2, 2, false, false, .bytes (zeros 16), []⟩,
  ⟨0x3025, 0x04, 0x04, .u16, 2, false, 1, 0, false, false, .num 0, []⟩,
  ⟨0x3025, 0x05, 0x05, .u16, 2, false, 1, 0, false, false, .num 0, []⟩,
  ⟨0x3800, 0x01, 0x01, .u32, 4, false, 1, 0, false, false, .num 0, []⟩,
  ⟨0x3800, 0x02, 0x02, .u32, 4, false, 1, 0, false, false, .num 0, []⟩,
  ⟨0x3800, 0x03, 0x03, .u32, 4, false, 1, 0, false, false, .num 0, []⟩,
  ⟨0x3800, 0x04, 0x04, .u32, 4, false, 1, 0, false, false, .num 0, []⟩,
  ⟨0x3800, 0x05, 0x05, .u32, 4, false, 1, 0, false, false, .num 0, []⟩,
  ⟨0x3800, 0x06, 0x06, .u16, 2, false, 1, 0, false, false, .num 0, []⟩,
  ⟨0x3801, 0x01, 0x01, .u64, 8, false, 1, 0, false, false, .num 0, []⟩,
  ⟨0x3801, 0x02, 0x02, .u64, 8, false, 1, 0, false, false, .num 0, []⟩,
  ⟨0x3801, 0x03, 0x03, .u64, 8, false, 1, 0, false, false, .num 0, []⟩,
  ⟨0x3801, 0x04, 0x04, .u16, 2, false, 2, 1, true, false, .num 20, [(5, 200)]⟩,
  ⟨0x3801, 0x05, 0x05, .u8, 1, false, 2, 1, true, false, .num 1, [(0, 4)]⟩,
  ⟨0x3801, 0x06, 0x06, .u64, 8, false, 1, 0, false, false, .num 0, []⟩,
  ⟨0x3801, 0x07, 0x07, .bool, 1, false, 2, 1, true, false, .num 1, [(0, 1)]⟩,
  ⟨0x3802, 0x01, 0x01, .u16, 2, false, 2, 0, false, true, .num 0, [(0, 511)]⟩,
  ⟨0x3803, 0x01, 0x01, .u16, 2, false, 2, 1, true, false, .num 0, [(0, 1023)]⟩,
  ⟨0x3803, 0x02, 0x02, .u8, 1, false, 2, 1, true, false, .num 0, [(0, 1)]⟩,
  ⟨0x3803, 0x03, 0x03, .u8, 1, false, 1, 0, false, false, .num 0, []⟩,
  ⟨0x3803, 0x04, 0x04, .u32, 4, false, 1, 0, false, false, .num 0, []⟩,
  ⟨0x3803, 0x05, 0x05, .u32, 4, false, 1, 0, false, false, .num 0, []⟩,
  ⟨0x3804, 0x01, 0x01, .u8, 1, false, 2, 1, true, false, .num 2, [(1, 20)]⟩,
  ⟨0x3804, 0x02, 0x02, .u16, 2, false, 2, 1, true, false, .num 4, [(0, 65535)]⟩,
  ⟨0x3804, 0x03, 0x03, .u16, 2, false, 1, 0, false, false, .num 0, []⟩,
  ⟨0x3804, 0x04, 0x04, .u32, 4, false, 1, 0, false, false, .num 0, []⟩,
  ⟨0x3804, 0x05, 0x05, .u64, 8, false, 1, 0, false, false, .num 0, []⟩,
  ⟨0x3805, 0x01, 0x01, .u32, 4, false, 1, 0, false, false, .num 0, []⟩]

/-- Object rows, part 3. -/
def objRows3 : List ObjRow := [
  ⟨0x3805, 0x02, 0x02, .u32, 4, false, 1, 0, false, false, .num 0, []⟩,
  ⟨0x3805, 0x03, 0x03, .u32, 4, false, 1, 0, false, false, .num 0, []⟩,
  ⟨0x3805, 0x04, 0x04, .u16, 2, false, 2, 1, true, false, .num 20, [(0, 500)]⟩,
  ⟨0x3806, 0x01, 0x01, .u32, 4, false, 1, 0, false, false, .num 0, []⟩,
  ⟨0x3806, 0x02, 0x02, .u32, 4, false, 1, 0, false, false, .num 0, []⟩,
  ⟨0x3806, 0x03, 0x03, .u64, 8, false, 1, 0, false, false, .num 0, []⟩,
  ⟨0x3806, 0x04, 0x04, .u8, 1, false, 2, 1, true, false, .num 1, [(0, 8)]⟩,
  ⟨0x3806, 0x05, 0x05, .bool, 1, false, 1, 0, false, false, .num 0, []⟩,
  ⟨0x3807, 0x01, 0x04, .u8, 1, false, 2, 1, true, false, .num 16, [(1, 255)]⟩,
  ⟨0x3808, 0x01, 0x10, .u8, 1, false, 2, 1, true, false, .num 16, [(1, 255)]⟩,
  ⟨0x3809, 0x01, 0x01, .u8, 1, false, 2, 1, true, false, .num 16, [(1, 255)]⟩,
  ⟨0x3809, 0x02, 0x02, .u16, 2, false, 2, 1, true, false, .num 8000, [(0, 9000)]⟩,
  ⟨0x3809, 0x03, 0x03, .bool, 1, false, 2, 1, true, false, .num 0, [(0, 1)]⟩,
  ⟨0x3809, 0x04, 0x04, .u16, 2, false, 2, 1, true, false, .num 10, [(1, 20000)]⟩,
  ⟨0x3809, 0x05, 0x05, .u16, 2, false, 2, 1, true, false, .num 6000, [(50, 65535)]⟩,
  ⟨0x3809, 0x06, 0x06, .u16, 2, false, 2, 1, true, false, .num 20, [(1, 20000)]⟩,
  ⟨0x3809, 0x07, 0x07, .u16, 2, false, 2, 1, true, false, .num 3000, [(50, 65535)]⟩,
  ⟨0x380A, 0x01, 0x07, .oct, 64, false, 2, 1, true, false, .bytes [], []⟩,
  ⟨0x380B, 0x01, 0x07, .u16, 2, false, 1, 0, false, false, .num 0, []⟩,
  ⟨0x380C, 0x01, 0x01, .u32, 4, false, 1, 0, false, false, .num 0, []⟩,
  ⟨0x380C, 0x02, 0x02, .u64, 8, false, 1, 0, false, false, .num 0, []⟩,
  ⟨0x380C, 0x03, 0x03, .u32, 4, false, 1, 0, false, false, .num 0, []⟩,
  ⟨0x380C, 0x04, 0x04, .u16, 2, false, 2, 1, true, false, .num 4096, [(64, 16384)]⟩,
  ⟨0x380D, 0x01, 0x01, .u32, 4, false, 2, 1, true, false, .num 600, [(10, 86400)]⟩,
  ⟨0x380D, 0x02, 0x02, .u32, 4, false, 1, 0, false, false, .num 0, []⟩,
  ⟨0x380D, 0x03, 0x03, .u64, 8, false, 1, 0, false, false, .num 0, []⟩,
  ⟨0x4000, 0x01, 0x01, .u8, 1, false, 1, 0, false, false, .num 0, []⟩,
  ⟨0x4000, 0x02, 0x02, .u16, 2, false, 1, 0, false, false, .num 0, []⟩,
  ⟨0x4001, 0x01, 0x01, .bool, 1, false, 3, 1, false, false, .num 0, [(0, 1)]⟩,
  ⟨0x4001, 0x02, 0x02, .u8, 1, false, 1, 0, false, false, .num 0, []⟩,
  ⟨0x4001, 0x03, 0x03, .time, 8, false, 1, 0, false, false, .num 0, []⟩,
  ⟨0x4001, 0x04, 0x04, .u32, 4, false, 2, 1, true, false, .num 86400, [(3600, 604800)]⟩,
  ⟨0x4002, 0x01, 0x01, .u64, 8, false, 1, 0, false, false, .num 0, []⟩,
  ⟨0x4002, 0x02, 0x02, .u64, 8, false, 1, 0, false, false, .num 0, []⟩,
  ⟨0x4002, 0x03, 0x03, .u64, 8, false, 1, 0, false, false, .num 0, []⟩,
  ⟨0x4002, 0x04, 0x04, .u64, 8, false, 1, 0, false, false, .num 0, []⟩,
  ⟨0x4002, 0x05, 0x05, .u64, 8, false, 1, 0, false, false, .num 0, []⟩,
  ⟨0x4002, 0x06, 0x06, .u64, 8, false, 1, 0, false, false, .num 0, []⟩,
  ⟨0x4003, 0x01, 0x01, .bool, 1, false, 2, 1, true, false, .num 1, [(0, 1)]⟩,
  ⟨0x4003, 0x02, 0x02, .u32, 4, false, 2, 1, true, false, .num 672, [(24, 8760)]⟩]

/-- Object rows, part 4. -/
def objRows4 : List ObjRow := [
  ⟨0x4003, 0x03, 0x03, .u16, 2, false, 1, 0, false, false, .num 0, []⟩,
  ⟨0x4003, 0x04, 0x04, .time, 8, false, 1, 0, false, false, .num 0, []⟩,
  ⟨0x4003, 0x05, 0x05, .u64, 8, false, 1, 0, false, false, .num 0, []⟩,
  ⟨0x4004, 0x01, 0x01, .u32, 4, false, 2, 1, true, false, .num 64, [(1, 1000000)]⟩,
  ⟨0x4004, 0x02, 0x02, .u8, 1, false, 2, 1, true, false, .num 1, [(0, 255)]⟩,
  ⟨0x4004, 0x03, 0x03, .u8, 1, false, 2, 1, true, false, .num 16, [(0, 255)]⟩,
  ⟨0x4004, 0x04, 0x04, .u8, 1, false, 2, 1, true, false, .num 64, [(0, 255)]⟩,
  ⟨0x4004, 0x05, 0x05, .u32, 4, false, 2, 1, true, false, .num 168, [(1, 8760)]⟩,
  ⟨0x4004, 0x06, 0x06, .u64, 8, false, 1, 0, false, false, .num 0, []⟩,
  ⟨0x4004, 0x07, 0x07, .u32, 4, false, 1, 0, false, false, .num 0, []⟩,
  ⟨0x4005, 0x01, 0x01, .u32, 4, false, 1, 0, false, false, .num 0, []⟩,
  ⟨0x4005, 0x02, 0x02, .u32, 4, false, 1, 0, false, false, .num 0, []⟩,
  ⟨0x4005, 0x03, 0x03, .u32, 4, false, 2, 0, false, true, .num 0, []⟩,
  ⟨0x4005, 0x04, 0x04, .oct, 16, false, 1, 0, false, false, .bytes [], []⟩,
  ⟨0x4006, 0x01, 0x01, .bool, 1, false, 2, 1, true, false, .num 0, [(0, 1)]⟩,
  ⟨0x4006, 0x02, 0x02, .u64, 8, false, 1, 0, false, false, .num 0, []⟩,
  ⟨0x4006, 0x03, 0x03, .u64, 8, false, 1, 0, false, false, .num 0, []⟩,
  ⟨0x4006, 0x04, 0x04, .u64, 8, false, 1, 0, false, false, .num 0, []⟩,
  ⟨0x4800, 0x01, 0x18, .u32, 4, false, 2, 1, true, false, .num 313, []⟩,
  ⟨0x4801, 0x01, 0x18, .u8, 1, false, 1, 0, false, false, .num 0, []⟩,
  ⟨0x4802, 0x01, 0x01, .u16, 2, false, 1, 0, false, false, .num 0, []⟩,
  ⟨0x4803, 0x01, 0x01, .u8, 1, false, 1, 0, false, false, .num 0, []⟩,
  ⟨0x4803, 0x02, 0x02, .u8, 1, false, 1, 0, false, false, .num 0, []⟩,
  ⟨0x4803, 0x03, 0x03, .oct, 16, false, 1, 0, false, false, .bytes [], []⟩,
  ⟨0x4803, 0x04, 0x04, .u64, 8, false, 1, 0, false, false, .num 0, []⟩,
  ⟨0x4803, 0x05, 0x05, .oct, 8, false, 1, 0, false, false, .bytes [], []⟩,
  ⟨0x4803, 0x06, 0x06, .u8, 1, false, 2, 1, true, false, .num 0, [(0, 7)]⟩,
  ⟨0x4803, 0x07, 0x07, .u8, 1, false, 1, 0, false, false, .num 0, []⟩,
  ⟨0x4803, 0x08, 0x08, .i16, 2, false, 1, 0, false, false, .num 0, []⟩,
  ⟨0x4803, 0x09, 0x09, .u8, 1, false, 3, 1, false, false, .num 0, [(2, 4)]⟩,
  ⟨0x4803, 0x0A, 0x0A, .bool, 1, false, 3, 2, false, false, .num 0, [(0, 1)]⟩,
  ⟨0x4803, 0x0B, 0x0B, .u64, 8, false, 1, 0, false, false, .num 0, []⟩,
  ⟨0x4803, 0x0C, 0x0C, .u64, 8, false, 1, 0, false, false, .num 0, []⟩,
  ⟨0x4803, 0x0D, 0x0D, .u64, 8, false, 1, 0, false, false, .num 0, []⟩,
  ⟨0x4804, 0x01, 0x01, .bool, 1, false, 2, 1, true, false, .num 1, [(0, 1)]⟩,
  ⟨0x4804, 0x02, 0x02, .u16, 2, false, 2, 1, true, false, .num 30, [(1, 600)]⟩,
  ⟨0x4804, 0x03, 0x03, .u16, 2, false, 2, 1, true, false, .num 60, [(10, 3600)]⟩,
  ⟨0x4805, 0x01, 0x01, .u16, 2, false, 2, 1, true, false, .num 128, [(1, 8192)]⟩,
  ⟨0x4805, 0x02, 0x02, .u16, 2, false, 2, 1, true, false, .num 64, [(1, 1024)]⟩,
  ⟨0x4805, 0x03, 0x03, .u16, 2, false, 2, 1, true, false, .num 32, [(1, 32)]⟩]

/-- Object rows, part 5. -/
def objRows5 : List ObjRow := [
  ⟨0x4810, 0x01, 0x08, .oct, 2048, false, 2, 1, true, false, .bytes [], []⟩,
  ⟨0x4811, 0x01, 0x08, .u64, 8, false, 1, 0, false, false, .num 0, []⟩,
  ⟨0x4820, 0x01, 0x01, .u8, 1, false, 2, 1, true, false, .num 90, [(1, 100)]⟩,
  ⟨0x4820, 0x02, 0x02, .u8, 1, false, 2, 1, true, false, .num 70, [(30, 100)]⟩,
  ⟨0x4820, 0x03, 0x03, .u32, 4, false, 2, 1, true, false, .num 16, [(1, 524288)]⟩,
  ⟨0x4820, 0x04, 0x04, .u16, 2, false, 2, 1, true, false, .num 50, [(0, 1000)]⟩,
  ⟨0x4820, 0x05, 0x05, .u16, 2, false, 1, 0, false, false, .num 0, []⟩,
  ⟨0x4820, 0x06, 0x06, .u64, 8, false, 1, 0, false, false, .num 0, []⟩,
  ⟨0x5000, 0x01, 0x01, .u64, 8, false, 1, 0, false, false, .num 0, []⟩,
  ⟨0x5000, 0x02, 0x02, .u64, 8, false, 1, 0, false, false, .num 0, []⟩,
  ⟨0x5000, 0x03, 0x03, .u64, 8, false, 1, 0, false, false, .num 0, []⟩,
  ⟨0x5000, 0x04, 0x04, .u64, 8, false, 1, 0, false, false, .num 0, []⟩,
  ⟨0x5001, 0x01, 0x04, .u64, 8, false, 1, 0, false, false, .num 0, []⟩,
  ⟨0x5002, 0x01, 0x04, .u64, 8, false, 1, 0, false, false, .num 0, []⟩,
  ⟨0x5003, 0x01, 0x01, .u32, 4, false, 2, 1, true, false, .num 100000, [(1000, 10000000)]⟩,
  ⟨0x5003, 0x02, 0x02, .u8, 1, false, 1, 0, false, false, .num 0, []⟩,
  ⟨0x5010, 0x01, 0x01, .u8, 1, false, 2, 1, true, false, .num 0, [(0, 1)]⟩,
  ⟨0x5010, 0x02, 0x02, .u8, 1, false, 1, 0, false, false, .num 0, []⟩,
  ⟨0x5010, 0x03, 0x03, .u16, 2, false, 1, 0, false, false, .num 0, []⟩,
  ⟨0x5010, 0x04, 0x04, .u32, 4, false, 2, 1, true, false, .num 65536, [(1024, 65536)]⟩,
  ⟨0x5010, 0x05, 0x05, .u32, 4, false, 1, 0, false, false, .num 0, []⟩,
  ⟨0x5010, 0x06, 0x06, .u64, 8, false, 1, 0, false, false, .num 0, []⟩,
  ⟨0x5010, 0x07, 0x07, .u16, 2, false, 1, 0, false, false, .num 0, []⟩,
  ⟨0x5010, 0x08, 0x08, .u64, 8, false, 1, 0, false, false, .num 0, []⟩,
  ⟨0x5010, 0x09, 0x09, .u64, 8, false, 1, 0, false, false, .num 0, []⟩,
  ⟨0x5011, 0x01, 0x01, .u8, 1, false, 2, 1, true, false, .num 2, [(0, 8)]⟩,
  ⟨0x5011, 0x02, 0x02, .u64, 8, false, 1, 0, false, false, .num 0, []⟩,
  ⟨0x5011, 0x03, 0x03, .u64, 8, false, 1, 0, false, false, .num 0, []⟩,
  ⟨0x5011, 0x04, 0x04, .u64, 8, false, 1, 0, false, false, .num 0, []⟩,
  ⟨0x5020, 0x01, 0x01, .u8, 1, false, 1, 0, false, false, .num 0, []⟩,
  ⟨0x5020, 0x02, 0x02, .u16, 2, false, 1, 0, false, false, .num 0, []⟩,
  ⟨0x5020, 0x03, 0x03, .u64, 8, false, 1, 0, false, false, .num 0, []⟩,
  ⟨0x5020, 0x04, 0x04, .u64, 8, false, 1, 0, false, false, .num 0, []⟩,
  ⟨0x5020, 0x05, 0x05, .oct, 16, false, 3, 1, false, false, .bytes [], []⟩,
  ⟨0x5020, 0x06, 0x06, .bool, 1, false, 1, 0, false, false, .num 0, []⟩,
  ⟨0x5030, 0x01, 0x01, .u32, 4, false, 1, 0, false, false, .num 0, []⟩,
  ⟨0x5030, 0x02, 0x02, .u8, 1, false, 1, 0, false, false, .num 0, []⟩,
  ⟨0x5030, 0x03, 0x03, .u64, 8, false, 1, 0, false, false, .num 0, []⟩,
  ⟨0x5030, 0x04, 0x04, .u32, 4, false, 1, 0, false, false, .num 0, []⟩,
  ⟨0x5030, 0x05, 0x05, .u16, 2, false, 1, 0, false, false, .num 0, []⟩]

/-- Object rows, part 6. -/
def objRows6 : List ObjRow := [
  ⟨0x5030, 0x06, 0x06, .u32, 4, false, 1, 0, false, false, .num 0, []⟩,
  ⟨0x5800, 0x01, 0x01, .u8, 1, false, 1, 0, false, false, .num 0, []⟩,
  ⟨0x5800, 0x02, 0x02, .u8, 1, false, 1, 0, false, false, .num 0, []⟩,
  ⟨0x5800, 0x03, 0x03, .bool, 1, false, 1, 0, false, false, .num 0, []⟩,
  ⟨0x5800, 0x04, 0x04, .u64, 8, false, 1, 0, false, false, .num 0, []⟩,
  ⟨0x5801, 0x01, 0x01, .u32, 4, false, 1, 0, false, false, .num 0, []⟩,
  ⟨0x5801, 0x02, 0x02, .u32, 4, false, 1, 0, false, false, .num 0, []⟩,
  ⟨0x5801, 0x03, 0x03, .u32, 4, false, 1, 0, false, false, .num 0, []⟩,
  ⟨0x5801, 0x04, 0x04, .u32, 4, false, 1, 0, false, false, .num 0, []⟩,
  ⟨0x5801, 0x05, 0x05, .u8, 1, false, 1, 0, false, false, .num 0, []⟩,
  ⟨0x5801, 0x06, 0x06, .u16, 2, false, 1, 0, false, false, .num 0, []⟩,
  ⟨0x5802, 0x01, 0x01, .u16, 2, false, 1, 0, false, false, .num 0, []⟩,
  ⟨0x5802, 0x02, 0x02, .u16, 2, false, 1, 0, false, false, .num 0, []⟩,
  ⟨0x5802, 0x03, 0x03, .oct, 64, false, 2, 1, true, false, .bytes [], []⟩,
  ⟨0x5803, 0x01, 0x01, .u16, 2, false, 1, 0, false, false, .num 0, []⟩,
  ⟨0x5803, 0x02, 0x02, .u8, 1, false, 1, 0, false, false, .num 0, []⟩,
  ⟨0x5803, 0x03, 0x03, .u16, 2, false, 1, 0, false, false, .num 0, []⟩,
  ⟨0x5804, 0x01, 0x01, .u64, 8, false, 1, 0, false, false, .num 0, []⟩,
  ⟨0x5804, 0x02, 0x02, .u32, 4, false, 1, 0, false, false, .num 0, []⟩,
  ⟨0x5804, 0x03, 0x03, .u32, 4, false, 1, 0, false, false, .num 0, []⟩,
  ⟨0x5805, 0x01, 0x01, .u8, 1, false, 1, 0, false, false, .num 0, []⟩,
  ⟨0x5805, 0x02, 0x02, .u8, 1, false, 1, 0, false, false, .num 0, []⟩,
  ⟨0x5805, 0x03, 0x03, .u64, 8, false, 1, 0, false, false, .num 0, []⟩,
  ⟨0x5805, 0x04, 0x04, .u64, 8, false, 1, 0, false, false, .num 0, []⟩,
  ⟨0x5806, 0x01, 0x01, .u8, 1, false, 2, 1, true, false, .num 72, [(8, 120)]⟩,
  ⟨0x5806, 0x02, 0x02, .u16, 2, false, 2, 1, true, false, .num 30, [(1, 365)]⟩,
  ⟨0x5806, 0x03, 0x03, .u8, 1, false, 2, 1, true, false, .num 3, [(1, 16)]⟩,
  ⟨0x5806, 0x04, 0x04, .u64, 8, false, 1, 0, false, false, .num 0, []⟩,
  ⟨0x5806, 0x05, 0x05, .u64, 8, false, 1, 0, false, false, .num 0, []⟩,
  ⟨0x5806, 0x06, 0x06, .u64, 8, false, 1, 0, false, false, .num 0, []⟩,
  ⟨0x5806, 0x07, 0x07, .u64, 8, false, 1, 0, false, false, .num 0, []⟩,
  ⟨0x5806, 0x08, 0x08, .u64, 8, false, 1, 0, false, false, .num 0, []⟩,
  ⟨0x5807, 0x01, 0x01, .i16, 2, false, 1, 0, false, false, .num 0, []⟩,
  ⟨0x5807, 0x02, 0x02, .i16, 2, false, 1, 0, false, false, .num 0, []⟩,
  ⟨0x5808, 0x01, 0x15, .u32, 4, false, 1, 0, false, false, .num 0, []⟩,
  ⟨0x6000, 0x01, 0x01, .u8, 1, false, 1, 0, false, false, .num 0, []⟩,
  ⟨0x6000, 0x02, 0x02, .u16, 2, false, 1, 0, false, false, .num 0, []⟩,
  ⟨0x6000, 0x03, 0x03, .i16, 2, false, 1, 0, false, false, .num 0, []⟩,
  ⟨0x6000, 0x04, 0x04, .time, 8, false, 1, 0, false, false, .num 0, []⟩,
  ⟨0x6001, 0x01, 0x04, .u16, 2, false, 1, 0, false, false, .num 0, []⟩]

/-- Object rows, part 7. -/
def objRows7 : List ObjRow := [
  ⟨0x6002, 0x01, 0x01, .u8, 1, false, 1, 0, false, false, .num 0, []⟩,
  ⟨0x6002, 0x02, 0x02, .u8, 1, false, 1, 0, false, false, .num 0, []⟩,
  ⟨0x6002, 0x03, 0x03, .bool, 1, false, 2, 1, true, false, .num 1, [(0, 1)]⟩,
  ⟨0x6002, 0x04, 0x04, .u32, 4, false, 2, 1, true, false, .num 10800, [(0, 86399)]⟩,
  ⟨0x6002, 0x05, 0x05, .bool, 1, false, 3, 1, false, false, .num 0, [(0, 1)]⟩,
  ⟨0x6003, 0x01, 0x01, .u16, 2, false, 1, 0, false, false, .num 0, []⟩,
  ⟨0x6003, 0x02, 0x02, .u16, 2, false, 1, 0, false, false, .num 0, []⟩,
  ⟨0x6003, 0x03, 0x03, .u16, 2, false, 1, 0, false, false, .num 0, []⟩,
  ⟨0x6003, 0x04, 0x04, .u16, 2, false, 1, 0, false, false, .num 0, []⟩,
  ⟨0x6003, 0x05, 0x05, .u32, 4, false, 1, 0, false, false, .num 0, []⟩,
  ⟨0x6003, 0x06, 0x06, .u16, 2, false, 1, 0, false, false, .num 0, []⟩,
  ⟨0x6003, 0x07, 0x07, .time, 8, false, 1, 0, false, false, .num 0, []⟩,
  ⟨0x6003, 0x08, 0x08, .u8, 1, false, 2, 1, true, false, .num 0, [(0, 1)]⟩,
  ⟨0x6003, 0x09, 0x09, .u16, 2, false, 2, 1, true, false, .num 100, [(10, 1000)]⟩,
  ⟨0x6004, 0x01, 0x01, .u32, 4, false, 1, 0, false, false, .num 0, []⟩,
  ⟨0x6004, 0x02, 0x02, .u32, 4, false, 1, 0, false, false, .num 35000, []⟩,
  ⟨0x6004, 0x03, 0x03, .time, 8, false, 1, 0, false, false, .num 0, []⟩,
  ⟨0x6004, 0x04, 0x04, .u32, 4, false, 1, 0, false, false, .num 0, []⟩,
  ⟨0x6004, 0x05, 0x05, .u8, 1, false, 3, 1, false, false, .num 0, [(1, 2)]⟩,
  ⟨0x6004, 0x06, 0x06, .u8, 1, false, 1, 0, false, false, .num 0, []⟩,
  ⟨0x6004, 0x07, 0x07, .u16, 2, false, 2, 1, true, false, .num 90, [(7, 365)]⟩,
  ⟨0x6004, 0x08, 0x08, .bool, 1, false, 2, 1, true, false, .num 0, [(0, 1)]⟩,
  ⟨0x6004, 0x09, 0x09, .u32, 4, false, 2, 1, true, false, .num 14400, [(0, 86399)]⟩,
  ⟨0x6005, 0x01, 0x08, .u16, 2, false, 1, 0, false, false, .num 1000, []⟩,
  ⟨0x6006, 0x01, 0x01, .oct, 352, false, 2, 2, true, false, .bytes [], []⟩,
  ⟨0x6006, 0x02, 0x02, .oct, 544, false, 2, 2, true, false, .bytes [], []⟩,
  ⟨0x6007, 0x01, 0x01, .u32, 4, false, 1, 0, false, false, .num 0, []⟩,
  ⟨0x6007, 0x02, 0x02, .time, 8, false, 1, 0, false, false, .num 0, []⟩,
  ⟨0x6007, 0x03, 0x03, .u8, 1, false, 1, 0, false, false, .num 0, []⟩,
  ⟨0x6800, 0x01, 0x01, .u8, 1, false, 1, 0, false, false, .num 0, []⟩,
  ⟨0x6800, 0x02, 0x02, .u8, 1, false, 1, 0, false, false, .num 0, []⟩,
  ⟨0x6801, 0x01, 0x01, .oct, 104, false, 3, 2, false, false, .bytes [], []⟩,
  ⟨0x6801, 0x02, 0x02, .u32, 4, false, 3, 2, false, false, .num 0, []⟩,
  ⟨0x6801, 0x03, 0x03, .oct, 8, false, 2, 2, false, true, .bytes (zeros 8), []⟩,
  ⟨0x6801, 0x04, 0x04, .oct, 104, false, 1, 2, false, false, .bytes [], []⟩,
  ⟨0x6801, 0x05, 0x05, .u16, 2, false, 1, 0, false, false, .num 0, []⟩,
  ⟨0x6801, 0x06, 0x06, .u32, 4, false, 2, 0, false, true, .num 0, []⟩,
  ⟨0x6801, 0x07, 0x07, .oct, 32, false, 1, 0, false, false, .bytes [], []⟩,
  ⟨0x6802, 0x01, 0x01, .u8, 1, false, 2, 2, true, false, .num 44, [(32, 46)]⟩,
  ⟨0x6802, 0x02, 0x02, .u16, 2, false, 3, 2, false, false, .num 0, []⟩]

/-- Object rows, part 8. -/
def objRows8 : List ObjRow := [
  ⟨0x6803, 0x01, 0x01, .u8, 1, false, 1, 0, false, false, .num 0, []⟩,
  ⟨0x6803, 0x02, 0x02, .u8, 1, false, 1, 0, false, false, .num 0, []⟩,
  ⟨0x6803, 0x03, 0x03, .u64, 8, false, 1, 0, false, false, .num 0, []⟩,
  ⟨0x6803, 0x04, 0x04, .u32, 4, false, 1, 0, false, false, .num 0, []⟩,
  ⟨0x6804, 0x01, 0x01, .u64, 8, false, 1, 0, false, false, .num 0, []⟩,
  ⟨0x6804, 0x02, 0x02, .u32, 4, false, 1, 0, false, false, .num 0, []⟩,
  ⟨0x6804, 0x03, 0x03, .u32, 4, false, 1, 0, false, false, .num 0, []⟩,
  ⟨0x6804, 0x04, 0x04, .u32, 4, false, 1, 0, false, false, .num 0, []⟩,
  ⟨0x6805, 0x01, 0x01, .bool, 1, false, 3, 1, false, false, .num 0, [(0, 1)]⟩,
  ⟨0x6805, 0x02, 0x02, .u8, 1, false, 1, 0, false, false, .num 0, []⟩,
  ⟨0x6805, 0x03, 0x03, .u32, 4, false, 2, 1, true, false, .num 86400, [(3600, 604800)]⟩,
  ⟨0x6805, 0x04, 0x04, .time, 8, false, 1, 0, false, false, .num 0, []⟩,
  ⟨0x6806, 0x01, 0x01, .u8, 1, false, 1, 0, false, false, .num 0, []⟩,
  ⟨0x6806, 0x02, 0x02, .u8, 1, false, 1, 0, false, false, .num 0, []⟩,
  ⟨0x6806, 0x03, 0x03, .u8, 1, false, 3, 2, false, false, .num 0, []⟩,
  ⟨0x6806, 0x04, 0x04, .oct, 16, false, 1, 0, false, false, .bytes [], []⟩,
  ⟨0x6806, 0x05, 0x05, .oct, 16, false, 1, 0, false, false, .bytes [], []⟩,
  ⟨0x6806, 0x06, 0x06, .u8, 1, false, 3, 2, false, false, .num 0, [(1, 3)]⟩,
  ⟨0x6806, 0x07, 0x07, .oct, 4096, false, 3, 2, false, false, .bytes [], []⟩,
  ⟨0x6806, 0x08, 0x08, .u8, 1, false, 1, 0, false, false, .num 0, []⟩,
  ⟨0x6807, 0x01, 0x01, .oct, 8192, true, 1, 0, false, false, .bytes [], []⟩,
  ⟨0x6807, 0x02, 0x02, .oct, 64, false, 2, 0, false, true, .bytes [], []⟩,
  ⟨0x6807, 0x03, 0x03, .oct, 1128, false, 1, 0, false, false, .bytes [], []⟩,
  ⟨0x6807, 0x04, 0x04, .oct, 64, false, 3, 2, false, false, .bytes [], []⟩,
  ⟨0x6808, 0x01, 0x08, .oct, 64, false, 1, 0, false, false, .bytes [], []⟩,
  ⟨0x1000, 0x01, 0x01, .str, 16, true, 1, 0, false, false, .bytes [], []⟩,
  ⟨0x1000, 0x02, 0x02, .str, 12, true, 1, 0, false, false, .bytes [], []⟩,
  ⟨0x1000, 0x03, 0x03, .u8, 1, false, 1, 0, false, false, .num 0, []⟩,
  ⟨0x1000, 0x04, 0x04, .u8, 1, false, 1, 0, false, false, .num 0, []⟩,
  ⟨0x1000, 0x05, 0x05, .u32, 4, false, 1, 0, false, false, .num 0, []⟩,
  ⟨0x1000, 0x06, 0x06, .u8, 1, false, 1, 0, false, false, .num 0, []⟩,
  ⟨0x1000, 0x07, 0x07, .str, 64, true, 2, 1, true, false, .bytes [], []⟩,
  ⟨0x1010, 0x01, 0x01, .time, 8, false, 1, 0, false, false, .num 0, []⟩,
  ⟨0x1010, 0x02, 0x02, .time, 8, false, 3, 1, false, false, .num 0, []⟩,
  ⟨0x1010, 0x03, 0x03, .u8, 1, false, 1, 0, false, false, .num 0, []⟩,
  ⟨0x1010, 0x04, 0x04, .bool, 1, false, 2, 1, true, false, .num 0, [(0, 1)]⟩,
  ⟨0x1010, 0x05, 0x05, .u8, 1, false, 2, 1, true, false, .num 0, [(0, 127)]⟩,
  ⟨0x1010, 0x06, 0x06, .u8, 1, false, 2, 1, true, false, .num 0, [(0, 1)]⟩,
  ⟨0x1010, 0x07, 0x07, .u32, 4, false, 2, 1, true, false, .num 1000000, [(1000, 1000000000)]⟩,
  ⟨0x1010, 0x08, 0x08, .i64, 8, false, 1, 0, false, false, .num 0, []⟩]

/-- Object rows, part 9. -/
def objRows9 : List ObjRow := [
  ⟨0x1010, 0x09, 0x09, .i32, 4, false, 1, 0, false, false, .num 0, []⟩,
  ⟨0x1010, 0x0A, 0x0A, .oct, 8, false, 1, 0, false, false, .bytes (zeros 8), []⟩,
  ⟨0x1020, 0x01, 0x01, .u8, 1, false, 1, 0, false, false, .num 0, []⟩,
  ⟨0x1020, 0x02, 0x02, .u32, 4, false, 2, 2, true, false, .num 86400, [(300, 86400)]⟩,
  ⟨0x1020, 0x03, 0x03, .u32, 4, false, 2, 1, true, false, .num 900, [(60, 86400)]⟩,
  ⟨0x1020, 0x04, 0x04, .oct, 32, false, 1, 0, false, false, .bytes [], []⟩,
  ⟨0x1020, 0x05, 0x05, .u32, 4, false, 3, 2, false, false, .num 0, []⟩,
  ⟨0x1020, 0x06, 0x06, .u64, 8, false, 1, 0, false, false, .num 0, []⟩,
  ⟨0x1030, 0x01, 0x01, .u8, 1, false, 2, 0, false, true, .num 0, [(0, 15)]⟩,
  ⟨0x1030, 0x02, 0x02, .oct, 48, false, 1, 0, false, false, .bytes [], []⟩,
  ⟨0x1030, 0x03, 0x03, .oct, 96, false, 3, 2, false, false, .bytes [], []⟩,
  ⟨0x1030, 0x04, 0x04, .u8, 1, false, 3, 2, false, false, .num 0, [(0, 15)]⟩,
  ⟨0x1030, 0x05, 0x05, .u32, 4, false, 2, 2, true, false, .num 210000, [(100000, 10000000)]⟩,
  ⟨0x7000, 0x01, 0x02, .u8, 1, false, 1, 0, false, false, .num 0, []⟩,
  ⟨0x7001, 0x01, 0x02, .u8, 1, false, 1, 0, false, false, .num 0, []⟩,
  ⟨0x7002, 0x01, 0x02, .bool, 1, false, 2, 1, true, false, .num 1, [(0, 1)]⟩,
  ⟨0x7003, 0x01, 0x02, .u8, 1, false, 2, 1, true, false, .num 4, [(1, 4)]⟩,
  ⟨0x7004, 0x01, 0x01, .u8, 1, false, 1, 0, false, false, .num 0, []⟩,
  ⟨0x7004, 0x02, 0x02, .bool, 1, false, 1, 0, false, false, .num 0, []⟩,
  ⟨0x7004, 0x03, 0x03, .bool, 1, false, 3, 1, false, false, .num 0, [(0, 1)]⟩,
  ⟨0x7004, 0x04, 0x04, .u64, 8, false, 1, 0, false, false, .num 0, []⟩,
  ⟨0x7010, 0x01, 0x01, .oct, 6, false, 1, 0, false, false, .bytes [], []⟩,
  ⟨0x7010, 0x02, 0x02, .u8, 1, false, 2, 1, true, false, .num 1, [(0, 3)]⟩,
  ⟨0x7010, 0x03, 0x03, .oct, 16, false, 2, 1, true, false, .bytes (zeros 16), []⟩,
  ⟨0x7010, 0x04, 0x04, .u8, 1, false, 2, 1, true, false, .num 64, [(1, 128)]⟩,
  ⟨0x7010, 0x05, 0x05, .oct, 16, false, 2, 1, true, false, .bytes (zeros 16), []⟩,
  ⟨0x7010, 0x06, 0x06, .oct, 4, false, 2, 1, true, false, .bytes (zeros 4), []⟩,
  ⟨0x7010, 0x07, 0x07, .u8, 1, false, 2, 1, true, false, .num 24, [(1, 32)]⟩,
  ⟨0x7010, 0x08, 0x08, .oct, 4, false, 2, 1, true, false, .bytes (zeros 4), []⟩,
  ⟨0x7010, 0x09, 0x09, .u16, 2, false, 2, 1, true, false, .num 1500, [(1280, 9000)]⟩,
  ⟨0x7020, 0x01, 0x01, .u64, 8, false, 1, 0, false, false, .num 0, []⟩,
  ⟨0x7020, 0x02, 0x02, .u64, 8, false, 1, 0, false, false, .num 0, []⟩,
  ⟨0x7020, 0x03, 0x03, .u64, 8, false, 1, 0, false, false, .num 0, []⟩,
  ⟨0x7030, 0x01, 0x01, .bool, 1, false, 2, 1, false, false, .num 0, [(0, 1)]⟩,
  ⟨0x7030, 0x02, 0x02, .oct, 16, false, 1, 0, false, false, .bytes [], []⟩,
  ⟨0x7040, 0x01, 0x04, .bool, 1, false, 2, 2, true, false, .num 1, [(0, 1)]⟩,
  ⟨0x7800, 0x01, 0x01, .u8, 1, false, 1, 0, false, false, .num 0, []⟩,
  ⟨0x7800, 0x02, 0x02, .u64, 8, false, 1, 0, false, false, .num 0, []⟩,
  ⟨0x7800, 0x03, 0x03, .u64, 8, false, 1, 0, false, false, .num 0, []⟩,
  ⟨0x7800, 0x04, 0x04, .u64, 8, false, 1, 0, false, false, .num 0, []⟩]

/-- Object rows, part 10. -/
def objRows10 : List ObjRow := [
  ⟨0x7800, 0x05, 0x05, .u32, 4, false, 1, 0, false, false, .num 0, []⟩,
  ⟨0x7801, 0x01, 0x01, .u32, 4, false, 2, 1, true, false, .num 10000, [(100, 600000)]⟩,
  ⟨0x7801, 0x02, 0x02, .bool, 1, false, 3, 1, false, false, .num 0, [(0, 1)]⟩,
  ⟨0x7801, 0x03, 0x03, .time, 8, false, 1, 0, false, false, .num 0, []⟩,
  ⟨0x7802, 0x01, 0x01, .u64, 8, false, 2, 0, false, true, .num 0, []⟩,
  ⟨0x7802, 0x02, 0x02, .oct, 8192, true, 1, 0, false, false, .bytes [], []⟩,
  ⟨0x7803, 0x01, 0x01, .u16, 2, false, 2, 0, false, true, .num 0, []⟩,
  ⟨0x7803, 0x02, 0x02, .u16, 2, false, 2, 1, true, false, .num 60, [(0, 65535)]⟩,
  ⟨0x7803, 0x03, 0x03, .u16, 2, false, 2, 1, true, false, .num 64, [(1, 65535)]⟩,
  ⟨0x7803, 0x04, 0x04, .u32, 4, false, 1, 0, false, false, .num 0, []⟩,
  ⟨0x7803, 0x05, 0x05, .u64, 8, false, 1, 0, false, false, .num 0, []⟩,
  ⟨0x7804, 0x01, 0x01, .bool, 1, false, 3, 2, false, false, .num 0, [(0, 1)]⟩,
  ⟨0x7804, 0x02, 0x02, .time, 8, false, 1, 0, false, false, .num 0, []⟩,
  ⟨0x7C00, 0x01, 0x01, .oct, 2, false, 3, 1, false, false, .bytes [], []⟩,
  ⟨0x7C00, 0x02, 0x02, .u64, 8, false, 1, 0, false, false, .num 0, []⟩,
  ⟨0x7C01, 0x01, 0x01, .oct, 16, false, 3, 1, false, false, .bytes [], []⟩,
  ⟨0x7C01, 0x02, 0x02, .bool, 1, false, 3, 1, false, false, .num 0, [(0, 1)]⟩,
  ⟨0x7C01, 0x03, 0x03, .u8, 1, false, 1, 0, false, false, .num 0, []⟩,
  ⟨0x7C01, 0x04, 0x04, .oct, 64, false, 1, 0, false, false, .bytes (zeros 64), []⟩,
  ⟨0x7C02, 0x01, 0x01, .u8, 1, false, 2, 1, true, false, .num 0, [(0, 15)]⟩,
  ⟨0x7C02, 0x02, 0x02, .u16, 2, false, 2, 1, true, false, .num 24, [(0, 720)]⟩,
  ⟨0x7C02, 0x03, 0x03, .time, 8, false, 1, 0, false, false, .num 0, []⟩,
  ⟨0x7C03, 0x01, 0x01, .u64, 8, false, 1, 0, false, false, .num 0, []⟩,
  ⟨0x7C03, 0x02, 0x02, .u64, 8, false, 1, 0, false, false, .num 0, []⟩]

/-- Every object of the dictionary. -/
def objRows : List ObjRow :=
  objRows0 ++ objRows1 ++ objRows2 ++ objRows3 ++ objRows4 ++ objRows5 ++ objRows6 ++ objRows7 ++ objRows8 ++ objRows9 ++ objRows10

/-- The row of an object, if the index and subindex are defined (R481, check 1). -/
def objRow (index sub : Nat) : Option ObjRow :=
  objRows.find? (fun r => r.index == index && r.subLo ≤ sub && sub ≤ r.subHi)

/-- The highest valid subindex of an index, if the index is defined (R16). -/
def highestSub (index : Nat) : Option Nat :=
  (objRows.filter (fun r => r.index == index)).foldl (fun acc r => match acc with
    | none => some r.subHi
    | some h => some (max h r.subHi)) none

/-- The widths of the fields of an octet layout from its byte 0, as far as a field of more than one byte stands; octets and
names count as bytes. Ledger records, firmware images, certificates and wrapped keys keep their own form (log entry 121). -/
def octWidths (key : Nat) : List Nat :=
  let ones (n : Nat) : List Nat := List.replicate n 1
  match key with
  | 0x300201 => [2] ++ ones 6 ++ [8, 4]
  | 0x300202 => [2] ++ ones 6 ++ [8]
  | 0x302401 => [8, 8] ++ ones 8 ++ [8, 4, 2]
  | 0x302403 => [2, 2, 4, 8]
  | 0x380A01 | 0x580203 => ones 4 ++ List.replicate 30 2
  | 0x400504 => [4, 2, 2, 4]
  | 0x481001 => ones 4 ++ [2, 2, 2] ++ ones 6 ++ (List.replicate 168 (ones 6 ++ [2, 2, 1, 1])).flatten
  | 0x502005 => [1, 1, 2, 2, 1, 1, 8]
  | 0x600601 => ones 16 ++ List.replicate 168 2
  | 0x600602 => ones 16 ++ List.replicate 264 2
  | 0x680101 | 0x680104 => [4] ++ ones 4 ++ [4, 4]
  | 0x680103 => [4, 4]
  | 0x680107 => ones 4 ++ [4, 4, 2]
  | 0x102004 => [4] ++ ones 4 ++ [8, 8, 8]
  | 0x103002 => ones 4 ++ [4] ++ ones 32 ++ [8]
  | 0x103003 => ones 4 ++ [4]
  | 0x7C0101 => [1, 1, 2, 4, 4]
  | 0x7C0104 => ones 4 ++ [2] ++ ones 2 ++ [8, 8, 8, 8]
  | _ => []

/-- The widths of the numbers of a quote (R476). -/
def quoteWidths : List Nat := [4, 2, 2] ++ List.replicate 16 1 ++ [8, 4]

/-- The numbers of a layout in the other byte order. -/
def swapFields : List Nat → Bytes → Bytes
  | [], b => b
  | w :: ws, b => (b.take w).reverse ++ swapFields ws (b.drop w)

/-- A layout as a transport carries it: big-endian on RXMP (R11, R17). -/
def octOrder (big : Bool) (r : ObjRow) (b : Bytes) : Bytes :=
  if big then swapFields (octWidths (r.index * 256 + r.subLo)) b else b

/-- The numbers of the default of an object that neither the table nor a chapter gives otherwise. -/
def objDefault (index sub : Nat) : OVal :=
  match objRow index sub with
  | some r => r.dflt
  | none => .num 0

end Sys2Proof.Machine
end

