-- ==== Sys2Proof/Machine/Secure.lean ====
section
/-! DEFINITION. Locksmith (14): key blobs, export, destruction, generations, known-answer tests, images, secure boot,
measurements and quotes. An operation that answers a dictionary write gives a status and the state. -/

namespace Sys2Proof.Machine

/-! ### Measurements (R474) -/

/-- MR_i = SHA-512(MR_i ‖ SHA-512(data)). -/
def mrExtend (i : Nat) (data : Bytes) : State → State :=
  modLock (fun l => { l with mrs := l.mrs.set i (Config.sha512 (l.mrs.getD i [] ++ Config.sha512 data)) })

/-- What MR4 is extended with for a key. -/
def keyMeasure (k : Key) : Bytes := leBytes 1 k.kind ++ leBytes 4 k.id ++ leBytes 4 k.parent

/-! ### Key store (R454) -/

/-- The key store is written: the keys with PERSIST and MK (R454). -/
def writeStore : State → State :=
  modLock (fun l => { l with store := l.keys.filter (fun k => bit k.flags 0), storeMeta := l.metaKey
                             storeSeq := l.storeSeq + 1 })

/-- The newest valid copy is loaded (R454). -/
def loadStore (s : State) : State :=
  let s := modLock (fun l => { l with keys := l.store, metaKey := l.storeMeta, metaPending := none }) s
  (s.lock.keys ++ s.lock.metaKey.toList).foldl (fun s k => mrExtend 4 (keyMeasure k) s) s

/-- A KEY event (R534). -/
def keyEvent (op : Nat) (k : Key) : State → State := event 0xA901 0 0 (leBytes 1 op ++ leBytes 1 k.kind ++ leBytes 4 k.id)

/-! ### Key blobs (R451, R452) -/

/-- The session of a channel. -/
def chanSession (s : State) : Channel → Option Session
  | .rxmp id => s.sess.sessions.find? (fun x => x.id == id)
  | .mailbox p => (s.ports.get p).mailbox.session.bind (fun id => s.sess.sessions.find? (fun x => x.id == id))
  | .anonymous _ => none

/-- Is the blob's header well-formed (R451, R452)? -/
def blobHeaderOk (b : Bytes) : Bool :=
  field b 0 4 == 0x59424C42 && field b 4 1 == 1 && decide (1 ≤ field b 5 1) && decide (field b 5 1 ≤ 3) &&
    decide (field b 6 1 ≤ 1) && decide (field b 7 1 < 4) && decide (1 ≤ field b 8 4) &&
    decide (field b 8 4 ≤ 0xFFFFFFFE) && allZero (slice b 16 16)

/-- The key that wraps a blob: SWK of the session for a CUSTODIAN_KEK, else a loaded CUSTODIAN_KEK (R450, R452). -/
def blobParent (s : State) (ch : Channel) (b : Bytes) : Option Bytes :=
  if field b 5 1 = 1 then if field b 12 4 = 0 then (chanSession s ch).map (fun x => x.swk) else none
  else ((getKey s (field b 12 4)).filter (fun k => k.kind == 1)).map (fun k => k.value)

/-- Does the attribute block repeat the header (R451)? -/
def attrOk (b attr : Bytes) : Bool :=
  field attr 0 1 == field b 5 1 && field attr 1 1 == field b 7 1 && field attr 2 2 == 0 &&
    field attr 4 4 == field b 8 4 && allZero (slice attr 24 8) &&
    (field b 5 1 == 2 || allZero (slice attr 8 16))

/-- The key that a blob with its plaintext stands for. -/
def blobKey (b plain : Bytes) : Key :=
  { kind := field b 5 1, flags := field b 7 1, id := field b 8 4, parent := field b 12 4
    arrayId := if field b 5 1 = 2 then slice plain 8 16 else zeros 16, value := slice plain 32 32 }

/-- Every key that is held or pending. -/
def heldKeys (s : State) : List Key := s.lock.keys ++ s.lock.metaKey.toList ++ s.lock.metaPending.toList

/-- Are two keys one: of one kind, KEY_ID and value (R452)? -/
def sameKey (a b : Key) : Bool := a.kind == b.kind && a.id == b.id && a.value == b.value && a.arrayId == b.arrayId

/-- Is the store full for a kind (R452)? -/
def storeFull (s : State) (kind : Nat) : Bool :=
  let n := (s.lock.keys.filter (fun k => k.kind == kind)).length
  (kind == 1 && decide (16 ≤ n)) || (kind == 3 && decide (4096 ≤ n))

/-- A key takes its place (R452, R454). -/
def installKey (k : Key) (s : State) : State :=
  let s := if k.kind = 2 then modLock (fun l => { l with metaPending := some k }) s
    else modLock (fun l => { l with keys := l.keys ++ [k] }) s
  let s := if bit k.flags 0 && k.kind != 2 then writeStore s else s
  mrExtend 4 (keyMeasure k) (keyEvent 1 k s)

/-- KEY_LOAD (R452, R468): the first matching row of R452 refuses. -/
def keyLoad (ch : Channel) (b : Bytes) (s : State) : Nat × State :=
  if b.length ≠ 104 then (stType, s)
  else if blobHeaderOk b = false then (stValue, s)
  else if s.lock.drbg = 2 ∨ s.lock.engineOk = false then (stBusy, s)
  else
    match blobParent s ch b with
    | none => (stKeyUnavailable, s)
    | some parent =>
      match Config.unwrap (field b 6 1) parent (b.drop 32) with
      | none => (stUnwrapFailed, s)
      | some plain =>
        let k := blobKey b plain
        if attrOk b plain = false ∨ allZero k.value = true then (stUnwrapFailed, s)
        else if k.kind = 2 ∧ allZero s.dur.arrayId = false ∧ k.arrayId ≠ s.dur.arrayId then (stValue, s)
        else if (heldKeys s).any (sameKey k) then (stSuccess, s)
        else if (s.lock.keys ++ s.lock.metaKey.toList).any (fun x => x.id == k.id) then (stValue, s)
        else if k.kind = 2 ∧ allZero s.dur.arrayId = false then (stValue, s)
        else if storeFull s k.kind then (stRangeInvalid, s)
        else (stSuccess, installKey k s)

/-! ### Destruction and export (R455, R456) -/

/-- Is a key in use, so that it may not be destroyed (R456)? -/
def keyBusy (s : State) (k : Key) : Bool :=
  (k.kind == 2 && s.lock.metaKey == some k && !allZero s.dur.arrayId) ||
    (k.kind == 3 && s.tabs.vols.any (fun e => e.2.encrypted && e.2.keyId == k.id)) ||
    (k.kind == 1 && (heldKeys s).any (fun x => x.kind != 1 && x.parent == k.id))

/-- KEY_DESTROY (R456). -/
def keyDestroy (id : Nat) (s : State) : Nat × State :=
  match (heldKeys s).find? (fun k => k.id == id) with
  | none => (stNotFound, s)
  | some k =>
    if keyBusy s k then (stBusy, s)
    else
      let s := modLock (fun l => { l with
        keys := l.keys.filter (fun x => x.id != id)
        metaKey := l.metaKey.filter (fun x => x.id != id)
        metaPending := l.metaPending.filter (fun x => x.id != id) }) s
      (stSuccess, mrExtend 4 (keyMeasure k) (keyEvent 2 k (writeStore s)))

/-- The attribute block and key that a blob wraps (R451). -/
def keyPlain (k : Key) : Bytes :=
  leBytes 1 k.kind ++ leBytes 1 k.flags ++ [0, 0] ++ leBytes 4 k.id ++ fit 16 (if k.kind = 2 then k.arrayId else []) ++
    zeros 8 ++ fit 32 k.value

/-- The KWP blob of a key under a CUSTODIAN_KEK (R451, R455). -/
def exportBlob (k kek : Key) : Bytes :=
  leBytes 4 0x59424C42 ++ [1] ++ leBytes 1 k.kind ++ [1] ++ leBytes 1 k.flags ++ leBytes 4 k.id ++ leBytes 4 kek.id ++
    zeros 16 ++ fit 72 (Config.wrap kek.value (keyPlain k))

/-- A read of KEY_EXPORT with the selection of its channel (R455). -/
def keyExport (sel : Bytes) (s : State) : Nat × Bytes × State :=
  let k := (s.lock.keys ++ s.lock.metaKey.toList).find? (fun k => k.id == field sel 0 4)
  let kek := (getKey s (field sel 4 4)).filter (fun x => x.kind == 1)
  match k, kek with
  | some k, some kek =>
    if s.lock.metaKey = some k ∨ bit k.flags 1 = true then (stSuccess, exportBlob k kek, keyEvent 3 k s)
    else (stAccessDenied, [], s)
  | _, _ => (stAccessDenied, [], s)

/-! ### Generations (R464) -/

/-- XGEN_ROLL. -/
def xgenRoll (v : Nat) (s : State) : Nat × State :=
  match getVol s v with
  | none => (stNotFound, s)
  | some vol =>
    if vol.encrypted = false then (stNotFound, s)
    else if rollAllowed vol then (stSuccess, openGen v s)
    else (stKeyLimit, s)

/-! ### Known-answer tests and the DRBG (R467 to R470) -/

/-- A LOCKSMITH_FAULT event (R534). -/
def lockFault (source lane : Nat) : State → State := event 0xA905 2 0 (leBytes 1 source ++ leBytes 1 lane)

/-- The tests ran: lanes and the key engine that failed twice (R470). -/
def lockTests (lanes : List Nat) (engine : Bool) (s : State) : State :=
  let bad := (dedup lanes).filter (fun n => decide (n < 48) && s.lock.lanesOk.toNat.testBit n)
  if bad.isEmpty && !engine then
    modPw (fun p => { p with faults := p.faults.filter (fun f => f != .lockKat) })
      (modLock (fun l => { l with katResult := 1, katLastPass := s.clk.now }) s)
  else
    let s := modLock (fun l => { l with
      katResult := 2, engineOk := l.engineOk && !engine
      lanesOk := bad.foldl (fun v n => v &&& ~~~(BitVec.ofNat 48 (2 ^ n))) l.lanesOk }) s
    let s := bad.foldl (fun s n => lockFault 2 n s) s
    addFault .lockKat (if engine then lockFault 3 0xFF s else s)

/-- LOCK_KAT_RUN (R469, R470). -/
def lockKatRun (lanes : List Nat) (engine : Bool) (s : State) : Nat × State :=
  if s.pw.state = .standby ∨ s.pw.state = .dump then (stBusy, s)
  else
    let t := lockTests lanes engine s
    (if t.lock.katResult = 2 then stSelftest else stSuccess, t)

/-- LOCK_KAT_INTERVAL_EXPIRY (R469). -/
def execLockKatIntervalExpiry (lanes : List Nat) (engine : Bool) (s : State) : Host.Outcome State Fault Refusal :=
  finish (if serving s then lockTests lanes engine s else s)

/-- DRBG_HEALTH_FAIL (R468): the third failure of a health test. -/
def execDrbgHealthFail (s : State) : Host.Outcome State Fault Refusal :=
  if awake s && s.lock.drbg == 1 then
    finish (lockFault 1 0xFF (modLock (fun l => { l with drbg := 2 }) s))
  else finish s

/-! ### Images (R471 to R473) -/

/-- The image slot with a number: 0 A, 1 B. -/
def imageSlot (s : State) (n : Nat) : ImageSlot := if n = 0 then s.lock.imageA else s.lock.imageB

/-- The state with an image slot replaced. -/
def setImage (n : Nat) (x : ImageSlot) : State → State :=
  modLock (fun l => if n = 0 then { l with imageA := x } else { l with imageB := x })

/-- SVN of an image (R471). -/
def imageSvn (x : ImageSlot) : Nat := field x.header 6 1

/-- The first check of R472 that an image fails. -/
def imageCheck (s : State) (x : ImageSlot) : Option Nat :=
  let h := x.header
  let body := x.body.take (field h 16 8)
  if x.present = false ∨ field h 0 4 ≠ 0x5946574D ∨ field h 4 2 ≠ 1 then some 1
  else if Config.sha512 (slice h 88 512) ≠ Config.rootKeyHash then some 2
  else if Config.rsaVerify (slice h 88 512) (slice h 0 600) (slice h 600 512) = false then some 3
  else if body.length ≠ field h 16 8 ∨ Config.sha512 body ≠ slice h 24 64 then some 4
  else if imageSvn x < s.lock.fuses then some 5
  else none

/-- The slot that does not run. -/
def otherSlot (s : State) : Nat := 1 - s.pw.bootImage

/-- A BOOT event (R534). -/
def bootEvent (image check : Nat) (fallback : Bool) : State → State :=
  event 0xA903 1 0 (leBytes 1 image ++ leBytes 1 check ++ leBytes 1 (b2n fallback))

/-- Measurement registers before an image runs, and with it (R474). What MR2 and MR3 are extended with has no encoding
in the spec: free bytes (log entry 1). -/
def measureBoot (header : Option Bytes) (s : State) : State :=
  let s := modLock (fun l => { l with mrs := List.replicate 8 (zeros 64) }) s
  let s := mrExtend 0 (Config.romVersion ++ Config.rootKeyHash ++ leBytes 1 s.lock.fuses) s
  match header with
  | none => s
  | some h =>
    let s := mrExtend 1 (fit 4096 h) s
    let f := freeBytes 64 s
    let g := freeBytes 64 f.2
    mrExtend 3 g.1 (mrExtend 2 f.1 g.2)

/-- Secure boot (R65, R472): the image BOOT_NEXT names, else the other; with neither, the recovery service. -/
def secureBoot (s : State) : Bool × State :=
  let a := cfgBootNext s
  match imageCheck s (imageSlot s a), imageCheck s (imageSlot s (1 - a)) with
  | none, _ =>
    let s := modPw (fun p => { p with bootImage := a }) (modLock (fun l => { l with recovery := false }) s)
    (true, measureBoot (some (imageSlot s a).header) s)
  | some c, none =>
    let s := modPw (fun p => { p with bootImage := 1 - a }) (modLock (fun l => { l with recovery := false }) s)
    (true, bootEvent a c true (measureBoot (some (imageSlot s (1 - a)).header) s))
  | some c, some d =>
    let s := modLock (fun l => { l with recovery := true }) s
    (false, bootEvent (1 - a) d false (bootEvent a c false (measureBoot none s)))

/-- ROLLBACK_COMMIT (R473). -/
def rollbackCommit (n : Nat) (s : State) : Nat × State :=
  let other := imageSlot s (otherSlot s)
  if n < s.lock.fuses then (stValue, s)
  else if n = s.lock.fuses then (stSuccess, s)
  else if imageSvn (imageSlot s s.pw.bootImage) < n then (stRollback, s)
  else if imageCheck s other = none ∧ imageSvn other < n then (stBusy, s)
  else (stSuccess, modLock (fun l => { l with fuses := n }) s)

/-- Is an update in progress? -/
def updating (s : State) : Bool := s.lock.fwState == .receiving || s.lock.fwState == .verified

/-- BEGIN: the slot that does not run is erased (R473). -/
def fwBegin (ch : Nat) (s : State) : Nat × State :=
  if updating s = true ∧ s.lock.fwOwner ≠ some ch then (stBusy, s)
  else
    (stSuccess, setImage (otherSlot s) ⟨false, [], []⟩
      (modLock (fun l => { l with fwState := .receiving, fwData := [], fwOwner := some ch }) s))

/-- Most bytes of an image: the header and 120 MiB (R471). -/
def imageMax : Nat := 4096 + 120 * 2 ^ 20

/-- FW_UPDATE_DATA: the next 4 KiB of the image. -/
def fwPiece (ch : Nat) (b : Bytes) (s : State) : Nat × State :=
  if s.lock.fwState ≠ .receiving ∨ s.lock.fwOwner ≠ some ch then (stBusy, s)
  else if imageMax < s.lock.fwData.length + 4096 then (stRangeInvalid, s)
  else
    let d := s.lock.fwData ++ fit 4096 b
    (stSuccess, setImage (otherSlot s) ⟨true, d.take 4096, d.drop 4096⟩ (modLock (fun l => { l with fwData := d }) s))

/-- VERIFY under the checks of R472. -/
def fwVerify (ch : Nat) (s : State) : Nat × State :=
  if s.lock.fwState ≠ .receiving ∨ s.lock.fwOwner ≠ some ch then (stBusy, s)
  else
    match imageCheck s (imageSlot s (otherSlot s)) with
    | none => (stSuccess, modLock (fun l => { l with fwState := .verified }) s)
    | some c =>
      (if c = 5 then stRollback else stSignature, modLock (fun l => { l with fwState := .failed }) s)

/-- CANCEL leaves the erased slot empty. -/
def fwCancel (ch : Nat) (s : State) : Nat × State :=
  if s.lock.fwOwner ≠ some ch then (stBusy, s)
  else
    (stSuccess, setImage (otherSlot s) ⟨false, [], []⟩
      (modLock (fun l => { l with fwState := .idle, fwData := [], fwOwner := none }) s))

/-! ### Quotes (R476, R477) -/

/-- The quote of a channel. -/
def findQuote (s : State) (ch : Nat) : Option Quote := s.lock.quotes.find? (fun q => q.channel == ch)

/-- QUOTE_NONCE. -/
def quoteNonce (ch : Nat) (n : Bytes) : State → State :=
  modLock (fun l => { l with quotes := l.quotes.filter (fun q => q.channel != ch) ++ [⟨ch, fit 64 n, none⟩] })

/-- Bytes 0 to 615 of a quote (R476). -/
def quoteBody (s : State) (nonce : Bytes) : Bytes :=
  leBytes 4 0x59515445 ++ leBytes 2 1 ++ leBytes 2 1128 ++ fit 16 (fit 12 Config.serial) ++ leBytes 8 s.clk.now ++
    leBytes 4 s.lock.bootCount ++ leBytes 1 s.pw.bootImage ++ leBytes 1 (imageSvn (imageSlot s s.pw.bootImage)) ++
    leBytes 1 s.lock.fuses ++ [0] ++ fit 64 nonce ++ (s.lock.mrs.map (fit 64)).flatten

/-- QUOTE_SIGNED (R477): the quote of a channel is signed, over its bytes in the order of its transport (R11). -/
def execQuoteSigned (ch : Channel) (s : State) : Host.Outcome State Fault Refusal :=
  match findQuote s (chanKey ch) with
  | some q =>
    if awake s && q.quote.isNone then
      let body := if 4 ≤ q.channel then swapFields quoteWidths (quoteBody s q.nonce) else quoteBody s q.nonce
      let sig := fit 512 (Config.rsaSign s.lock.drbgRequests body)
      finish (modLock (fun l => { drbgUse 1 l with
        quotes := l.quotes.map (fun x => if x.channel = q.channel then { x with quote := some (body ++ sig) } else x) }) s)
    else finish s
  | none => finish s

end Sys2Proof.Machine
end

