-- ==== Sys2Proof/Machine/Battery.lean ====
section
/-! DEFINITION. The estimator's arithmetic: tables, temperature, estimate, uncertainty and the energy bound (R419 to
R437), over exact percentages and millivolts. -/

namespace Sys2Proof.Machine

/-- Nanoseconds in a second, an hour and a day. -/
def secNs : Nat := 1000000000
/-- The size of a number without its sign. -/
def absRat (x : Rat) : Rat := if x < 0 then -x else x

/-- See `secNs`. -/
def hourNs : Nat := 3600 * secNs
/-- See `secNs`. -/
def dayNs : Nat := 86400 * secNs

/-! ### Tables (R427 to R429) -/

/-- The default TEMP row (R429). -/
def defaultTemps : List Int := [-10, 0, 10, 20, 30, 40, 50, 60]

/-- The default OCV row at 20 °C in 10 % steps (R429). -/
def ocv20 : List Nat := [3000, 3450, 3560, 3620, 3670, 3720, 3790, 3870, 3960, 4060, 4140]

/-- The default resistance rows at 20 °C for rate indices 1, 2 and 3, in 0.1 mΩ (R429). -/
def res20 : Nat → List Nat
  | 1 => [600, 340, 260, 240, 230, 230, 230, 230, 240, 250, 260]
  | 2 => [450, 280, 220, 200, 190, 190, 190, 190, 190, 200, 200]
  | _ => [400, 240, 190, 170, 160, 160, 160, 160, 160, 170, 170]

/-- The eight table temperatures (R427). -/
def tableTemps (s : State) : List Int :=
  let b := cfgOcvTable s
  if b.isEmpty then defaultTemps else (List.range 8).map (fun i => ofTwos 8 (field b (4 + i) 1))

/-- Row `t` of the OCV table: 21 voltages in mV (R427). Of the default table R429 gives the row at 20 °C in 10 % steps;
the points between lie midway, as the example of R438 reads them (log entry 20). -/
def ocvRow (s : State) (t : Nat) : List Rat :=
  let b := cfgOcvTable s
  (List.range 21).map (fun i =>
    if b.isEmpty then
      if t = 3 then (((ocv20.getD (i / 2) 0 + ocv20.getD ((i + 1) / 2) 0) / 2 : Nat) : Rat)
      else (Config.ocvDefault t i : Rat)
    else (field b (16 + 42 * t + 2 * i) 2 : Rat))

/-- Row `t` of the resistance block of a rate index: 11 values in 0.1 mΩ (R428). -/
def resRow (s : State) (rate t : Nat) : List Rat :=
  let b := cfgResTable s
  (List.range 11).map (fun i =>
    if b.isEmpty then
      if t = 3 then ((res20 rate).getD i 0 : Rat) else (Config.resDefault rate t i : Rat)
    else (field b (16 + 176 * (rate - 1) + 22 * t + 2 * i) 2 : Rat))

/-- The place of a temperature (°C) among the table temperatures: the row below, the row above and how far between
them it lies; outside the range the nearest row (R430). -/
def tempPlace (s : State) (t : Rat) : Nat × Nat × Rat :=
  let ts := tableTemps s
  let below := (List.range 8).filter (fun i => decide ((ts.getD i 0 : Rat) ≤ t))
  match below.getLast? with
  | none => (0, 0, 0)
  | some 7 => (7, 7, 0)
  | some i =>
    let a : Rat := ts.getD i 0
    let b : Rat := ts.getD (i + 1) 0
    (i, i + 1, (t - a) / (b - a))

/-- Two rows blended. -/
def blend (a b : List Rat) (w : Rat) : List Rat := List.zipWith (fun x y => x + (y - x) * w) a b

/-- The OCV row at a temperature (R430). -/
def ocvAt (s : State) (t : Rat) : List Rat :=
  let p := tempPlace s t
  blend (ocvRow s p.1) (ocvRow s p.2.1) p.2.2

/-- The resistance row at a temperature, at scale 1,000 ‰ (R430). -/
def resAt (s : State) (rate : Nat) (t : Rat) : List Rat :=
  let p := tempPlace s t
  blend (resRow s rate p.1) (resRow s rate p.2.1) p.2.2

/-- A row read at a state of charge (%), with its points `step` % apart (R430). -/
def readRow (row : List Rat) (step soc : Rat) : Rat :=
  let n := row.length - 1
  let i := min (n - 1) (max 0 (soc / step).floor).toNat
  let a := row.getD i 0
  let b := row.getD (i + 1) a
  a + (b - a) * (max 0 (min 100 soc) - step * i) / step

/-- The segment of an OCV row that a voltage lies in. -/
def ocvSegment (row : List Rat) (v : Rat) : Nat :=
  min 19 (((List.range 21).filter (fun i => decide (row.getD i 0 ≤ v))).length - 1)

/-- soc_from_ocv (R430): 0 below the row, 100 above it. -/
def socFromOcv (row : List Rat) (v : Rat) : Rat :=
  if v ≤ row.getD 0 0 then 0
  else if row.getD 20 0 ≤ v then 100
  else
    let i := ocvSegment row v
    let a := row.getD i 0
    5 * i + 5 * (v - a) / (row.getD (i + 1) 0 - a)

/-- The gradient of an OCV row at a voltage, mV per % (R432). -/
def ocvSlope (row : List Rat) (v : Rat) : Rat :=
  let i := ocvSegment row v
  (row.getD (i + 1) 0 - row.getD i 0) / 5

/-- The place of the table temperature nearest a temperature, the lower of two equally near (R430). -/
def nearestTemp (s : State) (t : Rat) : Nat :=
  let ts := tableTemps s
  (List.range 8).foldl (fun best i =>
    let d (j : Nat) : Rat := absRat ((ts.getD j 0 : Rat) - t)
    if d i < d best then i else best) 0

/-! ### The pack (R419 to R421) -/

/-- PACK_STATE for an ID voltage in mV (R420). -/
def packIdState (mv : Nat) : Nat :=
  if 1700 < mv then 0 else if 1240 ≤ mv ∧ mv ≤ 1330 then 1 else if mv < 100 then 3 else 2

/-- An NTC fault (R421). -/
def ntcBad (mv : Nat) : Bool := decide (1700 < mv) || decide (mv < 100)

/-- ln((900 + y) / (900 - y)) in units of 10^-12, from the series of the area tangent to `n` terms. -/
def lnRatio (y : Int) (n : Nat) : Int :=
  let z := y * 10 ^ 12 / 900
  let z2 := z * z / 10 ^ 12
  2 * ((List.range n).foldl (fun (acc : Int × Int) (k : Nat) => (acc.1 + acc.2 / (2 * (k : Int) + 1), acc.2 * z2 / 10 ^ 12)) (0, z)).1

/-- Pack temperature in tenths of a degree for an NTC voltage in mV, rounded to the nearest tenth (R421; log entry
18). -/
def ntcTemp (mv : Nat) : Int :=
  let l := lnRatio ((mv : Int) - 900) 80
  let kelvin100 := 100 * 29815 * 3435 * 10 ^ 12 / (343500 * 10 ^ 12 + 29815 * l)
  (kelvin100 - 27315 + 5) / 10

/-- Pack temperature in °C. -/
def packTempC (s : State) : Rat := (s.tally.pack.temp : Rat) / 10

/-- TEMP_OUT: the pack outside −10 to 60 °C (R433, R447). -/
def tempOut (s : State) : Bool := decide (s.tally.pack.temp < -100) || decide (600 < s.tally.pack.temp)

/-- The least of a list of voltages, 0 for an empty one. -/
def leastCell (cells : List Nat) : Nat := cells.foldl min (cells.getD 0 0)

/-- The greatest of a list of voltages. -/
def greatestCell (cells : List Nat) : Nat := cells.foldl max 0

/-! ### Estimate, uncertainty and energy (R430 to R433) -/

/-- R_SCALE of the table temperature nearest the pack temperature, ‰ (R430). -/
def rScaleNow (s : State) : Nat := s.tally.gauge.rScale.getD (nearestTemp s (packTempC s)) 1000

/-- r(rate, e, t) in mΩ (R430). -/
def resistance (s : State) (rate : Nat) (soc : Rat) : Rat :=
  readRow (resAt s rate (packTempC s)) 10 soc * rScaleNow s / 10000

/-- The current the charger sets, in A (R423). -/
def chargeCurrent (s : State) : Rat :=
  if s.tally.charger.state == .precharge then 15 / 100
  else if s.tally.pack.temp < 100 then 50 / 100 else 150 / 100

/-- The open-circuit voltage of a cell of `v` mV under the load of the rate index (R430). -/
def cellOcv (s : State) (v : Nat) : Rat :=
  let g := s.tally.gauge
  match rateIndex s with
  | 1 => if s.tally.charger.state == .cv then v else v - chargeCurrent s * resistance s 1 g.e
  | 2 => v + (120000 / (s.tally.pack.mv : Rat)) * resistance s 2 g.e
  | _ => v

/-- ev_min: the estimate of the weakest cell (R430). -/
def weakestSoc (s : State) : Rat :=
  let row := ocvAt s (packTempC s)
  (s.tally.pack.cells.map (fun v => socFromOcv row (cellOcv s v))).foldl min 100

/-- The estimate after one update (R430). -/
def nextEstimate (s : State) : Rat :=
  let g := s.tally.gauge
  match s.tally.charger.state, rateIndex s with
  | .precharge, 1 | .cc, 1 => weakestSoc s
  | .cv, 1 => g.e
  | _, _ => min g.e (weakestSoc s)

/-- The uncertainty u (R431). -/
def uncertainty (s : State) : Rat :=
  let g := s.tally.gauge
  let u0 : Rat := if g.tableChanged then max 10 g.u0 else g.u0
  let hours : Rat := ((s.clk.now - g.sinceTime : Nat) : Rat) / hourNs
  let dt : Rat := absRat ((s.tally.pack.temp - g.refTemp : Int) : Rat) / 10
  min 100 (u0 + hours / 4 + dt / 10 + (if s.tally.charger.state.charging then 2 else 0) +
    (if rateIndex s = 2 then 3 else 0))

/-- SOC_LOW (R431). -/
def socLow (g : Gauge) : Rat := max 0 (g.e - g.u)

/-- CAP_BOUND in mWh (R433; log entry 19 for d). -/
def capBound (s : State) : Rat :=
  let g := s.tally.gauge
  if g.capLearned = 0 then 35000
  else
    let d : Rat := ((s.clk.now - g.learnTime : Nat) : Rat) / dayNs
    max 0 (g.capLearned * (1 - d / 3000))

/-- s_cut, in % (R433). -/
def socCut (s : State) : Rat :=
  let t := packTempC s
  let ocv := ocvAt s t
  let res := resAt s 3 t
  let scale : Rat := max 1000 (rScaleNow s)
  let passes (i : Nat) : Bool :=
    decide (2800 ≤ readRow ocv 5 (10 * i) - (205 / 10) * (res.getD i 0 * scale / 10000))
  match (List.range 11).find? passes with
  | some i => 10 * i
  | none => 100

/-- ENERGY_LOW in joules (R433). -/
def energyLow (s : State) : Rat :=
  let g := s.tally.gauge
  if s.tally.pack.state ≠ 1 ∨ s.tally.charger.state = .fault ∨ tempOut s = true then 0
  else max 0 (socLow g - socCut s) / 100 * (capBound s / 1000) * 3600 * (85 / 100)

/-- RESERVE_OK for what the gauge holds (R437). -/
def reserveNow (s : State) : Bool :=
  let g := s.tally.gauge
  s.tally.pack.state == 1 && s.tally.charger.state != .fault && !g.stale &&
    decide ((if g.reserveOk then 1200 else 1320 : Rat) ≤ g.energyLow)

/-- The reported SOC after one update (R436). `fresh` says that a reference or an insertion has just been taken. -/
def nextReported (s : State) (fresh : Bool) : Rat :=
  let g := s.tally.gauge
  if g.stale then socLow g
  else
    let charge := s.tally.charger.state == .precharge || s.tally.charger.state == .cc
    let raw : Rat :=
      if cfgReportMode s = 1 then
        let slew : Rat := (cfgConvergeSlew s : Rat) / 6000
        if g.r < g.e then min g.e (g.r + slew) else max g.e (g.r - slew)
      else if fresh || charge then g.e else min g.r g.e
    max (socLow g) (min (g.e + g.u) raw)

end Sys2Proof.Machine
end

