-- ==== Sys2Proof/Machine/Tallyman.lean ====
section
/-! DEFINITION. Tallyman (13): pack, charger, estimator, learn cycle and NOR slots. -/

namespace Sys2Proof.Machine

/-! ### Access -/

/-- The state with Tallyman changed by `f`. -/
def modTally (f : Tallyman → Tallyman) (s : State) : State := { s with tally := f s.tally }

/-- The state with the pack changed by `f`. -/
def modPack (f : BatPack → BatPack) : State → State := modTally (fun t => { t with pack := f t.pack })

/-- The state with the charger changed by `f`. -/
def modCharger (f : Charger → Charger) : State → State := modTally (fun t => { t with charger := f t.charger })

/-- The state with the gauge changed by `f`. -/
def modGauge (f : Gauge → Gauge) : State → State := modTally (fun t => { t with gauge := f t.gauge })

/-- The state with the learn cycle changed by `f`. -/
def modLearn (f : Learn → Learn) : State → State := modTally (fun t => { t with learn := f t.learn })

/-- A PACK event (R534). -/
def packEvent (s : State) : State :=
  let p := s.tally.pack.state
  let f := s.tally.charger.fault
  event 0x9801 (if p = 2 ∨ p = 3 ∨ f ≠ 0 then 1 else 0) 0 (leBytes 1 p ++ leBytes 1 f) s

/-! ### NOR slots (R443 to R445) -/

/-- A percentage in units of 0.01 %, rounded down (R443). -/
def centi (x : Rat) : Nat := (x * 100).floor.toNat

/-- LEARN_DUE (R439): set by its events, or LEARN_INTERVAL days have passed since LEARN_TIME. -/
def learnDue (s : State) : Bool :=
  s.tally.learn.due || (s.tally.gauge.learnTime != 0 &&
    decide (s.tally.gauge.learnTime + cfgLearnInterval s * dayNs ≤ s.clk.now))

/-- The 128 bytes of a slot (R443). -/
def slotBytes (n : NvSlot) : Bytes :=
  let b := leBytes 4 0x59544C59 ++ leBytes 2 1 ++ leBytes 2 128 ++ leBytes 4 n.seq ++ zeros 4 ++ leBytes 8 n.written ++
    leBytes 8 n.inserted ++ leBytes 4 n.capLearned ++ leBytes 8 n.learnTime ++ leBytes 4 n.learnCount ++
    leBytes 1 (packBits [n.learnActive, n.learnDue]) ++ zeros 3 ++ (n.rScale.map (leBytes 2)).flatten ++
    leBytes 8 n.refTime ++ (n.refCells.map (leBytes 2)).flatten ++ leBytes 2 (toTwos 16 n.refTemp) ++
    leBytes 2 n.est ++ leBytes 2 n.u0 ++ leBytes 2 n.soc ++ zeros 32
  b ++ leBytes 4 (crc32c b)

/-- What a slot written now holds (R443). -/
def slotNow (s : State) (seq : Nat) : NvSlot :=
  let t := s.tally
  let n : NvSlot := {
    valid := true, seq := seq, written := s.clk.now, inserted := t.pack.inserted, capLearned := t.gauge.capLearned,
    learnTime := t.gauge.learnTime, learnCount := t.gauge.learnCount, learnActive := t.learn.active,
    learnDue := learnDue s, rScale := t.gauge.rScale, refTime := t.gauge.refTime, refCells := t.gauge.refCells,
    refTemp := t.gauge.refTemp, est := centi t.gauge.e, u0 := centi t.gauge.u0, soc := centi t.gauge.r, bytes := [] }
  { n with bytes := slotBytes n }

/-- Does a write go to slot 0: the invalid one, or the one of lower SLOT_SEQ (R444)? -/
def slotZeroNext (t : Tallyman) : Bool :=
  if !t.slot0.valid then true else if !t.slot1.valid then false else decide (t.slot0.seq ≤ t.slot1.seq)

/-- A slot is erased, programmed and read back (R444). -/
def writeSlot (s : State) : State :=
  let t := s.tally
  if slotZeroNext t then
    modTally (fun t => { t with slot0 := slotNow s (t.slot1.seq + 1), lastSlot := s.clk.uptime, slotDue := false }) s
  else
    modTally (fun t => { t with slot1 := slotNow s (t.slot0.seq + 1), lastSlot := s.clk.uptime, slotDue := false }) s

/-- A write that may be merged with another within 60 s falls due: written at once, or left for the merged write
(R444). -/
def slotFallsDue (s : State) : State :=
  if s.tally.lastSlot = 0 ∨ s.tally.lastSlot + 60 * secNs ≤ s.clk.uptime then writeSlot s
  else modTally (fun t => { t with slotDue := true }) s

/-- The newest valid slot (R445). -/
def newestSlot (t : Tallyman) : Option NvSlot :=
  match t.slot0.valid, t.slot1.valid with
  | true, true => if t.slot0.seq < t.slot1.seq then some t.slot1 else some t.slot0
  | true, false => some t.slot0
  | false, true => some t.slot1
  | false, false => none

/-! ### Charger (R423 to R426) -/

/-- Is the pack inside the charge window; from TEMP_HOLD, 2 °C inside it (R423, R424)? -/
def inWindow (s : State) : Bool :=
  let t := s.tally.pack.temp
  if s.tally.charger.state == .tempHold then decide (20 ≤ t) && decide (t ≤ 430)
  else decide (0 ≤ t) && decide (t ≤ 450)

/-- PRECHARGE, CC or CV for the voltages as they stand (R424). -/
def chargeState (s : State) : ChState :=
  if leastCell s.tally.pack.cells < 3000 then .precharge
  else if 16600 ≤ s.tally.pack.mv then .cv else .cc

/-- The charger enters FAULT with a cause (R425). -/
def chargerFaultWith (cause : Nat) (s : State) : State :=
  if s.tally.charger.state == .fault || s.tally.pack.state != 1 then s
  else
    let s := modCharger (fun c => { c with state := .fault, fault := cause }) s
    packEvent (modGauge (fun g => { g with energyLow := 0, reserveOk := false }) s)

/-- Charging begins with PRECHARGE or CC, or does not because a cell is below 2.50 V (R424, R425). -/
def beginCharge (s : State) : State :=
  if leastCell s.tally.pack.cells < 2500 then chargerFaultWith 4 s
  else modCharger (fun c => { c with
    state := if leastCell s.tally.pack.cells < 3000 then .precharge else .cc }) s

/-- The charger's next state by the table of R424 read from the top; DONE is entered by a CV hold that ends and by
QUALIFY. -/
def chargerNext (s : State) : ChState :=
  let c := s.tally.charger
  if s.tally.pack.state ≠ 1 then .noPack
  else if c.state = .fault ∨ c.fault ≠ 0 then .fault
  else if s.pw.p12v = false then .noInput
  else if s.pw.state = .learn then .learn
  else if s.tally.learn.state = .resting then .rest
  else if cfgChargeEnable s = 0 then .disabled
  else if inWindow s = false then .tempHold
  else if c.restOpen = true ∧ c.state ≠ .done then .rest
  else match c.state with
    | .noPack | .tempHold | .learn | .noInput | .disabled => .qualify
    | .rest => if c.before = .rest then .qualify else c.before
    | .precharge => chargeState s
    | .cc => chargeState s
    | .done => if s.tally.gauge.e < 95 then chargeState s else .done
    | x => x

/-- The charger moves to its next state (R424). Entering PRECHARGE, CC or CV from DONE checks R425's cause 4; REST
keeps the state it interrupts; entering DONE writes a slot. -/
def chargerStep (s : State) : State :=
  let c := s.tally.charger
  let n := chargerNext s
  if n = c.state then s
  else if n = .rest then modCharger (fun c => { c with state := .rest, before := c.state }) s
  else if c.state = .done ∧ n.charging = true then beginCharge s
  else modCharger (fun c => { c with state := n, qualifyLong := false }) s

/-- The charger stops with OFF (R57, R424): it is in NO_INPUT unless it has no pack or stands in FAULT. -/
def chargerOff : State → State :=
  modCharger (fun c => { c with
    state := if c.state = .noPack ∨ c.state = .fault then c.state else .noInput, restOpen := false, qualifyLong := false })

/-- The charger enters DONE, and a slot falls due (R444). -/
def chargerDone (s : State) : State := slotFallsDue (modCharger (fun c => { c with state := .done }) s)

/-! ### Estimator (R430 to R438) -/

/-- The gauge computes u, ENERGY_LOW and RESERVE_OK from its estimate (R431, R433, R437). -/
def gaugeBounds (s : State) : State :=
  let s := modGauge (fun g => { g with u := uncertainty s }) s
  let s := modGauge (fun g => { g with energyLow := energyLow s }) s
  modGauge (fun g => { g with reserveOk := reserveNow s }) s

/-- A rest reference sets the estimate (R432). -/
def restReference (s : State) : State :=
  let row := ocvAt s (packTempC s)
  let v : Rat := leastCell s.tally.pack.cells
  let soc := socFromOcv row v
  let slope := ocvSlope row v
  slotFallsDue (modGauge (fun g =>
    { g with e := soc, u0 := max 1 (3 / slope), refE := soc, refTime := s.clk.now, refCells := s.tally.pack.cells,
             refTemp := s.tally.pack.temp, sinceTime := s.clk.now, insertEst := false, tableChanged := false,
             stale := false }) s)

/-- The samples of the last `ns` nanoseconds. -/
def recent (s : State) (ns : Nat) : List GaugeSample :=
  s.tally.gauge.history.filter (fun x => decide (s.clk.uptime ≤ x.time + ns))

/-- Do the conditions of R432 for a rest reference hold? -/
def restHolds (s : State) : Bool :=
  let h20 := recent s (20 * 60 * secNs)
  let h5 := recent s (5 * 60 * secNs)
  let row := ocvAt s (packTempC s)
  rateIndex s == 0 && decide (s.tally.gauge.rateSince + 20 * 60 * secNs ≤ s.clk.uptime) &&
    h20.all (fun x => h20.all (fun y => decide (x.temp - y.temp ≤ 20))) &&
    (List.range 4).all (fun i => h5.all (fun x => h5.all (fun y =>
      decide (x.cells.getD i 0 ≤ y.cells.getD i 0 + 1)))) &&
    s.tally.pack.cells.all (fun v => decide (row.getD 0 0 ≤ v) && decide ((v : Rat) ≤ row.getD 20 0))

/-- What an insertion does to the estimator (R438). -/
def insertEstimate (s : State) : State :=
  let row := ocvAt s (packTempC s)
  let e := socFromOcv row ((leastCell s.tally.pack.cells : Rat) - 50)
  let s := modGauge (fun g =>
    { g with e := e, u0 := 5, refTemp := s.tally.pack.temp, sinceTime := s.clk.now, insertEst := true,
             stale := false, capLearned := 0, learnTime := 0, learnCount := 0, rScale := List.replicate 8 1000 }) s
  let s := modLearn (fun l => { l with due := true }) s
  let s := gaugeBounds s
  let s := modGauge (fun g => { g with r := nextReported s true }) s
  slotFallsDue (modCharger (fun c =>
    { c with state := .qualify, fault := 0, qualifyLong := decide ((1320 : Rat) ≤ s.tally.gauge.energyLow) }) s)

/-- One update of the estimator (R430 to R437). -/
def updateEstimate (s : State) : State :=
  let ref := restHolds s
  let s := if ref then restReference s else modGauge (fun g => { g with e := nextEstimate s }) s
  let s := gaugeBounds s
  modGauge (fun g => { g with r := nextReported s ref, lastUpdate := s.clk.uptime }) s

/-- Energy given while the estimator did not run is debited (R434). -/
def debit (s : State) : State :=
  let g := s.tally.gauge
  let joules : Rat := g.dumpDebit + (30 / 1000) * ((g.offTime : Rat) / secNs)
  let cap := capBound s / 1000 * 3600
  modGauge (fun g => { g with e := max 0 (g.e - joules / cap * 100), dumpDebit := 0, offTime := 0 }) s

/-- The fields of a slot return to the gauge (R445). -/
def restoreSlot (n : NvSlot) (s : State) : State :=
  let s := modGauge (fun g =>
    { g with e := (n.est : Rat) / 100, u0 := (n.u0 : Rat) / 100, r := (n.soc : Rat) / 100,
             capLearned := n.capLearned, learnTime := n.learnTime, learnCount := n.learnCount, rScale := n.rScale,
             refTime := n.refTime, refCells := n.refCells, refTemp := n.refTemp,
             sinceTime := max n.refTime n.inserted }) s
  modLearn (fun l => { l with active := n.learnActive, due := n.learnDue }) s

/-- A LEARN event (R534). -/
def learnEvent (sev q : Nat) (s : State) : State :=
  let st : Nat := match s.tally.learn.state with
    | .idle => 0 | .preparing => 1 | .discharging => 2 | .resting => 3 | .done => 4 | .abandoned => 5 | .invalid => 6
  event 0x9802 sev 0 (leBytes 1 st ++ leBytes 4 q) s

/-- A slot that shows LEARN_ACTIVE means a learn cycle was lost (R445). -/
def learnLost (s : State) : State :=
  learnEvent 1 0 (modLearn (fun l => { l with active := false, lost := true, due := true, state := .idle }) s)

/-- The estimator starts (R445): the same pack is restored and debited, any other is an insertion; with no pack there
is nothing to estimate. -/
def startEstimator (s : State) : State :=
  let s := modGauge (fun g => { g with running := true }) s
  let slot := newestSlot s.tally
  let s := match slot with
    | some n =>
      if s.tally.pack.latched ∧ s.tally.pack.inserted = n.inserted then debit (restoreSlot n s)
      else if s.tally.pack.state = 1 then insertEstimate s else s
    | none => packEvent (if s.tally.pack.state = 1 then insertEstimate s else s)
  let s := match slot with
    | some n => if n.learnActive then learnLost s else s
    | none => s
  gaugeBounds (slotFallsDue s)

/-! ### Learn cycle (R439 to R442) -/

/-- Is a learn cycle running? -/
def learnRunning (s : State) : Bool :=
  s.tally.learn.state == .preparing || s.tally.learn.state == .discharging || s.tally.learn.state == .resting

/-- Do the conditions of R439 hold? -/
def learnMayStart (s : State) : Bool :=
  let g := s.tally.gauge
  s.pw.state == .service && s.pw.p12v && s.tally.charger.state == .done && !learnRunning s &&
    decide (95 ≤ g.refE) && g.refTime != 0 && decide (s.clk.now ≤ g.refTime + 60 * 60 * secNs) &&
    decide (150 ≤ s.tally.pack.temp) && decide (s.tally.pack.temp ≤ 350) && !g.stale

/-- Step 1 of a learn cycle (R440). -/
def learnStep1 (s : State) : State :=
  writeSlot (modLearn (fun l => { l with state := .preparing, active := true, started := s.clk.uptime,
                                         refStart := s.tally.gauge.refE, samples := [] }) s)

/-- A learn cycle is abandoned; one that a dump ended is found in its slot at the next start (R442, R445). -/
def abandonLearn (s : State) : State :=
  if learnRunning s && s.pw.state != .dump then
    let s := modLearn (fun l => { l with state := .abandoned, active := false, due := true }) s
    let s := learnEvent 1 0 s
    let s := writeSlot s
    let s := if s.pw.state = .learn then enterService s else s
    if s.tally.pack.state = 1 ∧ s.tally.charger.state ≠ .fault then
      modCharger (fun c => { c with state := .qualify, qualifyLong := false }) s
    else s
  else s

/-- Q in Wh (R441). -/
def learnQ (s : State) (socEnd : Rat) : Rat :=
  let l := s.tally.learn
  let t : Rat := ((l.step3 - l.step2 : Nat) : Rat) / secNs
  120 * t / 3600 / ((l.refStart - socEnd) / 100)

/-- The quotient of one 10 s sample, where its s(t) lies between 20 and 90 % (R441; log entry 21: V_cell is the lowest
cell). -/
def learnQuotient (s : State) (q : Rat) (x : GaugeSample) : Option Rat :=
  let l := s.tally.learn
  let t : Rat := ((x.time - l.step2 : Nat) : Rat) / secNs
  let soc := l.refStart - 100 * 120 * t / (3600 * q)
  if 20 ≤ soc ∧ soc ≤ 90 then
    let temp : Rat := (x.temp : Rat) / 10
    let num := (readRow (ocvAt s temp) 5 soc - leastCell x.cells) * ((x.pack : Rat) / 1000) / 120
    some (num / (readRow (resAt s 2 temp) 10 soc / 10))
  else none

/-- The mean of a list, 0 for an empty one. -/
def mean (l : List Rat) : Rat := l.foldl (· + ·) 0 / l.length

/-- R_SCALE after a valid result (R441). -/
def learnScale (s : State) (q : Rat) : List Nat :=
  let l := s.tally.learn
  let qs := l.samples.filterMap (learnQuotient s q)
  if qs.isEmpty then s.tally.gauge.rScale
  else
    let t := mean (l.samples.map (fun x => (x.temp : Rat) / 10))
    let v := max 800 (min 3000 (mean qs * 1000).floor.toNat)
    s.tally.gauge.rScale.set (nearestTemp s t) v

/-- Step 4 of a learn cycle (R440, R441). -/
def learnStep4 (s : State) : State :=
  let l := s.tally.learn
  let s := restReference s
  let e := s.tally.gauge.e
  let q := learnQ s e
  let ok := l.onVoltage && decide (e ≤ 20) && decide (20 ≤ q) && decide (q ≤ 55)
  let s :=
    if ok then
      let rs := learnScale s q
      let s := modGauge (fun g => { g with capLearned := (q * 1000).floor.toNat, learnTime := s.clk.now,
                                           learnCount := g.learnCount + 1, rScale := rs }) s
      modLearn (fun l => { l with state := .done, active := false, due := false, lost := false }) s
    else modLearn (fun l => { l with state := .invalid, active := false, due := true }) s
  let s := learnEvent (if ok then 0 else 1) (if ok then (q * 1000).floor.toNat else 0) s
  let s := writeSlot s
  modCharger (fun c => { c with state := .qualify, qualifyLong := false }) s

/-! ### Writes of the dictionary -/

/-- LEARN_CONTROL (R439, R442, R446). -/
def learnControl (v : Nat) (s : State) : Nat × State :=
  if v = 1 then if learnMayStart s then (stSuccess, learnStep1 s) else (stBusy, s)
  else if learnRunning s then (stSuccess, abandonLearn s) else (stBusy, s)

/-- May a rest window open (R426)? -/
def restMayOpen (s : State) : Bool :=
  s.pw.state != .learn && s.pw.state != .dump && s.tally.learn.state != .resting &&
    s.tally.charger.state != .done && s.tally.pack.state == 1 && s.tally.charger.state != .fault

/-- A rest window opens (R426). -/
def openRest (s : State) : State :=
  if restMayOpen s then
    chargerStep (modCharger (fun c => { c with restOpen := true, extended := false, restSince := s.clk.now }) s)
  else s

/-- Is a value a TEMP row: strictly ascending, −20 to 70 °C (R427)? -/
def tempRowOk (b : Bytes) : Bool :=
  let t := (List.range 8).map (fun i => ofTwos 8 (field b (4 + i) 1))
  t.all (fun x => decide (-20 ≤ x) && decide (x ≤ 70)) &&
    (List.range 7).all (fun i => decide (t.getD i 0 < t.getD (i + 1) 0))

/-- Does a value keep the layout of the OCV table (R427)? -/
def ocvTableOk (b : Bytes) : Bool :=
  b.length == 352 && field b 0 1 == 1 && field b 1 1 == 21 && field b 2 2 == 0 && tempRowOk b && field b 12 4 == 0 &&
    (List.range 8).all (fun t =>
      let row := (List.range 21).map (fun i => field b (16 + 42 * t + 2 * i) 2)
      row.all (fun v => decide (2500 ≤ v) && decide (v ≤ 4300)) &&
        (List.range 20).all (fun i => decide (row.getD i 0 < row.getD (i + 1) 0)))

/-- Does a value keep the layout of the resistance table, its TEMP row equal to the OCV table's (R428)? -/
def resTableOk (s : State) (b : Bytes) : Bool :=
  b.length == 544 && field b 0 1 == 2 && field b 1 1 == 11 && field b 2 2 == 0 && field b 12 4 == 0 &&
    (List.range 8).map (fun i => ofTwos 8 (field b (4 + i) 1)) == tableTemps s &&
    (List.range 264).all (fun i => field b (16 + 2 * i) 2 != 0)

/-- A table that was accepted sets TABLE_CHANGED (R428). -/
def tableChanged (s : State) : State := modGauge (fun g => { g with tableChanged := true }) s

/-! ### The commands -/

/-- PACK_SAMPLE (R419 to R425, R430): the sense contacts are sampled, PACK_STATE and temperature decoded, the charger
moves. -/
def execPackSample (sense : PackSense) (s : State) : Host.Outcome State Fault Refusal :=
  if s.pw.state = .off then finish s
  else
    let old := s.tally.pack
    let st := packIdState sense.ident
    let bad := ntcBad sense.ntc
    let temp := if bad then old.temp else ntcTemp sense.ntc
    let s := modPack (fun p => { p with
      state := st, mv := if st = 0 then 0 else sense.pack,
      cells := if st = 0 then [0, 0, 0, 0] else sense.cells, temp := temp, ntcFault := bad }) s
    let smp : GaugeSample := ⟨s.clk.uptime, sense.cells, sense.pack, temp⟩
    let s := modGauge (fun g => { g with history := recent s (20 * 60 * secNs) ++ [smp] }) s
    let s := if st = old.state then s else packEvent (gaugeBounds s)
    let spread := greatestCell sense.cells - leastCell sense.cells
    let before := greatestCell old.cells - leastCell old.cells
    let s :=
      if st = 1 ∧ rateIndex s = 0 ∧ 100 < spread ∧ before ≤ 100 then packEvent s else s
    let s :=
      if st ≠ 1 then s
      else if bad then chargerFaultWith 6 s
      else if 4250 < greatestCell sense.cells then chargerFaultWith 3 s
      else if rateIndex s = 0 ∧ 200 < spread then chargerFaultWith 5 s
      else s
    let last := (s.tally.learn.samples.getLast?.map (·.time)).getD 0
    let s :=
      if s.tally.learn.state = .discharging ∧ last + 10 * secNs ≤ s.clk.uptime then
        modLearn (fun l => { l with samples := l.samples ++ [smp] }) s
      else s
    finish (chargerStep s)

/-- PACK_INSERT (R422, R438): PACK_STATE has read 1 for 1 s. In OFF the latch alone runs. -/
def execPackInsert (s : State) : Host.Outcome State Fault Refusal :=
  if s.tally.pack.latched then finish s
  else
    let s := modPack (fun p => { p with state := 1, inserted := s.clk.now, latched := true }) s
    if s.pw.state = .off ∨ s.pw.state = .dump ∨ s.tally.gauge.running = false then finish s
    else finish (packEvent (chargerStep (insertEstimate s)))

/-- PACK_REMOVE (R422, R437): PACK_STATE has left 1 for 10 ms. With no 12 V the rail loses its source. A dump in progress
is lost while DUMP_ACT is high (R33). -/
def execPackRemove (s : State) : Host.Outcome State Fault Refusal :=
  if s.tally.pack.latched then
    let s := modPack (fun p => { p with state := 0, mv := 0, cells := [0, 0, 0, 0], inserted := 0,
                                        latched := false }) s
    let s := abandonLearn s
    let s := modCharger (fun c => { c with state := .noPack, fault := 0, restOpen := false }) s
    let s := modGauge (fun g => { g with reserveOk := false, energyLow := 0 }) s
    let s : State := { s with dump := { s.dump with
      sourceLost := s.dump.sourceLost || (s.pw.state == .dump && s.side.dumpAct && !s.dump.dumped) } }
    if s.pw.state = .off then finish { s with pw := { s.pw with rail := s.pw.p12v } }
    else finish (packEvent s)
  else finish s

/-- Does core 0 run its firmware: not in OFF or DUMP, and not during a management restart (R57, R63)? -/
def coreRuns (s : State) : Bool := awake s && !s.pw.mgmtRestarting

/-- ESTIMATE_UPDATE (R430 to R437), once a second. It does not run in OFF or DUMP, and waits for the end of a management
restart (R63). -/
def execEstimateUpdate (s : State) : Host.Outcome State Fault Refusal :=
  if s.tally.gauge.running && coreRuns s && s.tally.pack.state == 1 then finish (chargerStep (updateEstimate s))
  else finish s

/-- ESTIMATE_STALE (R435): 72 h have passed. -/
def execEstimateStale (s : State) : Host.Outcome State Fault Refusal :=
  if s.tally.gauge.running && coreRuns s && s.tally.pack.state == 1 && !s.tally.gauge.stale then
    let s := modGauge (fun g => { g with stale := true, reserveOk := false, r := socLow g }) s
    finish (event 0x9803 1 0 (leBytes 4 ((s.clk.now - s.tally.gauge.sinceTime) / hourNs)) s)
  else finish s

/-- REST_WINDOW_OPEN (R426): the clock passes REST_PHASE; skipped with a reference in the last 20 h. -/
def execRestWindowOpen (s : State) : Host.Outcome State Fault Refusal :=
  let g := s.tally.gauge
  if coreRuns s && (g.refTime == 0 || decide (g.refTime + 20 * hourNs ≤ s.clk.now)) then finish (openRest s)
  else finish s

/-- REST_WINDOW_END (R426): extended once when no reference has been taken, else the charger returns. -/
def execRestWindowEnd (s : State) : Host.Outcome State Fault Refusal :=
  let c := s.tally.charger
  if c.restOpen then
    if !c.extended && decide (s.tally.gauge.refTime < c.restSince) then
      finish (modCharger (fun c => { c with extended := true }) s)
    else finish (chargerStep (modCharger (fun c => { c with restOpen := false }) s))
  else finish s

/-- QUALIFY_END (R424). -/
def execQualifyEnd (s : State) : Host.Outcome State Fault Refusal :=
  if s.tally.charger.state = .qualify ∧ awake s = true then
    if 4100 ≤ leastCell s.tally.pack.cells then finish (chargerDone s) else finish (beginCharge s)
  else finish s

/-- CV_HOLD_END (R423, R424). -/
def execCvHoldEnd (s : State) : Host.Outcome State Fault Refusal :=
  if s.tally.charger.state = .cv ∧ awake s = true then finish (chargerDone s) else finish s

/-- CHARGER_FAULT (R425): the precharge limit (1), the charge timer (2) or another cause. -/
def execChargerFault (cause : Nat) (s : State) : Host.Outcome State Fault Refusal :=
  if 1 ≤ cause ∧ cause ≤ 7 ∧ awake s then finish (chargerFaultWith cause s) else finish s

/-- LEARN_DISCHARGE_BEGIN (R440 step 2): no dirty data is left. -/
def execLearnDischargeBegin (s : State) : Host.Outcome State Fault Refusal :=
  if s.tally.learn.state = .preparing ∧ s.pw.state = .service ∧ (dirtySlots s).isEmpty then
    let s := setPower .learn s
    let s := modLearn (fun l => { l with state := .discharging, step2 := s.clk.uptime, samples := [] }) s
    finish (modCharger (fun c => { c with state := .learn }) s)
  else finish s

/-- LEARN_DISCHARGE_END (R440 step 3): the weakest cell reaches 3,100 mV under load, or the discharge ends otherwise. A
dump has ended the cycle already (R442). -/
def execLearnDischargeEnd (onVoltage : Bool) (s : State) : Host.Outcome State Fault Refusal :=
  if s.tally.learn.state = .discharging ∧ s.pw.state = .learn then
    let s := enterService s
    let s := modLearn (fun l => { l with state := .resting, step3 := s.clk.uptime, onVoltage := onVoltage }) s
    finish (modCharger (fun c => { c with state := .rest, before := .qualify }) s)
  else finish s

/-- LEARN_RESULT (R440 step 4, R441). -/
def execLearnResult (s : State) : Host.Outcome State Fault Refusal :=
  if s.tally.learn.state = .resting ∧ coreRuns s = true then finish (gaugeBounds (learnStep4 s)) else finish s

/-- LEARN_ABANDON (R442). -/
def execLearnAbandon (s : State) : Host.Outcome State Fault Refusal := finish (abandonLearn s)

/-- NV_SLOT_WRITE (R443, R444). -/
def execNvSlotWrite (s : State) : Host.Outcome State Fault Refusal :=
  if s.tally.gauge.running && coreRuns s then finish (writeSlot s) else finish s

/-- NV_SLOT_PERIOD_EXPIRY (R444): every 6 h. -/
def execNvSlotPeriodExpiry (s : State) : Host.Outcome State Fault Refusal :=
  if s.tally.gauge.running && coreRuns s then finish (slotFallsDue s) else finish s

/-- ESTIMATOR_START (R434, R445): in STANDBY once firmware runs; a START starts it at step 9. -/
def execEstimatorStart (s : State) : Host.Outcome State Fault Refusal :=
  if coreRuns s && !s.tally.gauge.running then finish (startEstimator s) else finish s

end Sys2Proof.Machine
end

