-- ==== Sys2Proof/Machine/Power.lean ====
section
/-! DEFINITION. Sideband, SMBus, thermal limits, clock supervision, resets and MODULE_CONTROL (01, 02). -/

namespace Sys2Proof.Machine

/-! ### START and STANDBY (R58) -/

/-- START begins: the trigger is now. -/
def beginStart (s : State) : State :=
  setPower .start (modPw (fun p => { p with startStep := 1, startTrigger := s.clk.uptime, restart := false }) s)

/-- May START begin on its own: no lockout and no hold (R58)? -/
def startFree (s : State) : Bool := !s.pw.lockout && !s.pw.hold

/-- Core 0 starts: secure boot, the key store and the DRBG (R57, R59, R454, R467, R472). Without an image it runs the
ROM's recovery service under a fault hold. -/
def startCore (s : State) : State :=
  let r := secureBoot s
  let s := loadStore (modLock (fun l => seedLanes { drbgStart l with
    fwState := .idle, fwData := [], fwOwner := none }) r.2)
  if r.1 then s else addFault .startCheck (modPw (fun p => { p with hold := true }) s)

/-- OFF ends: the time spent in it will be debited (R434). -/
def leaveOff (s : State) : State :=
  modGauge (fun g => { g with
    offTime := g.offTime + (match g.offSince with
      | some t => s.clk.uptime - t
      | none => 0)
    offSince := none }) s

/-- The main rails come up (R66 steps 2 and 3), and PWR_GOOD shows them in regulation (R37; log entry 157). -/
def railsUp (s : State) : State :=
  modPw (fun p => { p with rails := true }) (modSide (fun x => { x with pwrGood := true }) s)

/-- P12V_RISE (R58, R66): 12 V that has been removed and is applied again ends a fault hold, and a thermal lockout when
every sensor reads below its critical threshold; from OFF the module starts, or goes to STANDBY, where steps 1 and 2 of
R66 run as well. The charger has its input again (R424). -/
def p12vRise (s : State) : State :=
  let s := modPw (fun p => { p with p12v := true, lockout := p.lockout && !belowCritical s, hold := false }) s
  if s.pw.state = .off then
    let s := leaveOff s
    if cfgAutoStart s = 1 ∧ s.side.modReset = true ∧ startFree s = true then chargerStep (beginStart s)
    else chargerStep (setPower .standby (startCore (railsUp s)))
  else chargerStep s

/-- P12V_RISE: the 12 V monitor stands in the standby domain, so the rail is there first (R57, R62). -/
def execP12vRise (s : State) : Host.Outcome State Fault Refusal :=
  finish (if s.pw.p12v || !s.pw.rail then s else p12vRise s)

/-- P12V_TRIP (R45, R46, R58). The charger loses its input (R424). -/
def execP12vTrip (s : State) : Host.Outcome State Fault Refusal :=
  let s := chargerStep (enterDump .trip12V (modPw (fun p => { p with p12v := false }) s))
  finish (modSide (fun x => { x with pwrGood := false }) s)

/-- RAIL_REGULATION_LOSS (R37). -/
def execRailRegulationLoss (s : State) : Host.Outcome State Fault Refusal :=
  finish (modSide (fun x => { x with pwrGood := false }) (modPw (fun p => { p with rails := false }) s))

/-- MOD_RESET_N_ASSERT (R36, R58): an assertion of at least 1 ms. -/
def execModResetNAssert (s : State) : Host.Outcome State Fault Refusal :=
  if s.side.modReset then
    let s := modSide (fun x => { x with modReset := false, resetLatched := x.resetLatched || s.pw.state == .dump }) s
    let s := modPw (fun p => { p with lockout := p.lockout && !belowCritical s, hold := false }) s
    finish (enterDump .modReset s)
  else finish s

/-- MOD_RESET_N_RELEASE (R58). -/
def execModResetNRelease (s : State) : Host.Outcome State Fault Refusal :=
  if s.side.modReset then finish s
  else
    let s := modSide (fun x => { x with modReset := true }) s
    finish (if s.pw.state = .standby ∧ cfgAutoStart s = 1 ∧ startFree s = true then beginStart s else s)

/-- LOCATE_N_CHANGE (R34, R51). -/
def execLocateNChange (level : Bool) (s : State) : Host.Outcome State Fault Refusal :=
  finish (modSide (fun x => { x with locateN := level }) s)

/-! ### SMBus (R39 to R42) -/

/-- One bit of the SMBus CRC-8 division. -/
def pecBit (c : Nat) : Nat := if c < 128 then 2 * c else (2 * c % 256) ^^^ 7

/-- The Packet Error Code of a transfer: CRC-8 with polynomial x^8 + x^2 + x + 1 (R39; log entry 36). -/
def pec (b : Bytes) : Nat :=
  b.foldl (fun c x => pecBit (pecBit (pecBit (pecBit (pecBit (pecBit (pecBit (pecBit (c ^^^ x.toNat))))))))) 0

/-- The module's 7-bit address (R39). -/
def smbAddress (s : State) : Nat := 0x58 + s.side.smbAddr.toNat

/-- A read is answered with its data and the Packet Error Code (R39). -/
def smbAnswer (code : Nat) (d : Bytes) (s : State) : State :=
  let a := smbAddress s
  let all := leBytes 1 (2 * a) ++ leBytes 1 code ++ leBytes 1 (2 * a + 1) ++ d
  modSide (fun x => { x with smbReply := some (d ++ leBytes 1 (pec all)) }) s

/-- Nothing is acknowledged. -/
def smbNone : State → State := modSide (fun x => { x with smbReply := none })

/-- An SMBus read while the standby rail is present. -/
def smbRead (code : Nat) (d : Bytes) (s : State) : State := if s.pw.rail then smbAnswer code d s else smbNone s

/-- SMB_STATUS (R41). -/
def execSmbStatus (s : State) : Host.Outcome State Fault Refusal := finish (smbRead 0 (leBytes 1 (statusByte s)) s)

/-- A sensor reads. -/
def senseAt (x : Sensor) (r : Int) : State → State :=
  modSide (fun d => { d with readings := d.readings.set (sensorIndex x) r })

/-- What a sensor reads at this moment: a free value (R40; log entry 5). -/
def senseNow (x : Sensor) (s : State) : State :=
  senseAt x (Config.freeReading s.free) { s with free := s.free + 1 }

/-- SMB_TEMP_INLET (R40): what the inlet reads at that moment. -/
def execSmbTempInlet (s : State) : Host.Outcome State Fault Refusal :=
  finish (if s.pw.rail then
    let s := senseNow .inlet s
    smbAnswer 1 (leBytes 1 (toTwos 8 (reading s .inlet))) s
  else smbNone s)

/-- The highest reading of the sensors on the module (R40). -/
def tempMax (s : State) : Int := (moduleSensors.map (reading s)).foldl max (reading s .die)

/-- SMB_TEMP_MAX (R40): the highest of what the sensors on the module read at that moment. -/
def execSmbTempMax (s : State) : Host.Outcome State Fault Refusal :=
  finish (if s.pw.rail then
    let s := moduleSensors.foldl (fun s x => senseNow x s) s
    smbAnswer 2 (leBytes 1 (toTwos 8 (tempMax s))) s
  else smbNone s)

/-- SMB_POWER_IN: what the input draws is a free value (log entry 1). -/
def execSmbPowerIn (s : State) : Host.Outcome State Fault Refusal :=
  let r := drawNat s
  finish (smbRead 3 (leBytes 2 r.1) r.2)

/-- SMB_PACK_MV: 0 with no pack. -/
def execSmbPackMv (s : State) : Host.Outcome State Fault Refusal :=
  finish (smbRead 4 (leBytes 2 (if s.tally.pack.state = 0 then 0 else s.tally.pack.mv)) s)

/-- ORDER_CODE (R4, R42). -/
def orderCode : Bytes :=
  let c := ascii (if Config.isE then "YE-4800-E" else "YE-4800-A")
  c ++ List.replicate (16 - c.length) 0x20

/-- IDENT (R42). -/
def identBytes (s : State) : Bytes :=
  let h := (imageSlot s s.pw.bootImage).header
  orderCode ++ fit 12 Config.serial ++ slice h 8 2 ++ [0, 0]

/-- SMB_IDENT: a block read gives its length first. -/
def execSmbIdent (s : State) : Host.Outcome State Fault Refusal := finish (smbRead 0x10 ([32] ++ identBytes s) s)

/-- SMB_ALERT_RESPONSE (R39): the module answers with its address and releases SMB_ALERT_N. -/
def execSmbAlertResponse (s : State) : Host.Outcome State Fault Refusal :=
  if s.pw.rail && s.side.alert then
    let d := leBytes 1 (2 * smbAddress s)
    finish (modSide (fun x => { x with alert := false, smbReply := some (d ++ leBytes 1 (pec (leBytes 1 0x19 ++ d))) }) s)
  else finish (smbNone s)

/-- SMB_BAD_PEC (R39, R40): a wrong Packet Error Code, or a code the module does not know, is not acknowledged. -/
def execSmbBadPec (_code : Byte) (s : State) : Host.Outcome State Fault Refusal := finish (smbNone s)

/-! ### Thermal limits (R49) -/

/-- A sensor reads, and stands at a level. -/
def setReading (x : Sensor) (r : Int) (l : Level) : State → State :=
  modSide (fun d => { d with readings := d.readings.set (sensorIndex x) r, levels := d.levels.set (sensorIndex x) l })

/-- A THERMAL event (R534). -/
def thermalEvent (x : Sensor) (l : Level) (sev : Nat) (r : Int) : State → State :=
  event 0x1003 sev 0 (leBytes 1 (sensorIndex x) ++ leBytes 1 (levelCode l) ++ leBytes 2 (toTwos 16 r))

/-- A sensor has reached its throttle level: a learn cycle is abandoned (R442), and SERVICE gives way to THROTTLE (R49,
R58). -/
def enterThrottle (s : State) : State := throttled (abandonLearn s)

/-- Does a reading reach a sensor's threshold for a level that the sensor does not stand at or above yet? -/
def reaches (s : State) (x : Sensor) (l : Level) (r : Int) : Bool :=
  s.pw.rail && decide (levelCode (levelOf s x) < levelCode l) &&
    (match threshold x l with
      | some t => decide (t ≤ r)
      | none => false)

/-- THERMAL_THROTTLE (R49). -/
def execThermalThrottle (x : Sensor) (r : Int) (s : State) : Host.Outcome State Fault Refusal :=
  if reaches s x .throttle r then
    finish (enterThrottle (thermalEvent x .throttle 1 r (setReading x r .throttle s)))
  else finish s

/-- THERMAL_CRITICAL (R49). -/
def execThermalCritical (x : Sensor) (r : Int) (s : State) : Host.Outcome State Fault Refusal :=
  if reaches s x .critical r && x != .inlet then
    finish (enterThrottle (thermalEvent x .critical 2 r (setReading x r .critical s)))
  else finish s

/-- THERMAL_TRIP (R49). -/
def execThermalTrip (x : Sensor) (r : Int) (s : State) : Host.Outcome State Fault Refusal :=
  if reaches s x .trip r then
    finish (enterDump .thermalTrip (thermalEvent x .trip 2 r (setReading x r .trip s)))
  else finish s

/-- INLET_LIMIT (R49). -/
def execInletLimit (r : Int) (s : State) : Host.Outcome State Fault Refusal :=
  if reaches s .inlet .critical r then finish (thermalEvent .inlet .critical 2 r (setReading .inlet r .critical s))
  else finish s

/-- The level at which a sensor stands after a fall: the highest whose threshold the reading is not 5 °C below (R49). -/
def levelAfter (x : Sensor) (old : Level) (r : Int) : Level :=
  let stays (l : Level) : Bool := decide (levelCode l ≤ levelCode old) && (match threshold x l with
    | some t => decide (t - 5 < r)
    | none => false)
  (([Level.trip, .critical, .throttle] : List Level).find? stays).getD .none

/-- THERMAL_WITHDRAW (R41, R49, R58): a sensor reads lower; a level 5 °C above the reading is withdrawn; THROTTLE ends when every sensor has withdrawn. -/
def execThermalWithdraw (x : Sensor) (r : Int) (s : State) : Host.Outcome State Fault Refusal :=
  let old := levelOf s x
  let l := levelAfter x old r
  if s.pw.rail then
    let s := setReading x r l s
    let s := if l = old then s else thermalEvent x .none 1 r s
    if s.pw.state = .throttle ∧ sensorsHot s = false then
      finish (setPower .service (modPw (fun p => { p with capped := false }) s))
    else finish s
  else finish s

/-! ### Clocks (R56) -/

/-- CLOCK_STATUS (R71). -/
def clockStatus (s : State) : Nat := packBits [s.pw.pllLocked, s.pw.holdover, s.pw.oscFault]

/-- PLL_LOCK_LOSS_SHORT: up to 10 µs, relocked. -/
def execPllLockLossShort (s : State) : Host.Outcome State Fault Refusal :=
  if awake s || s.pw.state == .dump then finish (event 0x1004 1 0 (leBytes 1 (clockStatus s)) s) else finish s

/-- CLOCK_FAULT: loss of lock for longer than 10 µs, or the oscillator stops. -/
def execClockFault (stopped : Bool) (s : State) : Host.Outcome State Fault Refusal :=
  if awake s || s.pw.state == .dump then
    let s := modPw (fun p => { p with pllLocked := false, holdover := true, oscFault := p.oscFault || stopped }) s
    finish (enterDump .clockFault (event 0x1004 2 0 (leBytes 1 (clockStatus s)) (addFault .clockFault s)))
  else finish s

/-! ### Management restart (R63, R472) and MODULE_CONTROL (R71) -/

/-- A management restart begins: sessions end, a test is aborted, the boot ROM verifies the image again. -/
def mgmtRestart (s : State) : State :=
  let s := abortTest 5 s
  let s := (s.sess.sessions).foldl (fun s x => endSession x.id s) s
  let s : State := { s with sess := { s.sess with pending := [] } }
  let s := modLock (fun l => { l with fwState := .idle, fwData := [], fwOwner := none }) s
  let s := (secureBoot s).2
  modPw (fun p => { p with mgmtRestarting := true }) s

/-- MGMT_RESTART_DONE (R63). -/
def execMgmtRestartDone (s : State) : Host.Outcome State Fault Refusal :=
  finish (modPw (fun p => { p with mgmtRestarting := false }) s)

/-- MGMT_WATCHDOG_EXPIRY (R63): the second within 10 minutes of the first is a module reset. -/
def execMgmtWatchdogExpiry (s : State) : Host.Outcome State Fault Refusal :=
  if awake s then
    match s.pw.lastWatchdog with
    | some t =>
      if s.clk.uptime ≤ t + 600 * secNs then
        finish (enterDump .mgmtWatchdog (modPw (fun p => { p with lastWatchdog := none }) s))
      else finish (mgmtRestart (modPw (fun p => { p with lastWatchdog := some s.clk.uptime }) s))
    | none => finish (mgmtRestart (modPw (fun p => { p with lastWatchdog := some s.clk.uptime }) s))
  else finish s

/-- What is written before the module acts on MODULE_CONTROL: the ledger (R522; with the vault not mounted there is
nowhere to write) and, for RESET, MGMT_RESTART and STANDBY, a gauge slot (R444). -/
def controlFlush (s : State) : State :=
  let s := if serving s then ledgerFlush s else s
  if s.tally.gauge.running then writeSlot s else s

/-- A write to MODULE_CONTROL (R58, R71, R235). START while a thermal lockout stands changes nothing but the hold. -/
def moduleControl (v : Nat) (s : State) : Nat × State :=
  if s.pw.state = .dump then (stBusy, s)
  else if v = 1 then (stSuccess, enterDump .controlReset (controlFlush s))
  else if v = 2 then (stSuccess, mgmtRestart (controlFlush s))
  else if v = 3 then (stSuccess, enterDump .controlStandby (requestCkpt (controlFlush s)))
  else if s.pw.state = .standby then
    let s := modPw (fun p => { p with hold := false }) s
    (stSuccess, if s.pw.lockout then s else beginStart s)
  else (stSuccess, s)

/-- SERVICE_SET_LOSS (R58, R69): a part of the minimal service set is lost, in any state but OFF and DUMP. -/
def execServiceSetLoss (part : ServicePart) (s : State) : Host.Outcome State Fault Refusal :=
  if awake s then
    let s := match part with
      | .managementCores => modPw (fun p => { p with coresOk := 0 }) s
      | .rootPll => modPw (fun p => { p with pllLocked := false }) s
      | .hbmStacks => modCache (fun c => { c with stacksOk := 0 }) s
      | .cooper => modCooper (fun c => { c with failed := true }) s
      | .hostPorts => modPw (fun p => { p with portsFailed := [0, 1, 2, 3] }) s
      | .bootRom | .commandEngine | .etu | .driveLanes => s
    finish (enterDump .serviceSet s)
  else finish s

end Sys2Proof.Machine
end

