-- ==== Sys2Proof/Machine/Volumes.lean ====
section
/-! DEFINITION. Volume creation, growth, deletion and settings (R185 to R188). An operation that answers a dictionary write
gives a status and the state. -/

namespace Sys2Proof.Machine

/-! ### Segments (R191) -/

/-- Extent map segments that a capacity takes. -/
def segmentsFor (vol : Volume) (capacity : Nat) : Nat := (capacity / max 1 vol.extentBlocks + 1023) / 1024

/-- Segments that volumes hold. -/
def segmentsHeld (s : State) : List Nat := (s.tabs.vols.map (fun e => e.2.segments)).flatten

/-- The `n` lowest free segments, when so many are free. -/
def takeSegments (s : State) (n : Nat) : Option (List Nat) :=
  let free := ((List.range 4096).filter (fun g => !decide (g ∈ segmentsHeld s))).take n
  if free.length = n then some free else none

/-! ### Creation (R185, R186) -/

/-- The volume that a VOL_CREATE block describes, without segments. -/
def blockVolume (b : Bytes) : Volume :=
  { k := field b 2 1, m := field b 3 1, emul := field b 4 1 == 1, vcflags := field b 5 1 % 4, cls := field b 6 1
    capacity := field b 8 8, keyId := field b 16 4, segments := [], xgCur := 0, xgOldest := 0, xgUnits := 0
    state := .ready, loss := false, openLog := none }

/-- K, M, BSZ and CLASS in range (R185). -/
def schemeOk (b : Bytes) : Bool :=
  let k := field b 2 1
  let m := field b 3 1
  decide (1 ≤ k) && decide (k ≤ 24) && decide (1 ≤ m) && decide (m ≤ if k = 1 then 3 else 4) &&
    decide (field b 4 1 ≤ 1) && decide (field b 6 1 ≤ 15)

/-- Failure domains that hold drives in service (R186, R260). -/
def domainsHeld (s : State) : List Nat := dedup ((inService s).map (domainOf s))

/-- A capacity is a whole, non-zero number of extents. -/
def capacityOk (vol : Volume) (c : Nat) : Bool := c != 0 && c % max 1 vol.extentBlocks == 0

/-- The volume takes its place in the table. -/
def placeVolume (v : Nat) (vol : Volume) (s : State) : State :=
  modTabs (fun t => { t with vols := Tab.put v vol t.vols }) s

/-- A VOLUME_CREATE record takes effect. -/
def createVolume (b : Bytes) (s : State) : State :=
  let vol := blockVolume b
  match takeSegments s (segmentsFor vol vol.capacity) with
  | some g => placeVolume (field b 0 2) { vol with segments := g } s
  | none => s

/-- Does KEY_ID name a VOLUME_KEY that is loaded and bound to no other volume (R186, R453)? -/
def keyFree (s : State) (id : Nat) : Bool :=
  ((getKey s id).map (fun k => k.kind == 3)).getD false &&
    !(s.tabs.vols.any (fun e => e.2.encrypted && e.2.keyId == id))

/-- A new volume whose generation 0 has equal keys begins with generation 1 (R460). -/
def firstGen (v : Nat) (s : State) : State :=
  match getVol s v with
  | some vol => if vol.encrypted && xtsSkip s v vol 0 then advanceOldest v (openGen v (xgenEvent v 0 2 s)) else s
  | none => s

/-- VOL_CREATE (R185, R186). -/
def volCreate (b : Bytes) (s : State) : Nat × State :=
  let v := field b 0 2
  let vol := blockVolume b
  if b.length ≠ 32 then (stType, s)
  else if 4096 ≤ v ∨ (getVol s v).isSome = true ∨ schemeOk b = false ∨ capacityOk vol vol.capacity = false ∨
      (domainsHeld s).length < vol.k + vol.m then (stValue, s)
  else if (takeSegments s (segmentsFor vol vol.capacity)).isNone then (stRangeInvalid, s)
  else if vol.encrypted = true ∧ keyFree s vol.keyId = false then (stKeyUnavailable, s)
  else (stSuccess, firstGen v (createVolume b (journal (.volumeCreate b) s)))

/-! ### Growth (R187) -/

/-- A VOLUME_GROW record takes effect. -/
def growVolume (v c : Nat) (s : State) : State :=
  match getVol s v with
  | none => s
  | some vol =>
    match takeSegments s (segmentsFor vol c - vol.segments.length) with
    | some g => placeVolume v { vol with capacity := c, segments := vol.segments ++ g } s
    | none => s

/-- VOL_GROW (R187). -/
def volGrow (b : Bytes) (s : State) : Nat × State :=
  let v := field b 0 2
  let c := field b 8 8
  if b.length ≠ 16 then (stType, s)
  else
    match getVol s v with
    | none => (stNotFound, s)
    | some vol =>
      if c < vol.capacity ∨ capacityOk vol c = false then (stValue, s)
      else if (takeSegments s (segmentsFor vol c - vol.segments.length)).isNone then (stRangeInvalid, s)
      else (stSuccess, growVolume v c (journal (.volumeGrow v c) s))

/-! ### Deletion (R188) -/

/-- The extents of a volume that are mapped or have a directory. -/
def usedExtents (s : State) (v : Nat) (vol : Volume) : List Nat :=
  (List.range vol.extents).filter (fun x => getExt s v x != Extent.empty)

/-- Everything that the write cache holds of a volume goes (R188). -/
def dropVolumeSlots (v : Nat) (s : State) : State :=
  let mine := s.cache.slots.filter (fun e => e.2.volume == v)
  let s := modQm (fun q => { q with reserved := q.reserved - sumNat (mine.map (fun e => e.2.reserved)) }) s
  mine.foldl (fun s e => freeSlot e.1 s) s

/-- A VOLUME_DELETE record takes effect: segments and directories are freed, groups and log extents become spoil. -/
def deleteVolume (v : Nat) (s : State) : State :=
  match getVol s v with
  | none => s
  | some vol =>
    let s := modEtu (fun e => { e with
      inflight := e.inflight.filter (fun f => f.volume != v), packs := e.packs.filter (fun p => p.volume != v)
      merges := e.merges.filter (fun m => m.volume != v) }) s
    let s := (usedExtents s v vol).foldl (fun s x => dropExtentMaps v x s) s
    let s := dropVolumeSlots v s
    let s := (s.tabs.groups.filter (fun e => e.2.volume == v && e.2.state != .spoil)).foldl (fun s e => spoilGroup e.1 s) s
    let s := (usedExtents s v vol).foldl (fun s x => modExt v x (fun _ => Extent.empty) s) s
    modTabs (fun t => { t with
      logs := t.logs.filter (fun e => e.2.volume != v), vols := Tab.del t.vols v }) s

/-- A volume is deleted with its records (R188): running merges are abandoned first. -/
def eraseVolume (v : Nat) (s : State) : State :=
  let s := (s.etu.merges.filter (fun m => m.volume == v)).foldl (fun s m => abandonMerge v m.extent 5 s) s
  pinSync (retireRing (deleteVolume v (journal (.volumeDelete v) s)))

/-- VOL_DELETE (R188). -/
def volDelete (v : Nat) (s : State) : Nat × State :=
  if (getVol s v).isNone then (stNotFound, s)
  else if allPorts.any (fun p => accessCode s p v != 0) ∨
      s.ce.cmds.any (fun c => (hasVolume c.entry && volField c.entry == v) || decide (v ∈ c.vols)) = true then (stBusy, s)
  else (stSuccess, eraseVolume v s)

/-! ### Settings (R185, R226) -/

/-- VOL_VCFLAGS and VOL_CLASS take effect with a VOLUME_SET record. -/
def setVolume (v flags cls : Nat) (s : State) : State := modVol v (fun x => { x with vcflags := flags, cls := cls }) s

/-- VOL_VCFLAGS of the selected volume: VERIFY may change, ENCRYPTED may not, reserved bits are ignored (R14). -/
def volVcflags (v n : Nat) (s : State) : Nat × State :=
  match getVol s v with
  | none => (stNotFound, s)
  | some vol =>
    if n % 2 ≠ vol.vcflags % 2 then (stValue, s)
    else (stSuccess, setVolume v (n % 4) vol.cls (journal (.volumeSet v (n % 4) vol.cls) s))

/-- VOL_CLASS of the selected volume. -/
def volClass (v n : Nat) (s : State) : Nat × State :=
  match getVol s v with
  | none => (stNotFound, s)
  | some vol =>
    if 16 ≤ n then (stValue, s)
    else (stSuccess, setVolume v vol.vcflags n (journal (.volumeSet v vol.vcflags n) s))

end Sys2Proof.Machine
end

