-- ==== Sys2Proof/Machine/Durab.lean ====
section
/-! DEFINITION. Checkpoints, the drive journal, replay, loss reports and import (07). -/

namespace Sys2Proof.Machine

/-! ### Checkpoints (R235) -/

/-- May a checkpoint run: in service, or in the dump of a STANDBY write (R235)? -/
def ckptRuns (s : State) : Bool :=
  serving s || (s.pw.state == .dump && s.pw.cause == some .controlStandby && !s.dump.dumped)

/-- CHECKPOINT (R235): a checkpoint that was asked for is taken, unless one runs, on drives from `first` on; the
drives' reports carry it on. -/
def execCheckpoint (first : Nat) (s : State) : Host.Outcome State Fault Refusal :=
  finish (if ckptRuns s && s.dur.requested && s.dur.taking.isNone && !(inService s).isEmpty then startCkpt first s else s)

/-- CKPT_INTERVAL_EXPIRY (R235). -/
def execCkptIntervalExpiry (s : State) : Host.Outcome State Fault Refusal :=
  finish (if serving s then requestCkpt s else s)

/-! ### Drive journal (R237 to R239) -/

/-- The extent map entries that hold dirty data now. -/
def dirtyExtents (s : State) : List Nat :=
  dedup ((dirtySlots s).filterMap (fun e => (getVol s e.2.volume).bind (fun vol =>
    extIndex vol (e.2.page / max 1 vol.extentPages))))

/-- Records up to a segment's 3,580 KiB (R237). -/
def segmentRecords : Nat → List JRec → List JRec
  | _, [] => []
  | n, r :: t => if n + r.body.rlen ≤ 3580 * 1024 then r :: segmentRecords (n + r.body.rlen) t else []

/-- DJ_SEGMENT_CAPACITY (R237): of the drives of the array, reachable or not. -/
def segmentCapacity (s : State) : Nat := (s.tabs.spans.filter (fun e => !e.2.retired)).length * 512 / 3

/-- The drives that take a segment, in turn, in three distinct domains where there are as many (R237). -/
def segmentDrives (s : State) : List Nat :=
  let all := inService s
  let r := s.dur.segSeq % max 1 all.length
  let l := distinctDomains s 3 (all.drop r ++ all.take r)
  (l ++ (all.drop r ++ all.take r).filter (fun d => !decide (d ∈ l))).take 3

/-- FIRST_JSEQ and LAST_JSEQ of some records; those of a segment without records are free values (R238, log entry 171). -/
def recordSpan (rs : List JRec) (s : State) : Nat × Nat × State :=
  match rs.head?, rs.getLast? with
  | some a, some b => (a.seq, b.seq, s)
  | _, _ =>
    let (a, s) := drawNat s
    let (b, s) := drawNat s
    (a, b, s)

/-- A segment is sealed and written (R237 to R239). It counts as written when the drives have reported it. -/
def sealSegment (s : State) : State :=
  let ds := segmentDrives s
  if ds.isEmpty then s
  else
    let rs := segmentRecords 0 s.jr.toDrives
    let rest := s.jr.toDrives.drop rs.length
    let dirty := dirtyExtents s
    let bits := s.dur.exposure ++ dirty.filter (fun n => !decide (n ∈ s.dur.exposure))
    let (first, last, s) := recordSpan rs s
    let seg : Segment := { seq := s.dur.segSeq + 1, epoch := s.dur.epoch, sealedAt := s.clk.now, exposure := bits
                           records := rs, copies := ds, firstJseq := first, lastJseq := last, media := [] }
    let s : State := { s with jr := { s.jr with toDrives := rest } }
    let s := modRecord (fun r => { r with segments := r.segments ++ [seg] }) (modDur (fun d => { d with
      segSeq := seg.seq, segsSinceCkpt := d.segsSinceCkpt + 1, lastSealed := s.clk.now
      exposure := if rest.isEmpty then dirty else bits }) s)
    let s := mkSeal ds.length (516 * 1024 - 4096 + recBytes rs) (ds.foldl (fun s d => issueOp d (.segment seg.seq) s) s)
    if segmentCapacity s ≤ 2 * s.dur.segsSinceCkpt then requestCkpt s else s

/-- Does R221 require a record on the drives: a staged write waits for one that no segment carries yet, or the vault has
failed? -/
def sealNeeded (s : State) : Bool :=
  !s.jr.toDrives.isEmpty && (s.vault.failed || s.cache.slots.any (fun e => e.2.state == .staged && e.2.jseq != 0 &&
    s.jr.toDrives.any (fun r => decide (r.seq ≤ e.2.jseq))))

/-- DJ_SEGMENT_SEAL (R237): the records reach 3,560 KiB, or R221 requires a record on the drives. -/
def execDjSegmentSeal (s : State) : Host.Outcome State Fault Refusal :=
  finish (if serving s && (decide (3560 * 1024 ≤ recBytes s.jr.toDrives) || sealNeeded s) then sealSegment s else s)

/-- DJ_FLUSH_EXPIRY (R237): DRIVE_JOURNAL_FLUSH has passed since the previous seal. -/
def execDjFlushExpiry (s : State) : Host.Outcome State Fault Refusal := finish (if serving s then sealSegment s else s)

/-! ### Replay (R225, R243, R305) -/

/-- AFOLLOW of a record of a record group (R209, R224). -/
def JBody.follow : JBody → Nat
  | .faceAdvance _ _ _ _ _ a => a
  | .logBench _ _ _ a _ => a
  | _ => 0

/-- The records without a record group that is cut short (R225). -/
def wholeGroups (l : List JRec) : List JRec :=
  (l.foldl (fun (acc : List JRec × List JRec) r =>
    if r.body.follow = 0 then (acc.1 ++ acc.2 ++ [r], []) else (acc.1, acc.2 ++ [r])) ([], [])).1

/-- A chunk that a record gives to a member (R225, R259): applied again, it changes nothing. Its header is written again, for
the drives may not have reported it (R233). -/
def claimChunk (c g mem kind vol seq : Nat) (s : State) : State :=
  let d := chunkDrive s c
  let s := modChunk c (fun x =>
    let same := x.state == .allocated && x.group == some g && x.member == mem
    { x with
      state := .allocated, hdrPending := true, relocate := same && x.relocate, group := some g, member := mem, kind := kind
      volume := vol, dense := (d.map (denseOf s)).getD x.dense, drive := d.getD x.drive
      allocCount := if same then x.allocCount else satAdd 0xFFFFFFFF x.allocCount 1
      allocTime := if same then x.allocTime else bitsOf s.clk.now 61 30, spoilJseq := 0 }) s
  let h := { chunkHeader s c g mem kind vol seq with epoch := s.dur.epoch, iv := gcmIv s .mk }
  mkSeal 1 76 (modDur (fun x => { x with headers := Tab.put c h x.headers }) s)

/-- A group that a record opens. -/
def replayGroup (seq g v gattr k m owner kind : Nat) (st : GState) (members : List Nat) (s : State) : State :=
  let grp : Group := { k := k, m := m, state := st, xgen := gattr % 16, dense := gattr.testBit 4, volume := v, fill := 0
                       owner := owner, degraded := false, rebuilding := false, members := members.map (fun c => ⟨c, .ok⟩) }
  let now := bitsOf s.clk.now 61 30
  let s := modTabs (fun t => { t with groups := Tab.put g grp t.groups, scrub := Tab.put g (now, now) t.scrub }) s
  (members.zip (List.range members.length)).foldl (fun s e => claimChunk e.1 g e.2 kind v seq s) s

/-- The state of a member as a MEMBER_STATE record codes it (R194). -/
def memberCode (n : Nat) : MState := if n = 0 then .ok else if n = 1 then .missing else if n = 2 then .rebuilding else .stale

/-- A MEMBER_REPLACE record: the old chunk is kept while a relocation copies from it (R309); the repair entries of the
member go when it is replaced (R305). -/
def replayReplace (seq g mem cur old new : Nat) (s : State) : State :=
  match getGroup s g with
  | none => s
  | some grp =>
    if grp.chunk? mem = some new then s
    else
      let copy := (getChunk s old).relocate
      let s := if copy then s else releaseChunk old (dropRepairs g mem s)
      let s := match grp.members[mem]? with
        | some x => if copy && x.state == .rebuilding && x.chunk != old then releaseChunk x.chunk s else s
        | none => s
      let s := modGroup g (fun x => { x with
        rebuilding := x.rebuilding || cur != 0, degraded := x.degraded || (cur != 0 && !copy)
        members := x.members.set mem ⟨new, if cur = 0 then .ok else .rebuilding⟩ }) (claimChunk new g mem 4 grp.volume seq s)
      if cur = 0 then s
      else addRebuild { group := g, member := mem, oldChunk := old, cursor := cur, progress := 0, copy := copy } s

/-- A MEMBER_STATE record. -/
def replayState (g mem code : Nat) (s : State) : State :=
  let done := (findRebuild s g mem).filter (fun _ => code == 0)
  let s := modGroup g (fun x => { x with
    degraded := x.degraded || code == 1
    members := match x.members[mem]? with
      | some m => x.members.set mem ⟨m.chunk, memberCode code⟩
      | none => x.members }) s
  let s := groupFlags g (modCooper (fun c => { c with
    rebuilds := c.rebuilds.filter (fun r => !(r.group == g && r.member == mem)) }) s)
  match done with
  | some r => if r.copy then releaseChunk r.oldChunk (dropRepairs g mem s) else s
  | none => s

/-- An extent returns to NONE by a replayed DISCARD (R216). -/
def replayFree (v x : Nat) (s : State) : State :=
  let g := (getExt s v x).group
  let s := dropExtentMaps v x s
  let s := match g with
    | some g => spoilGroup g s
    | none => s
  modExt v x (fun _ => Extent.empty) s

/-- An entry of a LOG_BENCH record enters its page map (R204, R224); one without blocks takes back the slot it names, whose
write was cancelled (R101, log entry 160). -/
def replayEntry (seq ix v k b : Nat) (e : LogEntry) (s : State) : State :=
  let new : PmEntry := ⟨b * 32 * k + e.slot, ix, e.bmask⟩
  let old := pmEntry s v e.extent e.page
  if e.bmask = 0 then
    if old.map (fun x => (x.slot, x.logIx)) = some (new.slot, ix) then clearPm v e.extent e.page seq s else s
  else if old = some new then s
  else setPm v e.extent e.page seq new (modLog ix (fun l => { l with live := l.live + 1 }) s)

/-- A LOG_BENCH record (R224). -/
def replayLogBench (seq ix v b : Nat) (es : List LogEntry) (s : State) : State :=
  match getLog s ix with
  | none => s
  | some l =>
    let k := ((getGroup s l.group).map (fun g => g.k)).getD 1
    let s := modGroup l.group (fun g => { g with fill := max g.fill (b + 1) }) s
    let s := modLog ix (fun l => { l with fill := max l.fill (b + 1) }) s
    es.foldl (fun s e => replayEntry seq ix v k b e s) s

/-- One record takes effect on the tables (R224, R225). -/
def replayBody (seq : Nat) (b : JBody) (s : State) : State :=
  match b with
  | .writeCommit .. => s
  | .clean .. => s
  | .discard v _ lba n => match getVol s v with
    | none => s
    | some vol =>
      let s := (wholeExtents vol lba n).foldl (fun s x => replayFree v x s) s
      if cfgDiscardPartial s = 1 then clearLogPages v vol lba n s else s
  | .faceOpen v a k m x g ms =>
    modExt v x (fun e => { e with state := .face, group := some g }) (replayGroup seq g v a k m x 1 .face ms s)
  | .faceAdvance g x _ n v _ => touchExt v x (modGroup g (fun y => { y with fill := max y.fill n }) s)
  | .faceClose g x _ n v =>
    modGroup g (fun y => { y with state := .closed, fill := n }) (modExt v x (fun e => { e with state := .closed }) s)
  | .logOpen v a k m ix g ms =>
    let s := replayGroup seq g v a k m ix 2 .log ms s
    modVol v (fun z => { z with openLog := some ix }) (modTabs (fun t => { t with
      logs := Tab.put ix ⟨g, v, .opened, 0, 0, seq⟩ t.logs }) s)
  | .logBench ix v bench _ es => replayLogBench seq ix v bench es s
  | .logClose ix v _ =>
    modVol v (fun z => if z.openLog = some ix then { z with openLog := none } else z)
      (modLog ix (fun y => { y with state := .closed }) s)
  | .logFree ix _ g => spoilGroup g (modTabs (fun t => { t with logs := Tab.del t.logs ix }) s)
  | .mergeStart x g v r a ms =>
    let vol := getVol s v
    let s := replayGroup seq g v a ((vol.map (fun y => y.k)).getD 1) ((vol.map (fun y => y.m)).getD 1) x 3 .target ms s
    let s := modExt v x (fun e => { e with state := .merging, queued := none }) s
    modEtu (fun e => { e with merges := e.merges.filter (fun q => !(q.volume == v && q.extent == x)) ++
      [{ volume := v, extent := x, target := g, reason := r, progress := 0 }] }) s
  | .mergeDone x t o v =>
    let s := dropExtentMaps v x s
    let s := modExt v x (fun e => { e with state := .closed, group := some t }) s
    let s := spoilGroup o (modGroup t (fun g => { g with state := .closed, fill := benchesPerGroup }) s)
    modEtu (fun e => { e with merges := e.merges.filter (fun q => !(q.volume == v && q.extent == x)) }) s
  | .mergeAbandon x t v r => match findMerge s v x with
    | none => s
    | some m =>
      let s := modEtu (fun e => { e with merges := e.merges.filter (fun q => !(q.volume == v && q.extent == x)) }) s
      spoilGroup t (modExt v x (fun e => { e with
        state := restState s v x, queued := if r = 4 ∨ r = 5 then e.queued else some m.reason }) s)
  | .memberReplace g m c o n => replayReplace seq g m c o n s
  | .memberState g m st => replayState g m st s
  | .spoilReclaim cs => freeGroups (cs.foldl (fun s c =>
      if (getChunk s c).state = .spoil then
        let h : Header := { freeHeader c with hjseq := seq, epoch := s.dur.epoch, iv := gcmIv s .mk }
        mkSeal 1 76 (modDur (fun x => { x with headers := Tab.put c h x.headers })
          (modChunk c (fun x => { x with state := .free, spoilJseq := 0, kind := 0, hdrPending := true }) s))
      else s) s)
  | .volumeCreate b => if (getVol s (field b 0 2)).isSome then s else createVolume b s
  | .volumeGrow v c => growVolume v c s
  | .volumeDelete v => deleteVolume v s
  | .volumeSet v f c => setVolume v f c s
  | .xgenOpen v g => modVol v (fun x => { x with xgCur := g, xgUnits := 0 }) s
  | .checkpoint .. => s

/-- The records up to the first whose CRC fails (R225). -/
def soundRecords (bad : Option Nat) (l : List JRec) : List JRec :=
  match bad with
  | some n => l.takeWhile (fun r => decide (r.seq < n))
  | none => l

/-- Records after `covers` are replayed in JSEQ order, up to the one whose CRC fails (R225, R243); JSEQ goes on behind the last
of them. -/
def replay (covers : Nat) (bad : Option Nat) (l : List JRec) (s : State) : State :=
  let rs := (wholeGroups (soundRecords bad (sortBy (fun r => r.seq) l))).filter (fun r => decide (covers < r.seq))
  let s : State := { s with jr := { s.jr with last := max s.jr.last covers } }
  rs.foldl (fun s r => replayBody r.seq r.body { s with jr := { s.jr with last := max s.jr.last r.seq } }) s

/-! ### Loss reports (R248, R249) -/

/-- The entries of the exposed extents of defined volumes, in order (R248). -/
def lossEntries (s : State) (bits : List Nat) : List LossEntry :=
  let es := bits.filterMap (fun n => (extOwner s n).bind (fun o =>
    (getVol s o.1).map (fun vol => ({ volume := o.1, lba := o.2 * vol.extentBlocks, blocks := vol.extentBlocks } : LossEntry))))
  sortBy (fun e => e.volume) (sortBy (fun e => e.lba) (dedup es))

/-- A loss report is issued (R241, R248, R249): its event goes out for each volume named. -/
def issueReport (r : LossReport) (s : State) : State :=
  let r := if cfgAutoAcceptLoss s = 1 then { r with accepted := true } else r
  let s := modDur (fun d => { d with report := some r }) s
  (dedup (r.entries.map (fun e => e.volume))).foldl (fun s v =>
    event 0x3203 2 v (leBytes 8 r.epoch ++ leBytes 1 r.cause ++
      leBytes 4 (r.entries.filter (fun e => e.volume == v)).length) s) s

/-- LOSS_HEADER (R248). -/
def lossHeader (r : LossReport) : Bytes :=
  leBytes 8 r.epoch ++ leBytes 8 r.source ++ leBytes 1 r.cause ++ leBytes 1 (b2n r.horizonOpen) ++ zeros 6 ++
    leBytes 8 r.horizon ++ leBytes 4 r.entries.length ++ leBytes 2 (dedup (r.entries.map (fun e => e.volume))).length ++ zeros 26

/-- LOSS_ENTRY (R248). -/
def lossEntry (e : LossEntry) : Bytes := leBytes 2 e.volume ++ zeros 2 ++ leBytes 4 e.blocks ++ leBytes 8 e.lba

/-- LOSS_ACK (R249). -/
def lossAck (n : Nat) (s : State) : Nat × State :=
  match s.dur.report with
  | none => (stNotFound, s)
  | some r =>
    if n = r.epoch then (stSuccess, modDur (fun d => { d with report := some { r with accepted := true } }) s)
    else (stValue, s)

/-! ### Import (R250 to R253) -/

/-- What the drives of an array hold that this module has not written (log entry 1): the row of SCAN brings their labels and
what fails to verify, the rest is free. -/
opaque foreignRecord : Nat → ArrayRecord

/-- The retained descriptors of the labels of an array (R236). -/
def retained (r : ArrayRecord) (slot : Nat) : Ckpt :=
  ((r.images.find? (fun x => x.desc.slot == slot)).map (fun x => x.desc)).getD Ckpt.empty

/-- What a SCAN has found is forgotten; the descriptors shown are the module's own again. -/
def dropScan (s : State) : State :=
  if s.dur.scan.isSome then
    let r := if s.dur.mediaArray = s.dur.arrayId then s.dur.record else ArrayRecord.empty
    modDur (fun d => { d with scan := none, report := none, ckpt0 := retained r 0, ckpt1 := retained r 1 }) s
  else s

/-- SCAN is accepted, or refused (R250, R254). -/
def importScan (s : State) : Nat × State :=
  if s.dur.importState = .scanning ∨ s.dur.importState = .committing then (stBusy, s)
  else if s.lock.metaPending.isNone ∧ s.lock.metaKey.isNone then (stKeyUnavailable, s)
  else if s.tabs.vols.isEmpty = false then (stBusy, s)
  else (stSuccess, modDur (fun d => { d with
    importState := .scanning, importDrives := 0, importMissing := 0 }) (dropScan s))

/-- SCAN ends without a checkpoint that verifies, or without an array (R250). -/
def scanFails (step n : Nat) (s : State) : State :=
  importEvent step n (modDur (fun d => { d with importState := .failed }) s)

/-- The labels that SCAN reads: those of the array chosen (R250, step 1). -/
def scanLabels (s : State) (drives : List DriveInfo) : List LabelInfo :=
  let ls := drives.filterMap (fun i => i.label)
  let ids := dedup (ls.map (fun l => l.arrayId))
  let chosen := if cfgImportArray s = zeros 16 then
      (match ids with
        | [a] => a
        | _ => [])
    else cfgImportArray s
  ls.filter (fun l => l.arrayId == chosen)

/-- The segments of an epoch of which a copy is on media, in order of SEG_SEQ, before the first gap or the first that fails
(R250, step 3). -/
def segmentsInOrder (epoch : Nat) (bad : Option Nat) (l : List Segment) : List Segment :=
  let l := sortBy (fun g => g.seq) (l.filter (fun g => g.epoch == epoch && !g.media.isEmpty && some g.seq != bad))
  (l.foldl (fun (acc : List Segment × Bool) g =>
    let ok := acc.2 && (match acc.1.getLast? with
      | some p => g.seq == p.seq + 1
      | none => (bad.map (fun n => decide (g.seq < n))).getD true)
    (if ok then acc.1 ++ [g] else acc.1, ok)) ([], true)).1

/-- The merges that tables show as running (R192, R193). MERGE_START's reason is not in them: LOG_POOL stands for one that
is not known otherwise. -/
def tableMerges (s : State) : List Merge :=
  (s.tabs.exts.filter (fun e => e.2.state == .merging)).filterMap (fun e => (extOwner s e.1).bind (fun o =>
    match findMerge s o.1 o.2 with
    | some m => some m
    | none => (s.tabs.groups.find? (fun g => g.2.state == .target && g.2.volume == o.1 && g.2.owner == o.2)).map (fun g =>
        { volume := o.1, extent := o.2, target := g.1, reason := 1, progress := 0 })))

/-- The rebuilds that tables show as running: a member REBUILDING; a relocation has the chunk it copies from (R194, R309). -/
def tableRebuilds (s : State) : List Rebuild :=
  (s.tabs.groups.map (fun e => (List.range e.2.members.length).filterMap (fun n => match e.2.members[n]? with
    | some m =>
      if m.state = .rebuilding then
        let src := s.tabs.chunks.find? (fun c => c.2.state == .allocated && c.2.relocate && c.2.group == some e.1 &&
          c.2.member == n && c.1 != m.chunk)
        some { group := e.1, member := n, oldChunk := (src.map (fun c => c.1)).getD m.chunk, cursor := e.2.fill
               progress := 0, copy := src.isSome }
      else none
    | none => none))).flatten

/-- The members of groups in use whose chunks the chunk table does not give them (R243, step 12). -/
def strayMembers (s : State) : List (Nat × Nat) :=
  ((s.tabs.groups.filter (fun e => e.2.holds || e.2.state == .target)).map (fun e =>
    ((e.2.members.zip (List.range e.2.members.length)).filter (fun m =>
      let c := getChunk s m.1.chunk
      m.1.state != .missing && !(c.state == .allocated && c.group == some e.1 && c.member == m.2))).map
        (fun m => (e.1, m.2)))).flatten

/-- Does a group belong in the rebuild queue: a member is MISSING, or its chunk is marked RELOCATE (R284)? -/
def needsRebuild (s : State) (g : Group) : Bool :=
  g.holds && g.members.any (fun m => m.state == .missing || (m.state == .ok && (getChunk s m.chunk).relocate))

/-- Steps 11d and 12 of a restart: merges without an end are abandoned, every rebuild starts again on a fresh chunk, a member
whose chunk the chunk table does not give it is MISSING (log entry 173), and the groups that need it are queued again, in
order of their index (R243, R284, R314). -/
def settleTables (s : State) : State :=
  let s := modEtu (fun e => { e with
    nextTouch := (s.tabs.exts.foldl (fun m x => max m x.2.touched) 0) + 1, merges := tableMerges s }) s
  let s := s.etu.merges.foldl (fun s m => abandonMerge m.volume m.extent 1 s) s
  let s := (strayMembers s).foldl (fun s e =>
    modGroup e.1 (fun g => { g with degraded := true }) (setMember e.1 e.2 .missing 1 s)) s
  let s := (tableRebuilds s).foldl (fun s r => restartMember false r.group r.member r s) s
  (s.tabs.groups.filter (fun e => needsRebuild s e.2)).foldl (fun s e => queueRebuild e.1 s) s

/-! ### What the drives give (R250 to R252, R259) -/

/-- What a SCAN, or a restart on path DRIVE, finds. -/
structure Scanned where
  tables : Tables
  jseq : Nat
  segSeq : Nat
  exposure : List Nat
  horizon : Nat

/-- The header that a reader takes for a chunk: of the copies that verify the one of higher HJSEQ (R233). -/
def headerOf (r : ArrayRecord) (bad : List (Nat × Bool)) (c : Nat) : Option Header :=
  readHeader ((Tab.at? c r.headersA).filter (fun _ => !decide ((c, false) ∈ bad)))
    ((Tab.at? c r.headersB).filter (fun _ => !decide ((c, true) ∈ bad)))

/-- Do the tables give a chunk to a member of a group? -/
def namesChunk (s : State) (g mem c : Nat) : Bool :=
  match getGroup s g with
  | some y => y.state != .spoil && y.chunk? mem == some c
  | none => false

/-- The chunk table entry that a header gives (R250, step 4, R252, R259): an ALLOCATED chunk whose record was not replayed, or
that no record names any more, is spoil. -/
def chunkOfHeader (s : State) (h : Header) : Chunk :=
  let d := (chunkDrive s h.chunk).getD 0
  let empty : Chunk := { state := .free, hdrPending := false, relocate := false, dense := denseOf s d, drive := d, group := none
                         member := 0, kind := 0, volume := 0, allocCount := 0, errTally := 0
                         allocTime := bitsOf s.clk.now 61 30, spoilJseq := 0 }
  if !h.allocated then empty
  else if decide (h.hjseq ≤ s.jr.last) && namesChunk s h.group h.member h.chunk then
    { empty with state := .allocated, group := some h.group, member := h.member, kind := h.kind, volume := h.volume }
  else { empty with state := .spoil, kind := h.kind, volume := h.volume, spoilJseq := s.jr.last }

/-- The chunk table is rebuilt from the headers of the drives found (R250, step 4); the module's own copy of them too. -/
def chunksFromHeaders (r : ArrayRecord) (bad : List (Nat × Bool)) (s : State) : State :=
  let cs := (dedup (Tab.keys r.headersA ++ Tab.keys r.headersB)).filter (fun c => (chunkDrive s c).isSome)
  let hs := cs.filterMap (headerOf r bad)
  let t := hs.foldl (fun t h => Tab.put h.chunk (chunkOfHeader s h) t) ([] : Tab Chunk)
  modDur (fun d => { d with headers := putHeaders hs [] }) (modTabs (fun x => { x with chunks := t }) s)

/-- The lowest HJSEQ of the chunks of a group (R251): that of the record that opened it, while a member it began with is
left. -/
def groupJseq (r : ArrayRecord) (bad : List (Nat × Bool)) (g : Group) : Nat :=
  (minBy (fun n => n) (g.members.filterMap (fun m => (headerOf r bad m.chunk).map (fun h => h.hjseq)))).getD 0

/-- Is a slot that an index page names live, but for a newer one (R251)? -/
def slotLive (r : ArrayRecord) (i : ScanInputs) (s : State) (x : LogIndex) (e : LogEntry) : Bool :=
  !decide ((x.log, x.bench, e.slot / 32) ∈ i.badIndex) && decide (x.jseq ≤ s.jr.last) &&
    (match getLog s x.log with
      | some l => l.state != .free && l.group == x.group
      | none => false) &&
    (match (getExt s x.volume e.extent).group.bind (getGroup s) with
      | some g => decide (groupJseq r i.badHeaders g < x.jseq)
      | none => true)

/-- No page has a log copy, and no log extent a live page. -/
def dropMaps (t : Tables) : Tables :=
  { t with dirs := [], mapPages := [], exts := t.exts.map (fun e => (e.1, { e.2 with pmd := none, logPages := 0 }))
           logs := t.logs.map (fun e => (e.1, { e.2 with live := 0 })) }

/-- Page maps, directories and the LIVE counts are built from the live slots, older ones first, so that a newer slot of a page
stands (R251; log entry 174). The pages built go to the vault. -/
def rebuildMaps (r : ArrayRecord) (i : ScanInputs) (s : State) : State :=
  (sortBy (fun x => x.jseq) r.index).foldl (fun s x =>
    let k := ((getGroup s x.group).map (fun g => g.k)).getD 1
    (x.entries.filter (slotLive r i s x)).foldl (fun s e =>
      modQm (fun q => { q with residency := [] }) (replayEntry x.jseq x.log x.volume k x.bench e s)) s)
    (modTabs dropMaps s)

/-- What the record of an array gives from one of its checkpoints (R250 steps 3 to 6, R251, R259): partial discards, which no
index page shows, are not applied. -/
def scanRecord (r : ArrayRecord) (epoch : Nat) (c : CkptImage) (spans : Tab Span) (i : ScanInputs) (s : State) : Scanned :=
  let segs := segmentsInOrder epoch i.badSegment r.segments
  let t : State := { s with
    tabs := { dropMaps c.tables with chunks := [], spans := spans, repair := [], poison := [], scrub := c.tables.scrub }
    jr := Journal.reset, etu := Etu.reset, cooper := { s.cooper with rebuilds := [] }
    qm := { s.qm with residency := [], queue := [] } }
  let t := replay c.desc.covers i.badRecord ((segs.map (fun x => x.records)).flatten) t
  let t := rebuildMaps r i (chunksFromHeaders r i.badHeaders t)
  let now := bitsOf s.clk.now 61 30
  { tables := { t.tabs with scrub := t.tabs.groups.map (fun e => (e.1, (now, now))), repair := [], poison := [] }
    jseq := t.jr.last, segSeq := ((segs.getLast?).map (fun x => x.seq)).getD s.dur.segSeq
    exposure := ((segs.getLast?).map (fun x => x.exposure)).getD []
    horizon := ((segs.getLast?).map (fun x => x.sealedAt)).getD 0 }

/-- The spans that labels give. -/
def labelSpans (ls : List LabelInfo) : Tab Span :=
  ls.foldl (fun t l => Tab.put l.driveNo { base := l.chunkBase, count := l.chunkCount, retired := false } t) []

/-- SCAN reads and computes (R250, steps 1 to 6). -/
def scanRun (i : ScanInputs) (s : State) : State :=
  let ls := scanLabels s i.drives
  let epoch := ls.foldl (fun m l => max m l.epoch) 0
  let count := ((ls.foldl (fun (a : Option LabelInfo) l => match a with
    | some b => if b.epoch < l.epoch ∨ (b.epoch = l.epoch ∧ b.labelSeq < l.labelSeq) then some l else a
    | none => some l) none).map (fun l => l.driveCount)).getD 0
  let s := modDur (fun d => { d with importDrives := ls.length, importMissing := count - ls.length }) s
  match ls with
  | [] => scanFails 1 0 s
  | l :: _ =>
    if !(((s.lock.metaPending.orElse (fun _ => s.lock.metaKey)).map (fun k => k.arrayId == l.arrayId)).getD false) then
      scanFails 2 0 s
    else
      let known := decide (s.dur.mediaArray = l.arrayId) && decide (s.dur.epoch = epoch)
      let (n, s) := drawNat s
      let r := if known then s.dur.record else foreignRecord n
      let images := r.images.reverse
      match (if i.newerOk then images[0]? else if i.olderOk then images[1]? else none) with
      | none => scanFails 2 i.replacements s
      | some c =>
        let t := scanRecord r epoch c (labelSpans ls) i s
        let rep : LossReport := { epoch := epoch + 1, source := epoch, cause := 3, horizonOpen := true
                                  horizon := t.horizon, accepted := false
                                  entries := lossEntries { s with tabs := t.tables } t.exposure }
        let s := modDur (fun d => { d with
          importState := .scanned, report := some rep, ckpt0 := if c.desc.slot = 0 then c.desc else Ckpt.empty
          ckpt1 := if c.desc.slot = 0 then Ckpt.empty else c.desc
          scan := some { arrayId := l.arrayId, epoch := epoch, tables := t.tables, jseq := t.jseq, segSeq := t.segSeq
                         record := r, report := rep } }) s
        let s := modLock (fun k => { k with mkGen := { k.mkGen with reserved := max k.mkGen.reserved i.highestKgen } }) s
        importEvent 6 i.replacements s

/-- The drives found with a label of the array take their own numbers and come ONLINE (R250, R333, R336). -/
def takeDrives (a : Bytes) (s : State) : State :=
  let mine := s.drv.drives.filterMap (fun e => (e.2.label.filter (fun l => l.arrayId == a)).map (fun l => (l, e)))
  let held := mine.map (fun m => m.2.1)
  let rest := s.drv.drives.filter (fun e => !decide (e.1 ∈ held))
  let t := mine.foldl (fun t m => if (Tab.at? m.1.driveNo t).isNone then
      Tab.put m.1.driveNo { m.2.2 with domain := m.1.domain } t else t) ([] : Tab Drive)
  let t := rest.foldl (fun t e => match Tab.firstFree t e.1 512 with
    | some n => Tab.put n e.2 t
    | none => t) t
  let s : State := { s with drv := { s.drv with drives := t } }
  mine.foldl (fun s m => moveDrive m.1.driveNo .online .none (modTabs (fun t => { t with
    spans := Tab.put m.1.driveNo ⟨m.1.chunkBase, m.1.chunkCount, false⟩ t.spans }) s)) s

/-- UNITS of every encrypted volume rises by 2^38 (R463). -/
def raiseUnits (s : State) : State :=
  modTabs (fun t => { t with vols := t.vols.map (fun e =>
    if e.2.encrypted then (e.1, { e.2 with xgUnits := e.2.xgUnits + 2 ^ 38 }) else e) }) s

/-- COMMIT (R250, steps 7 and 8): the array is this module's, under the next epoch. A checkpoint is taken, and with its labels
on media the import is done (R235, R241). -/
def importCommit (s : State) : Nat × State :=
  match s.dur.scan with
  | none => (stBusy, s)
  | some r =>
    if s.dur.importState ≠ .scanned then (stBusy, s)
    else
      let top := (r.record.images.map (fun x => x.desc.id)).foldl max 0
      let report := match s.dur.report with
        | some y => { r.report with accepted := y.accepted }
        | none => r.report
      let s := modDur (fun d => { d with
        arrayId := r.arrayId, mediaArray := r.arrayId, epoch := r.epoch + 1, importState := .committing, scan := none
        record := r.record, ckpt0 := retained r.record 0, ckpt1 := retained r.record 1, segSeq := r.segSeq
        nextCkpt := max d.nextCkpt (top + 1) }) s
      let s := modLock (fun l => { l with
        metaKey := (l.metaPending.orElse (fun _ => l.metaKey)), metaPending := none
        mkGen := { g := l.mkGen.reserved + 65536, count := 0, reserved := l.mkGen.reserved + 65536 + 16 } }) s
      let s : State := { writeStore s with tabs := r.tables }
      let s : State := { s with jr := { s.jr with last := r.jseq, ring := [], vault := [], toDrives := [] } }
      let s := s.tabs.mapPages.foldl (fun s e => gcmUse .vsk 1 4096 (storeWrite e.1 s)) s
      let s := takeDrives r.arrayId s
      let s := raiseUnits (settleTables (modTabs (fun t => { t with vols := t.vols.map (fun e =>
        (e.1, { e.2 with state := .recovering, loss := false })) }) s))
      let s := issueReport report s
      let s := if (inService s).isEmpty then importEvent 7 0 (modDur (fun d => { d with importState := .done }) s)
        else startCkpt 0 s
      (stSuccess, s)

/-- CANCEL (R250): before step 7. -/
def importCancel (s : State) : Nat × State :=
  if s.dur.importState = .committing ∨ s.dur.importState = .done then (stBusy, s)
  else
    (stSuccess, dropScan (modDur (fun d => { d with importState := .idle }) s))

/-- The pages of a region of the store are trimmed (R395, R399): MAP, JOURNAL, CKPT0 and CKPT1, all but the LEDGER. -/
def trimArrayRegions (s : State) : State :=
  let ledger (p : Nat) : Bool := decide (ledgerLpn ≤ p) && decide (p < ledgerLpn + 32 * 512)
  let ps := (dedup (s.vault.logPages.map (fun e => e.1) ++
    (s.vault.blocks.map (fun e => (blockPages s e.1).map (fun p => e.1 * 512 + p))).flatten)).filter (fun p => !ledger p)
  ps.foldl (fun s p => trimPage p s) s

/-- DISCARD_LOCAL (R253). -/
def discardLocal (s : State) : Nat × State :=
  if s.dur.path ≠ .stale ∨ s.dur.importState = .scanning ∨ s.dur.importState = .committing then (stBusy, s)
  else
    let s := s.tabs.vols.foldl (fun s e => eraseVolume e.1 s) s
    let s := writeStore (modLock (fun l => { l with metaKey := none, metaPending := none, unitsSince := [] }) s)
    let s := trimArrayRegions s
    let had := s.dump.image.isSome
    let s := modVault (fun v => { v with rearming := v.rearming || had }) (modDump (fun d => { d with image := none }) s)
    let s : State := { s with tabs := Tables.empty, jr := Journal.reset }
    let s := modDur (fun d => { d with
      arrayId := zeros 16, vaultCkpts := [], ckpt0 := Ckpt.empty, ckpt1 := Ckpt.empty, path := .empty, report := none
      exposure := [], headers := [], taking := none }) s
    (stSuccess, importEvent 0 0 s)

end Sys2Proof.Machine
end

