-- ==== Sys2Proof/Machine/Paths.lean ====
section
/-! DEFINITION. Management paths A and B, the transmit right, addresses, the device clock and PTP (15: R504 to R511). -/

namespace Sys2Proof.Machine

/-! ### The transmit right (R504 to R508) -/

/-- The state with the path part changed. -/
def modPaths (f : Paths → Paths) (s : State) : State := { s with paths := f s.paths }

/-- Path B where the argument holds, else A. -/
def Paths.path (p : Paths) (b : Bool) : MPath := if b then p.b else p.a

/-- The paths with one replaced. -/
def Paths.setPath (p : Paths) (b : Bool) (m : MPath) : Paths := if b then { p with b := m } else { p with a := m }

/-- A path that is ready to take the right (R505): STANDBY. -/
def MPath.ready (m : MPath) : Bool := m.state == .standby

/-- The path that R507 gives the right to, from the contacts and the states. -/
def rightNext (s : State) : Bool :=
  let r := s.paths.right
  if s.side.pathHold then s.side.pathSel
  else if (s.paths.path r).isDown && (s.paths.path (!r)).ready then !r
  else r

/-- The holder that is ready is ACTIVE; the other one is not (R505). -/
def rightStates (p : Paths) : Paths :=
  let h := p.path p.right
  let o := p.path (!p.right)
  let p := if h.state = .standby then p.setPath p.right { h with state := .active } else p
  if o.state = .active then p.setPath (!p.right) { o with state := .standby } else p

/-- PTP is in holdover (R511): it acquires again when messages resume. -/
def ptpHoldover (p : Paths) : Paths :=
  { p with source := if p.source = 2 ∨ p.source = 3 then 4 else p.source, lockedSince := none }

/-- The right moves to path B or A for a cause (R508, R534). -/
def moveRight (b : Bool) (cause : Nat) (s : State) : State :=
  if s.paths.right = b then s
  else
    let s := modPaths (fun p => rightStates (ptpHoldover { p with right := b, failovers := p.failovers + 1 })) s
    event 0xBA01 1 0 (leBytes 1 (b2n !b) ++ leBytes 1 (b2n b) ++ leBytes 1 cause) s

/-- Why a holder carries nothing: its link, its self-test, or PATH_ENABLE (R534). -/
def downCause (s : State) : Nat :=
  let m := s.paths.path s.paths.right
  if m.state = .down then 1 else if m.testOk then 5 else 2

/-- The right goes where R507 gives it. -/
def settleRight (cause : Nat) (s : State) : State :=
  modPaths rightStates (moveRight (rightNext s) (if s.side.pathHold then 4 else cause) s)

/-- INTERFACE of a path (R540). -/
def pathInterface (b : Bool) : Nat := if b then 0x26 else 0x25

/-- Is PATH_ENABLE of a path 1? -/
def pathEnabled (s : State) (b : Bool) : Bool := cfgPathEnable s (b2n b) == 1

/-- The active path goes DOWN or FAILED: a path in MAINTENANCE is needed and leaves it (R544). -/
def freeOther (b : Bool) (s : State) : State :=
  let o := pathInterface (!b)
  if s.paths.right = b ∧ inMaint s o = true then
    let s := abortTestOn o 4 s
    let s := modPaths (fun p => p.setPath (!b) (leavePath (p.path (!b)))) s
    modTest (fun t => { t with maint := t.maint.filter (fun i => i != o) }) s
  else s

/-- Do the management paths run: the standby domain, not its keep-alive part alone (R57)? -/
def pathsRun (s : State) : Bool := s.pw.rail && s.pw.state != .off

/-- PATH_LINK_UP (R505, R509). -/
def execPathLinkUp (b : Bool) (rate : Nat) (ok : Bool) (s : State) : Host.Outcome State Fault Refusal :=
  let m := s.paths.path b
  if pathsRun s && m.state == .down && pathEnabled s b && decide (1 ≤ rate) && decide (rate ≤ cfgPathRateMax s (b2n b)) then
    if ok then
      finish (modPaths (fun p => p.setPath b { state := .syncing, link := rate, testOk := true }) s)
    else
      let s := modPaths (fun p => p.setPath b { state := .failed, link := rate, testOk := false }) s
      finish (settleRight (downCause s) (freeOther b s))
  else finish s

/-- PATH_SYNC_DONE (R505 to R507). -/
def execPathSyncDone (b : Bool) (s : State) : Host.Outcome State Fault Refusal :=
  let m := s.paths.path b
  if pathsRun s && m.state == .syncing then
    let c := downCause s
    finish (settleRight c (modPaths (fun p => p.setPath b { m with state := .standby }) s))
  else finish s

/-- PATH_LINK_LOSS (R505, R508): the link has been lost for 5 ms without a break. -/
def execPathLinkLoss (b : Bool) (s : State) : Host.Outcome State Fault Refusal :=
  let m := s.paths.path b
  if pathsRun s && m.link != 0 then
    let st : PathState := if m.state = .failed then .failed else .down
    let s := modPaths (fun p => p.setPath b { m with state := st, link := 0 }) s
    finish (if st = .down then settleRight 1 (freeOther b s) else s)
  else finish s

/-- PATH_HOLD_CHANGE (R38, R507). -/
def execPathHoldChange (h sel : Bool) (s : State) : Host.Outcome State Fault Refusal :=
  let s := modSide (fun x => { x with pathHold := h, pathSel := sel }) s
  finish (if s.pw.rail then settleRight (downCause s) s else s)

/-- PATH_SWITCH (R507). The value 0 moves nothing. -/
def pathSwitch (v : Nat) (s : State) : Nat × State :=
  if s.side.pathHold then (stBusy, s)
  else if v = 0 then (stSuccess, s)
  else if (s.paths.path (!s.paths.right)).ready then (stSuccess, moveRight (!s.paths.right) 3 s)
  else (stBusy, s)

/-- May PATH_ENABLE of a path be written (R507)? -/
def pathEnableFree (b : Bool) (v : Nat) (s : State) : Bool :=
  v != 0 || s.paths.right != b || (s.paths.path (!b)).ready

/-- PATH_ENABLE takes effect (R505, R507): a path it had disabled is DOWN until its link comes up. -/
def pathEnable (b : Bool) (v : Nat) (s : State) : State :=
  if v = 0 then settleRight 5 (modPaths (fun p => p.setPath b { p.path b with state := .failed, testOk := true }) s)
  else if (s.paths.path b).state = .failed ∧ inMaint s (pathInterface b) = false then
    modPaths (fun p => p.setPath b (leavePath (p.path b))) s
  else s

/-! ### Addresses (R509) -/

/-- ADDRESS_AUTOCONFIG: the active path's SLAAC or DHCPv4 address. -/
def execAddressAutoconfig (e : AddressEvent) (s : State) : Host.Outcome State Fault Refusal :=
  if pathsRun s && (s.paths.path s.paths.right).state == .active then
    match e with
    | .routerAdvertisement a =>
      finish (if bit (cfgAddrMode s) 0 then modPaths (fun p => { p with slaac := some (fit 16 a) }) s else s)
    | .dhcpLease a => finish (if bit (cfgAddrMode s) 1 then modPaths (fun p => { p with dhcp := some (fit 4 a) }) s else s)
    | .leaseExpired => finish (modPaths (fun p => { p with dhcp := none }) s)
  else finish s

/-- ADDR_MODE takes effect: an address that it no longer enables goes. -/
def addrMode (v : Nat) : State → State :=
  modPaths (fun p => { p with
    slaac := if bit v 0 then p.slaac else none, dhcp := if bit v 1 then p.dhcp else none })

/-! ### The device clock and PTP (R53, R510, R511) -/

/-- The clock is stepped forward, and the step is recorded (R510). -/
def stepClock (t : Nat) (s : State) : State :=
  let old := s.clk.now
  event 0xBA02 0 0 (leBytes 8 old ++ leBytes 8 t) { s with clk := { s.clk with now := t } }

/-- CLOCK_SET (R510). -/
def clockSet (t : Nat) (s : State) : Nat × State :=
  if t < s.clk.now then (stValue, s)
  else
    let s := modPaths (fun p => { p with source := if p.source = 0 then 1 else p.source }) s
    (stSuccess, if t = s.clk.now then s else stepClock t s)

/-- The clock's increment at a rate in 0.001 ppm (R53). -/
def clockIncr (freq : Int) : Nat := ((10 * 2 ^ 32 : Int) + 10 * 2 ^ 32 * freq / 1000000000).toNat

/-- The rate the servo sets for an offset: within ±500 ppm, not above 0 while the clock is ahead (R53, R511); which, the spec
does not state (log entry 1). -/
def servoRate (o : Int) (s : State) : Int × State :=
  let (n, s) := drawNat s
  (if 0 < o then -((n % 500001 : Nat) : Int) else (n % 1000001 : Nat) - (500000 : Int), s)

/-- The discipline sees an offset (R511): a forward step above the threshold, else a rate; locked after 16 s within
±1 µs. -/
def ptpOffset (o : Int) (s : State) : State :=
  if o < 0 ∧ (cfgPtpStepThreshold s : Int) < -o then
    modPaths (fun p => { p with offset := 0, lockedSince := none, source := 2 }) (stepClock (s.clk.now + (-o).toNat) s)
  else
    let (f, s) := servoRate o s
    let inside := decide (-1000 ≤ o) && decide (o ≤ 1000)
    let since := if inside then some (s.paths.lockedSince.getD s.clk.uptime) else none
    let isLocked := match since with
      | some t => decide (t + 16000000000 ≤ s.clk.uptime)
      | none => false
    let s : State := { s with clk := { s.clk with incr := clockIncr f } }
    modPaths (fun p => { p with offset := o, freq := f, lockedSince := since, source := if isLocked then 3 else 2 }) s

/-- Does PTP run: enabled, on the active path (R511)? -/
def ptpRuns (s : State) : Bool :=
  pathsRun s && cfgPtpEnable s == 1 && (s.paths.path s.paths.right).state == .active

/-- PTP_MESSAGE. -/
def execPtpMessage (m : PtpMessage) (s : State) : Host.Outcome State Fault Refusal :=
  if ptpRuns s then
    match m with
    | .announce a => finish (modPaths (fun p => { p with master := fit 8 a, source := if p.source = 3 then 3 else 2 }) s)
    | .sync o => finish (ptpOffset o s)
    | .followUp o => finish (ptpOffset o s)
    | .delayResp o => finish (ptpOffset o s)
  else finish s

/-- PTP_ANNOUNCE_TIMEOUT (R511): three announce intervals without a message. The clock holds its rate. -/
def execPtpAnnounceTimeout (s : State) : Host.Outcome State Fault Refusal := finish (modPaths ptpHoldover s)

/-- PTP_ENABLE takes effect: without discipline the increment is exactly 10 ns (R53). -/
def ptpEnable (v : Nat) (s : State) : State :=
  if v = 0 then
    modPaths (fun p => { p with source := 0, offset := 0, freq := 0, master := zeros 8, lockedSince := none })
      { s with clk := { s.clk with incr := 10 * 2 ^ 32 } }
  else modPaths (fun p => { p with source := 2 }) s

end Sys2Proof.Machine
end

