-- ==== Sys2Proof/Machine/Dump.lean ====
section
/-! DEFINITION. Memory errors, the map cache commands and the power-fail dump (11). -/

namespace Sys2Proof.Machine

/-! ### Memory errors (R358 to R360) -/

/-- An HBM_ECC event (R534). -/
def eccEvent (sev stack partition address : Nat) (corrected : Bool) : State → State :=
  event 0x7601 sev stack (leBytes 1 partition ++ leBytes 8 address ++ leBytes 1 (b2n corrected))

/-- Corrected errors of a stack within the last 24 h (R360). -/
def corrected24 (s : State) (stack : Nat) : Nat :=
  sumNat ((s.cache.ecc24.filter (fun e => e.1 == stack && decide (s.clk.uptime ≤ e.2.1 + dayNs))).map (fun e => e.2.2))

/-- ECC_CORRECTED (R358, R360). Which address a retiring stack's event names is a free value (log entry 1). -/
def execEccCorrected (stack : Fin 4) (count : Nat) (s : State) : Host.Outcome State Fault Refusal :=
  if s.cache.stacksOk.toNat.testBit stack.val && (serving s || s.pw.state == .start || s.pw.state == .dump) then
    let s := modCache (fun c => { c with
      corrected := c.corrected.set stack.val (c.corrected.getD stack.val 0 + count)
      ecc24 := c.ecc24.filter (fun e => decide (s.clk.uptime ≤ e.2.1 + dayNs)) ++ [(stack.val, s.clk.uptime, count)] }) s
    if cfgEccRetireThreshold s ≤ corrected24 s stack.val ∧ s.cache.retiring.toNat.testBit stack.val = false then
      let s := modCache (fun c => { c with retiring := c.retiring ||| BitVec.ofNat 4 (2 ^ stack.val) }) s
      let p := drawNat s
      let a := drawNat p.2
      finish (eccEvent 1 stack.val (p.1 % 4) a.1 true a.2)
    else finish s
  else finish s

/-- A module reset with the dump; `mark` says that data the image would carry is lost (R359). -/
def eccReset (mark : Bool) (s : State) : State :=
  enterDump .hbmError (modDump (fun d => { d with marked := d.marked || mark }) s)

/-- Protected metadata of the journal-and-staging partition: its first 2,596 MiB (R356). -/
def protectedBytes : Nat := 2596 * 2 ^ 20

/-- The end of the checkpoint staging buffer, which lies behind the protected metadata (R356). -/
def stagingEnd : Nat := protectedBytes + 640 * 2 ^ 20

/-- A checkpoint that is still being copied is repeated (R359). -/
def repeatCkpt (s : State) : State :=
  match s.dur.taking with
  | some t => if t.labels then s
    else startCkpt 0 (modDur (fun d => { d with taking := none, nextCkpt := t.image.desc.id }) s)
  | none => s

/-- The page of the read cache that an address of its partition belongs to: by directory entry of 16 bytes, then by slot
(R354, R367; log entry 179). -/
def rcIndex (s : State) (a : Nat) : Nat := if a < rcDirBytes s then a / 16 else (a - rcDirBytes s) / 4096

/-- What an uncorrectable error brings in its partition (R359). A slot that is FETCHING or STAGED is neither clean nor part
of the image: a module reset whose image stays whole (log entry 179). -/
def eccEffect (p : Partition) (a : Nat) (s : State) : State :=
  match p with
  | .readCache => modCache (fun c => { c with rc := c.rc.eraseIdx (rcIndex s a) }) s
  | .writeCache => match Tab.at? (a / 4096) s.cache.slots with
    | some x => if x.state = .clean then freeSlot (a / 4096) s
      else eccReset (x.state == .dirty || x.state == .destaging) s
    | none => s
  | .maps =>
    if a < 2 ^ 32 then eccReset false s
    else
      match s.qm.residency.find? (fun e => e.2.slot == (a - 2 ^ 32) / 65536) with
      | some e => if e.2.dirty then eccReset false s
        else fetchMap e.1 (modRes e.1 (fun r => { r with resident := false, fetching := false }) s)
      | none => s
  | .journal => if a < protectedBytes then eccReset true s else if a < stagingEnd then repeatCkpt s else s

/-- The code of a partition (R534). -/
def partitionCode : Partition → Nat
  | .maps => 0 | .writeCache => 1 | .readCache => 2 | .journal => 3

/-- ECC_UNCORRECTABLE (R359). -/
def execEccUncorrectable (p : Partition) (stack : Fin 4) (a : Nat) (s : State) : Host.Outcome State Fault Refusal :=
  if s.cache.stacksOk.toNat.testBit stack.val && (serving s || s.pw.state == .start || s.pw.state == .dump) then
    let s := modCache (fun c => { c with
      uncorrected := c.uncorrected.set stack.val (c.uncorrected.getD stack.val 0 + 1) }) s
    finish (eccEffect p a (eccEvent 2 stack.val (partitionCode p) a false (addFault .hbmError s)))
  else finish s

/-- CACHE_MODE_CHANGE (R365): the mode follows its conditions at once, so nothing is left to change. -/
def execCacheModeChange (s : State) : Host.Outcome State Fault Refusal := finish s

/-- A write to MCACHE_OP (R373). -/
def mcacheWrite (b : Bytes) (s : State) : Nat × State :=
  if s.mc.busy then (stBusy, s) else if mcOpOk s b then (stSuccess, mcOp b s) else (stValue, s)

/-! ### The dump (R375 to R380, R387, R391) -/

/-- Metadata blocks of an image: 552 MiB and the live span of the ring (R356, R376). -/
def metaBlocks (s : State) : Nat := 552 + (ringBytes s + 2 ^ 20 - 1) / 2 ^ 20

/-- Page blocks of an image: 256 slots each (R376). -/
def pageBlocks (s : State) : Nat := ((dirtySlots s).length + 255) / 256

/-- MiB of an image (R376, R377). -/
def imageMiB (s : State) : Nat := metaBlocks s + pageBlocks s

/-- Does every unit of an image map to an armed slot (R387, R390, R392)? -/
def unitsArmed (s : State) (units : Nat) : Bool :=
  let n := s.vault.live.length
  let rows := (units + n - 1) / max 1 n
  s.vault.live.all (fun d => decide (rows ≤ 512 * (armedSets s d).length))

/-- DUMP_LAST_ENERGY: the budget of R379 at the measured durations, in J. -/
def dumpEnergy (micros : Nat) : Nat := (230 * min micros 1200 + 205 * (micros - 1200) + 60 * 10000) / 1000000

/-- The sets that an image's units lie in (R387). -/
def imageSets (s : State) (units : Nat) : List Nat :=
  let n := s.vault.live.length
  let rows := (units + n - 1) / max 1 n
  (s.vault.live.map (fun d => (armedSets s d).take ((rows + 511) / 512))).flatten

/-- The image is written (R376, R380, R391, R392). -/
def writeImage (i : DumpInputs) (s : State) : State :=
  let packless := !s.pw.p12v && s.tally.pack.state != 1
  let mib := if packless then 1 else imageMiB s
  let units := mib * 16
  let block0 := i.supplyHeld || decide (1200 ≤ i.micros)
  let whole := i.supplyHeld && !s.dump.sourceLost && !s.dump.marked && !packless && decide (i.failedUnits ≤ 1024) &&
    unitsArmed s (units + min 1024 i.failedUnits)
  let image : Image :=
    { epoch := s.dur.epoch, time := s.dump.tripTime, cause := s.pw.cause.getD .trip12V
      metaBlocks := metaBlocks s, pageBlocks := pageBlocks s, block0 := block0, complete := whole
      exposure := s.dur.exposure, slots := if whole then dirtySlots s else [], ring := if whole then s.jr.ring else []
      repair := s.tabs.repair, poison := s.tabs.poison, scrub := s.tabs.scrub, last := s.jr.last, units := units
      relocated := i.failedUnits }
  let s := (imageSets s units).foldl (fun s n => modSet n (fun v => { v with state := .dumpUsed }) s) s
  let s := gcmUse .dmpk mib (2 ^ 20) s
  let s := modHealth (fun h => { h with bytesWritten := h.bytesWritten + units * diePage
                                        programFails := h.programFails + i.failedUnits }) s
  modDump (fun d => { d with image := some image, result := if whole then 1 else 3, bytes := mib * 2 ^ 20 }) s

/-- The dump runs (R375, R378): pending map records, the image when dirty data is held and none is held already, the
ledger flush. -/
def runDump (i : DumpInputs) (s : State) : State :=
  let s := journalFlush s
  let s := modDump (fun d => { d with result := 2, bytes := 0 }) s
  let s := if (dirtySlots s).isEmpty || s.dump.image.isSome then s
    else if s.vault.failed then modDump (fun d => { d with result := 3 }) s
    else writeImage i s
  let e := dumpEnergy i.micros
  let s := modDump (fun d => { d with
    dumped := true, count := satAdd 0xFFFFFFFF d.count 1, time := min 0xFFFFFFFF i.micros, energy := min 0xFFFF e }) s
  let s := modGauge (fun g => { g with dumpDebit := g.dumpDebit + e }) s
  ledgerFlush (event 0x7602 (if s.dump.result = 3 then 2 else 0) 0
    (leBytes 1 s.dump.result ++ leBytes 8 s.dump.bytes ++ leBytes 4 s.dump.time) s)

/-- DUMP (R375, R378). -/
def execDump (i : DumpInputs) (s : State) : Host.Outcome State Fault Refusal :=
  finish (if s.pw.state == .dump && s.pw.cause.isSome && !s.dump.dumped then runDump i s else s)

/-- DUMP_SOURCE_LOSS (R380): the source goes before step 7. -/
def execDumpSourceLoss (s : State) : Host.Outcome State Fault Refusal :=
  finish (if s.pw.state == .dump && !s.dump.dumped then modDump (fun d => { d with sourceLost := true }) s else s)

end Sys2Proof.Machine
end

