-- ==== Sys2Proof/Machine/Resets.lean ====
section
/-! DEFINITION. What the resets of R62 leave, the end of a dump, and the power-on reset (02). -/

namespace Sys2Proof.Machine

/-! ### What a reset leaves (R62) -/

/-- A host port after its reset: PERST_N is a pin of the host (R25, R85). -/
def Port.afterReset (q : Port) : Port := { Port.reset with link := { Port.reset.link with perst := q.link.perst } }

/-- A host port that STANDBY holds in reset (R59): link, configuration, requests and mailbox are gone; the sticky
registers, and the counters kept since the module reset, stay (R85, R108, R110). The tags it had outstanding are out of
its reach and block no release. -/
def Port.inReset (q : Port) : Port :=
  { q.afterReset with
    state := q.state, cause := q.cause, cto := q.cto, unexp := q.unexp, quarantines := q.quarantines
    ctoTimes := q.ctoTimes, withheld := q.withheld, quarTags := q.quarTags.filter (fun t => decide (t ∈ q.withheld))
    noticesDropped := q.noticesDropped, ringFaults := q.ringFaults, ringResets := q.ringResets, decoded := q.decoded
    failed := q.failed }

/-- The recovery tables as the stored configuration gives them (R346, R483). -/
def storedTables (s : State) : List RecTable :=
  (List.range 8).map (fun c => match Tab.at? (objKey 0 0x4810 (c + 1)) s.dict.objs with
    | some (.bytes b) => recTableOf b
    | _ => defaultTable c)

/-- The state of a drive lane group whose GROUP_CFG is stored (R353). -/
def groupStates (s : State) : List Nat :=
  (List.range 24).map (fun g => if bitsOf (cfgGroupCfg s g) 1 0 = 0 then 0 else 1)

/-- What lies on the drives after a reset (R245): the segments up to the first of which no copy was on media, and no label or
image that was not. A record that is lost with them goes into a later segment (log entry 175). -/
def recordLeft (r : ArrayRecord) : ArrayRecord :=
  { r with segments := (r.segments.takeWhile (fun g => !g.media.isEmpty)).map (fun g => { g with copies := g.media }) }

/-- The data path and what HBM held are gone (R62): ports, rings, commands, tables, caches and engines. What lies in the
vault, on the drives and in NOR stays. -/
def resetPath (s : State) : State :=
  { s with
    ports := ⟨s.ports.h0.afterReset, s.ports.h1.afterReset, s.ports.h2.afterReset, s.ports.h3.afterReset⟩
    rings := []
    ce := CmdEngine.reset
    tabs := Tables.empty
    etu := Etu.reset
    jr := { Journal.reset with vault := s.jr.vault, page := s.jr.page }
    dur := { (dropScan s).dur with
      path := .empty, waitOver := false, requested := false, exposure := [], importState := .idle, importDrives := 0
      importMissing := 0, taking := none, record := recordLeft s.dur.record
      segSeq := ((recordLeft s.dur.record).segments.getLast?.map (fun g => g.seq)).getD s.dur.segSeq }
    qm := Quarry.reset
    cooper := { Cooper.reset with failed := s.cooper.failed, katLastPass := s.cooper.katLastPass }
    drv := { Drives.reset with
      tables := storedTables s, groupState := groupStates s, failedGuids := s.drv.failedGuids, nextOp := s.drv.nextOp }
    cache := { Cache.reset with stacksOk := s.cache.stacksOk, retiring := s.cache.retiring }
    mc := MapCache.reset
    dump := { s.dump with unplaced := [], sourceLost := false, dumped := false, marked := false }
    side := { s.side with dumpAct := false, pwrGood := false }
    pw := { s.pw with rails := false, startStep := 0, capped := false, cause := none } }

/-- The gauge stops with core 0; a learn cycle that ran is found in the slot at the next start (R445). -/
def stopEstimator (t : Tallyman) : Tallyman :=
  { t with
    gauge := { t.gauge with running := false }
    learn := { Tallyman.reset.learn with lost := t.learn.lost, due := t.learn.due }
    charger := { t.charger with
      state := if t.charger.state = .learn ∨ t.charger.state = .rest then .qualify else t.charger.state
      restOpen := false } }

/-- Did a test take the store out of service (R539)? A module reset returns it. -/
def vaultOut (s : State) : Bool := s.test.out.any (fun e => decide (0x1D ≤ e.1) && decide (e.1 ≤ 0x24))

/-- The paths that a test had taken out of service return (R539). -/
def returnPaths (s : State) : Paths :=
  let isOut (i : Nat) : Bool := s.test.out.any (fun e => e.1 == i)
  { s.paths with
    a := if isOut 0x25 then leavePath s.paths.a else s.paths.a
    b := if isOut 0x26 then leavePath s.paths.b else s.paths.b }

/-- Core 0 is reset: sessions end, what is not stored returns to its default, measurements are zero (R62, R474, R483).
`cause` is LAST_RESET_CAUSE (R64). -/
def resetCore (cause : Nat) (s : State) : State :=
  { s with
    sess := { Sessions.reset with creds := s.sess.creds }
    lock := { s.lock with
      metaPending := none, gcmRolls := 0, drbg := 0, katResult := 0, fwState := .idle, fwData := [], fwOwner := none
      mrs := List.replicate 8 (zeros 64), quotes := [], bootCount := s.lock.bootCount + 1, recovery := false }
    dict := { s.dict with objs := s.dict.nv, selects := [], last := none }
    led := ledgerReset s.led
    test := TestUnit.reset
    paths := returnPaths s
    vault := { s.vault with failed := s.vault.failed && !vaultOut s }
    tally := stopEstimator s.tally
    pw := { s.pw with
      resetCause := cause, resetRecorded := false, mgmtRestarting := false, lastWatchdog := none, faults := []
      portsFailed := [], groupsFailed := [], known := false, lastDegraded := 0, restart := false } }

/-- A module reset (R62). -/
def resetModule (cause : Nat) (s : State) : State := resetPath (resetCore cause s)

/-! ### The end of a dump (R37, R46, R58, R64) -/

/-- After a dump that MODULE_CONTROL = STANDBY caused, which is no module reset (R62), core 0 goes on: the ledger ring waits
for the next mount, and the ports keep their sticky registers (R85, R108; log entry 184). -/
def standbyPath (s : State) : State :=
  { resetPath { s with led := { s.led with mounted := false } } with
    ports := ⟨s.ports.h0.inReset, s.ports.h1.inReset, s.ports.h2.inReset, s.ports.h3.inReset⟩ }

/-- OFF begins: the gauge notes when (R434), and what the pack does not keep alive is off (R57). With neither 12 V nor a
pack nothing drives the sideband (R35). -/
def enterOff (s : State) : State :=
  let s := chargerOff (setPower .off s)
  let s := modPw (fun p => { p with rail := s.tally.pack.state != 0, rails := false }) s
  let s := modSide (fun x => { x with alert := x.alert && s.pw.rail }) s
  let s : State := { s with paths := { s.paths with a := leavePath s.paths.a, b := leavePath s.paths.b } }
  modGauge (fun g => { g with running := false, offSince := some s.clk.uptime }) s

/-- The module goes to STANDBY, or to OFF without 12 V. Core 0 starts again after a module reset. -/
def afterDump (booted : Bool) (s : State) : State :=
  if s.pw.p12v then setPower .standby (if booted then s else startCore s) else enterOff s

/-- The dump sequence has ended (R58). A MOD_RESET_N assertion that came during it acts now (R36). -/
def endDump (c : DumpCause) (s : State) : State :=
  let latched := s.side.resetLatched
  let s := modSide (fun x => { x with resetLatched := false }) s
  let keep := decide (c = .controlStandby) && !latched && s.pw.p12v
  let s := if keep then standbyPath s else resetModule (if latched then 1 else c.reset) s
  let s := modPw (fun p => { p with
    lockout := p.lockout || c == .thermalTrip
    hold := p.hold || c.holds }) s
  let s := if latched then modPw (fun p => { p with lockout := p.lockout && !belowCritical s, hold := false }) s else s
  if s.pw.p12v && s.side.modReset && cfgAutoStart s == 1 && startFree s && (c != .controlStandby || latched) then
    modPw (fun p => { p with restart := true }) s
  else afterDump keep s

/-- DUMP_END. -/
def execDumpEnd (s : State) : Host.Outcome State Fault Refusal :=
  match s.pw.cause with
  | some c => if s.pw.state == .dump && s.dump.dumped then finish (endDump c s) else finish s
  | none => finish s

/-- AUTO_RESTART (R58): 100 ms after the dump's end. What changed in between is looked at again. -/
def execAutoRestart (s : State) : Host.Outcome State Fault Refusal :=
  if s.pw.restart then
    let s := modSide (fun x => { x with resetLatched := false }) s
    if s.pw.p12v && s.side.modReset && cfgAutoStart s == 1 && startFree s then finish (beginStart s)
    else finish (afterDump false (modPw (fun p => { p with restart := false }) s))
  else finish s

/-! ### Power-on reset (R53, R62, R507) -/

/-- Both management paths after the standby rail has come up (R504 to R507). -/
def pathsAtPower (hold sel : Bool) : Paths := { Paths.reset with right := hold && sel }

/-- STANDBY_RAIL_POWER_UP: the rail rises from absent. The gauge's slots, NOR, the vault and the drives keep what they
hold. STATUS begins at its defaults, SMB_ALERT_N released (R39, R41; log entry 183); which HBM stacks work is not known again until a START
trains them (R66). -/
def execStandbyRailPowerUp (addr : BitVec 2) (hold sel : Bool) (s : State) : Host.Outcome State Fault Refusal :=
  if s.pw.rail then finish s
  else
    let s := resetModule 0 s
    finish { s with
      clk := Clock.reset
      side := { Sideband.reset with
        smbAddr := addr, pathHold := hold, pathSel := sel, modReset := s.side.modReset, locateN := s.side.locateN }
      paths := pathsAtPower hold sel
      tally := { Tallyman.reset with slot0 := s.tally.slot0, slot1 := s.tally.slot1 }
      dump := { DumpState.reset with image := s.dump.image }
      cache := { s.cache with stacksOk := 0xF#4 }
      pw := { s.pw with
        state := .off, rail := true, p12v := false, lockout := false, hold := false, pllLocked := true
        holdover := false, oscFault := false } }

end Sys2Proof.Machine
end

