-- ==== Sys2Proof/Machine/TestRun.lean ====
section
/-! DEFINITION. MAINTENANCE, the tests and the patrol read (17). -/

namespace Sys2Proof.Machine

/-! ### Interfaces (R540) -/

/-- The kinds of interface that INTERFACE codes. -/
inductive Iface where
  | port (p : PortId) | group (g : Nat) | channel (c : Nat) | path (b : Bool) | charger
  deriving DecidableEq, Repr

/-- The interface of a code. -/
def ifaceOf (n : Nat) : Option Iface :=
  if 1 ≤ n ∧ n ≤ 4 then some (.port (Fin.ofNat 4 (n - 1)))
  else if 5 ≤ n ∧ n ≤ 0x1C then some (.group (n - 5))
  else if 0x1D ≤ n ∧ n ≤ 0x24 then some (.channel (n - 0x1D))
  else if n = 0x25 then some (.path false)
  else if n = 0x26 then some (.path true)
  else if n = 0x27 then some .charger
  else none

/-! ### MAINTENANCE (R537 to R539) -/

/-- A drive of a group is in a state that R322 does not list. -/
def groupBusy (s : State) (g : Nat) : Bool :=
  s.drv.drives.any (fun e => (e.2.path.getD 0 0).toNat == g &&
    (e.2.state == .adopting || e.2.state == .online || e.2.state == .unreachable || e.2.state == .evacuating))

/-- Is entry refused with BUSY (R537)? -/
def maintRefused (s : State) (i : Iface) : Bool :=
  s.pw.state == .dump || s.pw.state == .standby || (match i with
    | .port p => s.paths.a.isDown && s.paths.b.isDown &&
        (allPorts.filter (fun q => q != p)).all (fun q => !(s.ports.get q).link.up)
    | .group g => groupBusy s g
    | .channel c => s.cache.mode != 2 || !(dirtySlots s).isEmpty || dumpAreaState s == 1 || dumpAreaState s == 2 ||
        vaultState s == 3 || s.test.maint.any (fun n => decide (0x1D ≤ n) && decide (n ≤ 0x24) && n != 0x1D + c)
    | .path b => s.paths.right == b
    | .charger => true)

/-- An interface enters MAINTENANCE (R538). -/
def enterMaint (n : Nat) (i : Iface) (s : State) : State :=
  let s := modTest (fun t => { t with maint := t.maint ++ [n], bad := t.bad.filter (fun e => e.1 != n) }) s
  match i with
  | .port p => modPort p (fun q => { q with maint := true }) (hold p false s)
  | .path b => modPaths (fun p => p.setPath b { p.path b with state := .failed }) s
  | .group _ => s
  | .channel _ => s
  | .charger => s

/-- An interface returns to service (R539). -/
def returnIface (i : Iface) (s : State) : State :=
  match i with
  | .port p =>
    modPw (fun x => { x with portsFailed := x.portsFailed.filter (fun n => n != p.val) })
      (modPort p (fun q => { q with maint := false }) (dropLink p s))
  | .group g => retrainGroup g (cfgGroupCfg s g) s
  | .channel _ => s
  | .path b => modPaths (fun p => p.setPath b (leavePath (p.path b))) s
  | .charger => s

/-- An interface whose last test failed does not return to service (R539). -/
def keepOut (i : Iface) (s : State) : State :=
  match i with
  | .port p =>
    modPw (fun x => { x with portsFailed := dedup (x.portsFailed ++ [p.val]) })
      (modPort p (fun q => { q with maint := false }) (dropLink p s))
  | .group g => failGroup g s
  | .channel _ => modVault (fun v => { v with failed := true }) s
  | .path b => modPaths (fun p => p.setPath b { p.path b with state := .failed }) s
  | .charger => s

/-- An interface leaves MAINTENANCE (R539); a test on it is stopped with a cause. -/
def leaveMaint (n cause : Nat) (i : Iface) (s : State) : State :=
  let s := abortTestOn n cause s
  let failed := s.test.bad.filter (fun e => e.1 == n)
  let s := modTest (fun t => { t with
    maint := t.maint.filter (fun x => x != n), bad := t.bad.filter (fun e => e.1 != n)
    out := t.out.filter (fun e => e.1 != n) ++ failed }) s
  if failed.isEmpty then returnIface i s else keepOut i s

/-- TEST_MAINT_SET (R537, R539, R548). Entering a second time and leaving from outside change nothing. -/
def maintSet (n v : Nat) (s : State) : Nat × State :=
  match ifaceOf n with
  | none => (stValue, s)
  | some i =>
    if n = 0x27 ∨ 1 < v then (stValue, s)
    else if v = 1 then
      if maintRefused s i then (stBusy, s)
      else (stSuccess, if inMaint s n then s else enterMaint n i s)
    else (stSuccess, if inMaint s n then leaveMaint n 1 i s else s)

/-- VAULT_MAINT_EXPIRY (R538): 10 s after its entry. -/
def execVaultMaintExpiry (s : State) : Host.Outcome State Fault Refusal :=
  match s.test.maint.find? (fun n => decide (0x1D ≤ n) && decide (n ≤ 0x24)) with
  | some n => finish (leaveMaint n 6 (.channel (n - 0x1D)) s)
  | none => finish s

/-! ### Requests (R540, R541) -/

/-- MODE of a drive group (R321). -/
def groupMode (s : State) (g : Nat) : Nat := bitsOf (cfgGroupCfg s g) 1 0

/-- Is a depth offered for an interface as it is configured (R536)? -/
def depthOffered (s : State) (i : Iface) (d : Nat) : Bool :=
  match i with
  | .port _ => decide (1 ≤ d) && decide (d ≤ 3)
  | .group g => d == 5 || (groupMode s g == 1 && decide (1 ≤ d) && decide (d ≤ 3)) ||
      (groupMode s g == 2 && decide (2 ≤ d) && decide (d ≤ 4))
  | .channel _ => d == 6
  | .path _ => d == 7 || d == 2 || d == 3
  | .charger => d == 10

/-- Is a depth disruptive (R536)? -/
def disruptive (d : Nat) : Bool := d != 5 && d != 10

/-- Lanes of an interface that a test may name (R541). -/
def laneCount (s : State) (i : Iface) : Nat :=
  match i with
  | .port p => if (s.ports.get p).link.up then (s.ports.get p).link.width else cfgMaxWidth s p.val
  | .group _ => 4
  | _ => 0

/-- Does a directly attached SATA drive hang on a lane (R541)? -/
def sataOn (s : State) (g lane : Nat) : Bool :=
  s.drv.drives.any (fun e => e.2.proto == .sata && (e.2.path.getD 0 0).toNat == g &&
    (e.2.path.getD 1 0).toNat == lane && (e.2.path.getD 2 0).toNat == 0)

/-- Are the lanes named there (R541)? -/
def lanesOk (s : State) (i : Iface) (d lanes : Nat) : Bool :=
  match i with
  | .port _ => decide (lanes < 2 ^ laneCount s i)
  | .group g => d == 5 || (decide (lanes < 16) && (d != 4 || (setBits lanes 4).all (sataOn s g)))
  | _ => true

/-- Does a test run at a PCIe rate (R540)? -/
def pcieTest (s : State) (i : Iface) (d : Nat) : Bool :=
  match i with
  | .port _ => true
  | .group g => groupMode s g == 1 && d != 5
  | _ => false

/-- Are the fields of a request in range (R540, R541)? -/
def requestOk (s : State) (i : Iface) (b : Bytes) : Bool :=
  let d := field b 1 1
  let dur := field b 4 4
  let rate := field b 12 1
  depthOffered s i d && lanesOk s i d (field b 2 2) &&
    (d == 5 || d == 10 || dur == 0 || (decide (10 ≤ dur) && decide (dur ≤ 600000))) && decide (field b 8 4 ≤ 1000000) &&
    (!pcieTest s i d || rate == 0 || (decide (3 ≤ rate) && decide (rate ≤ 6)))

/-- May the charger be tested (R546)? -/
def chargerFree (s : State) : Bool :=
  s.pw.p12v && s.pw.state != .learn && s.pw.state != .dump &&
    (match s.tally.charger.state with
      | .noPack | .done | .rest | .disabled | .tempHold => true
      | _ => false)

/-- Is a request refused with BUSY (R541)? `own` is the port whose mailbox carries it. -/
def requestBusy (s : State) (own : Option PortId) (n : Nat) (i : Iface) (d : Nat) : Bool :=
  s.test.running.isSome || (disruptive d && !inMaint s n) ||
    (match i with
      | .port p => own == some p
      | .charger => !chargerFree s
      | _ => false) || s.pw.state == .dump || s.pw.state == .standby

/-- The lanes that a request tests: 0 names every lane (R540, R542). -/
def lanesTested (s : State) (i : Iface) (lanes : Nat) : Nat :=
  match i with
  | .port _ => if lanes = 0 then 2 ^ laneCount s i - 1 else lanes
  | .group _ => if lanes = 0 then 15 else lanes
  | _ => 0

/-- The rate that a request tests at (R540, R542). -/
def rateTested (s : State) (i : Iface) (d rate : Nat) : Nat :=
  if !pcieTest s i d then 0
  else if rate ≠ 0 then rate
  else match i with
    | .port p => cfgMaxRate s p.val
    | .group g => bitsOf (cfgGroupCfg s g) 4 2
    | _ => 0

/-- TEST_REQUEST (R540 to R542). A test is counted when it is accepted. -/
def testRequest (own : Option PortId) (b : Bytes) (s : State) : Nat × State :=
  let n := field b 0 1
  let d := field b 1 1
  match ifaceOf n with
  | none => (stValue, s)
  | some i =>
    if !requestOk s i b then (stValue, s)
    else if requestBusy s own n i d then (stBusy, s)
    else
      let r : TestReq :=
        { interface := n, depth := d, lanes := lanesTested s i (field b 2 2)
          duration := if field b 4 4 = 0 then 10000 else field b 4 4, limit := field b 8 4
          rate := rateTested s i d (field b 12 1), start := s.clk.now }
      (stSuccess, modTest (fun t => { t with running := some r, state := .running, result := zeros 64, runs := t.runs + 1 }) s)

/-- TEST_STOP (R544). -/
def testStop (v : Nat) (s : State) : Nat × State := (stSuccess, if v = 1 then abortTest 1 s else s)

/-! ### The end of a test (R542, R543, R546) -/

/-- Does an attempt pass (R543)? -/
def attemptOk (r : TestReq) (v : TestVerdict) : Bool :=
  decide (v.errors ≤ r.limit) && ((r.depth != 1 && r.depth != 4) || v.partnerOk)

/-- A test has ended with an outcome (R542, R543). A pass returns what that test had kept out of service (R539). -/
def endTest (r : TestReq) (ok : Bool) (attempts : Nat) (v : TestVerdict) (s : State) : State :=
  let n := r.interface
  let key := selftestKey n r.depth
  let back := s.test.out.any (fun e => e.1 == n && e.2 == r.depth)
  let s := modTest (fun t => { t with
    running := none, state := .done
    result := testResult r (if ok then 1 else 2) attempts s.clk.now v.compared v.errors v.worstLane 0 v.laneErrors
    fails := t.fails + b2n (!ok)
    bad := t.bad.filter (fun e => e.1 != n) ++ (if ok then [] else [(n, r.depth)])
    out := if ok then t.out.filter (fun e => !(e.1 == n && e.2 == r.depth)) else t.out }) s
  let s := if ok then modPw (fun p => { p with faults := p.faults.filter (fun f => f != .selftest key) }) s
    else addFault (.selftest key) s
  let s := selftestEvent 0 n r.depth (if ok then 1 else 2) s
  match ifaceOf n with
  | some i => if ok && back && !inMaint s n then returnIface i s else s
  | none => s

/-- TEST_END (R543): a failure is repeated once. -/
def execTestEnd (first second : TestVerdict) (s : State) : Host.Outcome State Fault Refusal :=
  match s.test.running with
  | none => finish s
  | some r =>
    if r.interface = 0x27 then finish s
    else if attemptOk r first then finish (endTest r true 1 first s)
    else finish (endTest r (attemptOk r second) 2 second s)

/-- What the charger's test reports: three points (R546). Which failed is not stated beyond their number: free values
(log entry 1). -/
def chargerVerdict (ok : Bool) (s : State) : TestVerdict × State :=
  let (n, s) := drawNat s
  (⟨3, if ok then 0 else 1 + n % 3, 0xFF, [], true⟩, s)

/-- CHARGER_SELFTEST (R546): the test that was requested ends; the charger returns through QUALIFY, or enters FAULT. -/
def execChargerSelftest (firstOk secondOk : Bool) (s : State) : Host.Outcome State Fault Refusal :=
  match s.test.running with
  | none => finish s
  | some r =>
    if r.interface ≠ 0x27 then finish s
    else
      let ok := firstOk || secondOk
      let v := chargerVerdict ok s
      let s := endTest r ok (if firstOk then 1 else 2) v.1 v.2
      if !ok then finish (chargerFaultWith 7 s)
      else if s.tally.pack.state = 1 then
        finish (modCharger (fun c => { c with state := .qualify, qualifyLong := false }) s)
      else finish s

/-- PATROL_READ (R545): a patrol read of every healthy stack has ended at a time. -/
def execPatrolRead (stop : Nat) (s : State) : Host.Outcome State Fault Refusal :=
  finish (if serving s && cfgPatrolInterval s != 0 then modTest (fun t => { t with patrolLast := stop }) s else s)

end Sys2Proof.Machine
end

