-- ==== Sys2Proof/Machine/DictRead.lean ====
section
/-! DEFINITION. The values that the dictionary's objects read as (the object tables of the chapters). An object is named
by its index × 256 + subindex. -/

namespace Sys2Proof.Machine

/-! ### Numbers, chapter by chapter -/

/-- Power, reset and clock objects (R71). -/
def readPower (s : State) : Nat → Option Nat
  | 0x110001 => some s.pw.state.code
  | 0x110002 => some (rateIndex s)
  | 0x110003 => some (if s.pw.state = .start then s.pw.startStep else 0)
  | 0x110004 => some s.pw.resetCause
  | 0x110006 => some s.pw.bootImage
  | 0x110201 => some (degradedSet s)
  | 0x110202 => some s.cache.stacksOk.toNat
  | 0x110203 => some s.pw.coresOk.toNat
  | 0x110204 => some s.lock.lanesOk.toNat
  | 0x110301 => some (clockStatus s)
  | _ => none

/-- Objects that serve the ports H0 to H3 (R110, R147, R182), by index. -/
def readPort (s : State) (p : PortId) : Nat → Option Nat
  | 0x2001 => some (portStateWord s p)
  | 0x2002 => some (s.ports.get p).cause.toNat
  | 0x2006 => some (s.ports.get p).cto
  | 0x2007 => some (s.ports.get p).unexp
  | 0x2008 => some (s.ports.get p).quarantines
  | 0x2400 => some ((ringsOf s p).filter (fun r => (getRing s p r).state != .none)).length
  | 0x2401 => some (portOutstanding s p)
  | 0x2403 => some (s.ports.get p).notices.length
  | 0x2404 => some (s.ports.get p).noticesDropped
  | 0x2405 => some (s.ports.get p).ringFaults
  | 0x2406 => some (s.ports.get p).ringResets
  | 0x2407 => some (nextTag s p)
  | 0x2411 => some (s.ports.get p).decoded
  | 0x2412 => some (s.ports.get p).failed
  | _ => none

/-- Range-lock, ETU and journal objects (R182, R226). -/
def readEtu (s : State) : Nat → Option Nat
  | 0x242001 => some s.ce.locks.length
  | 0x242002 => some s.ce.lockStalls
  | 0x242003 => some s.ce.lockTableFull
  | 0x300001 => some s.tabs.vols.length
  | 0x301001 => some ((segmentsHeld s).length * 1024)
  | 0x301002 => some (groupsUsed s)
  | 0x301003 => some (s.tabs.logs.filter (fun e => e.2.state != .free)).length
  | 0x301004 => some s.tabs.dirs.length
  | 0x301005 => some s.tabs.mapPages.length
  | 0x301204 => some s.etu.merged
  | 0x301205 => some s.etu.abandoned
  | 0x301206 => some (sumNat (s.etu.merges.map (fun m => m.progress)))
  | 0x301301 => some s.jr.last
  | 0x301303 => some (ringBytes s / 2 ^ 20)
  | _ => none

/-- The codes of RESTART_PATH (R242, R254). -/
def RPath.code : RPath → Nat
  | .empty => 0 | .stale => 1 | .restore => 2 | .replay => 3 | .loss => 4 | .drive => 5

/-- The codes of IMPORT_STATE (R254). -/
def ImportState.code : ImportState → Nat
  | .idle => 0 | .scanning => 1 | .scanned => 2 | .committing => 3 | .done => 4 | .failed => 5

/-- Durability and import objects (R254). -/
def readDur (s : State) : Nat → Option Nat
  | 0x302002 => some s.dur.epoch
  | 0x302003 => some s.dur.path.code
  | 0x302103 => some (newerCkpt s).id
  | 0x302104 => some (newerCkpt s).covers
  | 0x302105 => some (newerCkpt s).time
  | 0x302202 => some s.dur.segsSinceCkpt
  | 0x302203 => some (segmentCapacity s)
  | 0x302204 => some s.dur.lastSealed
  | 0x302502 => some s.dur.importState.code
  | 0x302504 => some s.dur.importDrives
  | 0x302505 => some s.dur.importMissing
  | _ => none

/-- Members that the rebuild queue waits for, with the benches their rebuild or relocation has written. -/
def membersLeft (s : State) : List (Group × Nat × Bool) :=
  s.tabs.groups.flatMap (fun e =>
    let left := missingMembers e.2 ++ (relocateMembers s e.2)
    let queued := (left.filter (fun m => (findRebuild s e.1 m).isNone)).map (fun m =>
      (e.2, 0, !decide (m ∈ missingMembers e.2)))
    let run := (s.cooper.rebuilds.filter (fun r => r.group == e.1)).map (fun r => (e.2, r.progress, r.copy))
    queued ++ run)

/-- REBUILD_SETTS_LEFT: for each bench left, the k setts that a rebuild reads, or the one that a copy reads, and the one
written (R290, R309, R311). -/
def rebuildSettsLeft (s : State) : Nat :=
  sumNat ((membersLeft s).map (fun x => (x.1.fill - x.2.1) * (if x.2.2 then 2 else x.1.k + 1)))

/-- REBUILD_ETA in seconds (R290, log entry 172): the setts left, spread over the drives in service, at the mean cost of a
sett on them, in the share of their time that REBUILD is granted; all ones while it is granted none. -/
def rebuildEta (s : State) : Nat :=
  let ds := inService s
  let left := rebuildSettsLeft s
  if left = 0 then 0
  else if s.qm.shares.getD 0 0 = 0 ∨ ds.isEmpty = true then 0xFFFFFFFF
  else
    let n : Rat := (ds.length : Rat)
    let cost : Rat := (ds.map (fun d => opCost s d settBytes)).foldl (· + ·) 0 / n
    min 0xFFFFFFFF (((left : Rat) * cost / n * 10000 / (s.qm.shares.getD 0 0 : Rat) / 1000000).ceil.toNat)

/-- Quarrymaster objects (R290). -/
def readQuarry (s : State) : Nat → Option Nat
  | 0x380001 => some (rawChunks s)
  | 0x380002 => some (freeChunks s)
  | 0x380003 => some (allocatedChunks s)
  | 0x380004 => some (spoilChunks s)
  | 0x380005 => some (sumNat ((s.tabs.spans.filter (fun e => !driveAdopting s e.1)).map (fun e => e.2.count)) - rawChunks s)
  | 0x380006 => some (arrayFill s)
  | 0x380101 => some (availableBytes s)
  | 0x380102 => some s.qm.reserved
  | 0x380103 => some (reserveBytes s)
  | 0x380106 => some s.qm.refusals
  | 0x380403 => some (dedup ((inService s).map (domainOf s))).length
  | 0x380404 => some (domainConflicts s).length
  | 0x380405 => some s.qm.allocFailures
  | 0x380501 => some (fastCapacity s)
  | 0x380502 => some (fastUsed s)
  | 0x380503 => some s.qm.fastLimit
  | 0x380601 => some (s.qm.residency.filter (fun e => e.2.resident)).length
  | 0x380602 => some (mapDirty s)
  | 0x380603 => some s.qm.mapMisses
  | 0x380605 => some (b2n (!s.vault.failed))
  | 0x380C01 => some (dedup (s.qm.queue.map (fun e => e.group) ++ s.cooper.rebuilds.map (fun r => r.group))).length
  | 0x380C02 => some (rebuildSettsLeft s)
  | 0x380C03 => some (rebuildEta s)
  | 0x380D02 => some s.qm.tallies.length
  | 0x380D03 => some s.qm.tallyDropped
  | _ => none

/-- Cooper and Assayer objects (R320). -/
def readCooper (s : State) : Nat → Option Nat
  | 0x400001 => some (b2n s.cooper.failed)
  | 0x400102 => some s.cooper.katResult
  | 0x400103 => some s.cooper.katLastPass
  | 0x400201 => some s.cooper.verified
  | 0x400202 => some s.cooper.decoded
  | 0x400203 => some s.cooper.transient
  | 0x400204 => some s.cooper.located
  | 0x400205 => some s.cooper.unlocated
  | 0x400206 => some s.cooper.unrecoverable
  | 0x400303 => some (scrubLag s)
  | 0x400304 => some ((oldestScrub s).getD 0 * 2 ^ 30)
  | 0x400305 => some s.cooper.scrubbed
  | 0x400406 => some s.cooper.relocations
  | 0x400501 => some s.tabs.repair.length
  | 0x400502 => some s.tabs.poison.length
  | 0x400602 => some s.cooper.rebuildsDone
  | 0x400603 => some s.cooper.rebuildsAbandoned
  | 0x400604 => some s.cooper.settsRebuilt
  | _ => none

/-- The objects of a drive (R290, R353). -/
def readDrive (s : State) (d : Nat) (v : Drive) : Nat → Option Nat
  | 0x380301 => some v.domain
  | 0x380302 => some (b2n v.dense)
  | 0x380303 => some v.wear
  | 0x380304 => some (((Tab.at? d s.tabs.spans).map (fun x => x.count)).getD 0)
  | 0x380305 => some (freeCount s d)
  | 0x480301 => some v.state.code
  | 0x480302 => some (match v.proto with
    | .nvme => 1
    | .sas => 2
    | .sata => 3)
  | 0x480304 => some v.capacity
  | 0x480306 => some v.nextCls
  | 0x480307 => some v.rcv.state
  | 0x480308 => some (toTwos 16 v.temp)
  | 0x48030B => some v.timeouts
  | 0x48030C => some v.resets
  | 0x48030D => some v.late
  | _ => none

/-- Drive-port objects of the whole module (R353). -/
def readDrives (s : State) : Nat → Option Nat
  | 0x480201 => some (s.drv.drives.filter (fun e => e.2.state != .none)).length
  | 0x482005 => some (sumNat (s.drv.drives.map (fun e => e.2.warnings.length)))
  | 0x482006 => some s.drv.ewRaised
  | _ => none

/-- Cache, map cache and dump objects (R383). -/
def readCache (s : State) : Nat → Option Nat
  | 0x500001 => some (28 * 2 ^ 30)
  | 0x500002 => some (wcacheBytes s)
  | 0x500003 => some (rcacheBytes s)
  | 0x500004 => some (4 * 2 ^ 30)
  | 0x500302 => some s.cache.retiring.toNat
  | 0x501002 => some s.cache.mode
  | 0x501003 => some s.cache.wtCause
  | 0x501005 => some (dirtyLimit s)
  | 0x501006 => some ((dirtySlots s).length * 4096)
  | 0x501007 => some (dirtyFill s)
  | 0x501008 => some s.cache.destaged
  | 0x501009 => some s.cache.stalls
  | 0x501102 => some s.cache.rcHits
  | 0x501103 => some s.cache.rcMisses
  | 0x501104 => some (s.cache.rc.length * 4096)
  | 0x502001 => some s.mc.mode
  | 0x502002 => some s.mc.banksOk.toNat
  | 0x502003 => some s.mc.hits
  | 0x502004 => some s.mc.misses
  | 0x502006 => some (b2n s.mc.busy)
  | 0x503001 => some s.dump.count
  | 0x503002 => some s.dump.result
  | 0x503003 => some s.dump.bytes
  | 0x503004 => some s.dump.time
  | 0x503005 => some s.dump.energy
  | 0x503006 => some s.dump.restoreTime
  | _ => none

/-- Sets of the vault as manufactured (R386, R398). -/
def vaultSets : Nat := 64 * 2731

/-- The wear units of the sets that are not retired (R409); a set that is not listed has none. -/
def liveWear (s : State) : List Nat := (s.vault.sets.filter (fun e => e.2.state != .retired)).map (fun e => e.2.wear)

/-- G: store sets that are not retired (R401, R418). -/
def goodSets (s : State) : Nat :=
  64 * storeSetsPerDie - (s.vault.sets.filter (fun e => isStoreSet e.1 && e.2.state == .retired)).length

/-- Vault objects (R418). -/
def readVault (s : State) : Nat → Option Nat
  | 0x580001 => some (vaultState s)
  | 0x580002 => some (dumpAreaState s)
  | 0x580003 => some (b2n s.vault.replace)
  | 0x580004 => some (packBits ((List.range 64).map (fun n => !decide (n ∈ s.vault.failedDies))))
  | 0x580101 => some (goodSets s)
  | 0x580102 => some (freeStoreSets s)
  | 0x580103 => some (freeStoreSets s - 1024)
  | 0x580104 => some s.vault.health.retiredSets
  | 0x580105 => some ((s.vault.live.map (fun n => (armedSets s n).length)).foldl min 40)
  | 0x580106 => some (vaultFill s)
  | 0x580201 => some (slcLimit s)
  | 0x580202 => some (slcHeld s / 2 ^ 30)
  | 0x580301 => some s.vault.logBlocks.length
  | 0x580302 => some (s.vault.stripes.filter (fun x => !x.closed)).length
  | 0x580303 => some (s.vault.stripes.filter (fun x => x.closed)).length
  | 0x580401 => some s.vault.flushSeq
  | 0x580402 => some s.vault.mountTime
  | 0x580403 => some s.vault.mountPages
  | 0x580501 => some (min 255 ((liveWear s).foldl max 0 * 100 / ratedWear))
  | 0x580502 => some (min 255 (sumNat (liveWear s) * 100 / (ratedWear * max 1 (vaultSets - s.vault.health.retiredSets))))
  | 0x580503 => some s.vault.health.bytesWritten
  | 0x580504 => some s.vault.health.bytesRead
  | 0x580604 => some s.vault.health.retryReads
  | 0x580605 => some s.vault.health.uncorrectable
  | 0x580606 => some s.vault.health.programFails
  | 0x580607 => some s.vault.health.eraseFails
  | 0x580608 => some s.vault.health.rewrites
  | 0x580701 => some (toTwos 16 (reading s .vault))
  | 0x580702 => some (toTwos 16 s.vault.health.tempMax)
  | _ => none

/-- CHARGER_STATE (R424). -/
def ChState.code : ChState → Nat
  | .noPack => 0 | .qualify => 1 | .precharge => 2 | .cc => 3 | .cv => 4 | .done => 5 | .rest => 6 | .tempHold => 7
  | .learn => 8 | .fault => 9 | .noInput => 10 | .disabled => 11

/-- LEARN_STATE (R446). -/
def LearnState.code : LearnState → Nat
  | .idle => 0 | .preparing => 1 | .discharging => 2 | .resting => 3 | .done => 4 | .abandoned => 5 | .invalid => 6

/-- GAUGE_FLAGS (R447). -/
def gaugeFlags (s : State) : Nat :=
  let t := s.tally
  packBits [t.gauge.stale, learnDue s, t.learn.lost, t.gauge.insertEst, t.charger.state == .cv, tempOut s,
    t.gauge.tableChanged, t.gauge.reserveOk]

/-- A quantity in whole units, held in 0 to `m`. -/
def whole (m : Nat) (x : Rat) : Nat := min m x.floor.toNat

/-- Energy store objects (R446). -/
def readTally (s : State) : Nat → Option Nat
  | 0x600001 => some s.tally.pack.state
  | 0x600002 => some s.tally.pack.mv
  | 0x600003 => some (toTwos 16 s.tally.pack.temp)
  | 0x600004 => some s.tally.pack.inserted
  | 0x600201 => some s.tally.charger.state.code
  | 0x600202 => some s.tally.charger.fault
  | 0x600301 => some (min 10000 (centi s.tally.gauge.r))
  | 0x600302 => some (min 10000 (centi s.tally.gauge.e))
  | 0x600303 => some (min 10000 (centi (socLow s.tally.gauge)))
  | 0x600304 => some (min 10000 (centi s.tally.gauge.u))
  | 0x600305 => some (whole 0xFFFFFFFF s.tally.gauge.energyLow)
  | 0x600306 => some (gaugeFlags s)
  | 0x600307 => some s.tally.gauge.refTime
  | 0x600401 => some s.tally.gauge.capLearned
  | 0x600402 => some (whole 0xFFFFFFFF (capBound s))
  | 0x600403 => some s.tally.gauge.learnTime
  | 0x600404 => some s.tally.gauge.learnCount
  | 0x600406 => some s.tally.learn.state.code
  | 0x600701 => some (((newestSlot s.tally).map (fun n => n.seq)).getD 0)
  | 0x600702 => some (((newestSlot s.tally).map (fun n => n.written)).getD 0)
  | 0x600703 => some (packBits [s.tally.slot0.valid, s.tally.slot1.valid])
  | _ => none

/-- FW_UPDATE_STATE (R478). -/
def FwState.code : FwState → Nat
  | .idle => 0 | .receiving => 1 | .verified => 2 | .failed => 3

/-- LOCKSMITH_STATE (R468, R470, R478). -/
def lockState (s : State) : Nat :=
  if cipherLost s then 2 else if s.lock.lanesOk != BitVec.allOnes 48 then 1 else 0

/-- Locksmith objects (R478). -/
def readLock (s : State) : Nat → Option Nat
  | 0x680001 => some (lockState s)
  | 0x680002 => some s.lock.drbg
  | 0x680105 => some (heldKeys s).length
  | 0x680401 => some s.lock.gcmRolls
  | 0x680402 => some s.lock.mkGen.g
  | 0x680403 => some s.lock.vskGen.g
  | 0x680404 => some s.lock.dmpkGen.g
  | 0x680502 => some s.lock.katResult
  | 0x680504 => some s.lock.katLastPass
  | 0x680601 => some (imageSvn (imageSlot s s.pw.bootImage))
  | 0x680602 => some s.lock.fuses
  | 0x680608 => some s.lock.fwState.code
  | _ => none

/-- The header of the running image (R471). -/
def runningHeader (s : State) : Bytes := (imageSlot s s.pw.bootImage).header

/-- The codes of PATH_STATE (R505). -/
def PathState.code : PathState → Nat
  | .down => 0 | .syncing => 1 | .standby => 2 | .active => 3 | .failed => 4

/-- Identity, time, session and path objects (R512). -/
def readIdentity (s : State) : Nat → Option Nat
  | 0x100003 => some (field (runningHeader s) 8 1)
  | 0x100004 => some (field (runningHeader s) 9 1)
  | 0x100005 => some (field (runningHeader s) 12 4)
  | 0x100006 => some Config.stepping
  | 0x101001 => some s.clk.now
  | 0x101003 => some s.paths.source
  | 0x101008 => some (toTwos 64 s.paths.offset)
  | 0x101009 => some (toTwos 32 s.paths.freq)
  | 0x102001 => some s.sess.sessions.length
  | 0x102006 => some s.sess.authFailures
  | 0x700001 => some s.paths.a.state.code
  | 0x700002 => some s.paths.b.state.code
  | 0x700101 => some s.paths.a.link
  | 0x700102 => some s.paths.b.link
  | 0x700401 => some (b2n s.paths.right)
  | 0x700402 => some (b2n s.side.pathHold)
  | 0x700404 => some s.paths.failovers
  | 0x702001 => some s.sess.macInvalid
  | 0x702002 => some s.sess.rejected
  | 0x702003 => some s.sess.openDropped
  | _ => none

/-- TEST_STATE (R548). -/
def TState.code : TState → Nat
  | .idle => 0 | .running => 1 | .done => 2 | .aborted => 3

/-- TEST_MAINT_STATE (R549): the bit of an interface has its INTERFACE code. -/
def maintState (s : State) : Nat := packBits ((List.range 39).map (inMaint s))

/-- Ledger and test objects (R535, R548). -/
def readLedger (s : State) : Nat → Option Nat
  | 0x780001 => some (ledgerState s)
  | 0x780002 => some (firstSeq s)
  | 0x780003 => some (lastSeq s)
  | 0x780004 => some s.led.dropped
  | 0x780005 => some (regionBytes s)
  | 0x780103 => some s.led.lastFlush
  | 0x780305 => some s.led.suppressedTotal
  | 0x780402 => some s.led.lastClear
  | 0x7C0002 => some (maintState s)
  | 0x7C0103 => some s.test.state.code
  | 0x7C0203 => some s.test.patrolLast
  | 0x7C0301 => some s.test.runs
  | 0x7C0302 => some s.test.fails
  | _ => none

/-- Objects of one number whose subindices serve a row of like things: stacks, cells, bins, groups, tables, curves. -/
def readSeries (s : State) (index i : Nat) : Option Nat :=
  match index with
  | 0x380B => some (s.qm.curveOut.getD i 0)
  | 0x4801 => some (s.drv.groupState.getD i 0)
  | 0x4811 => some (s.drv.entries.getD i 0)
  | 0x5001 => some (s.cache.corrected.getD i 0)
  | 0x5002 => some (s.cache.uncorrected.getD i 0)
  | 0x5808 => some (s.vault.health.tempHours.getD i 0)
  | 0x6001 => some (s.tally.pack.cells.getD i 0)
  | 0x6005 => some (s.tally.gauge.rScale.getD i 0)
  | _ => none

/-- The first of two answers that is one. -/
def orElse {β : Type} (a b : Option β) : Option β :=
  match a with
  | some x => some x
  | none => b

/-- A number that the machine's state gives, for the objects that no select object governs. -/
def readNum (s : State) (index sub : Nat) : Option Nat :=
  let o := index * 256 + sub
  if index < 0x2000 then orElse (readPower s o) (readIdentity s o)
  else if index < 0x2420 then (if 1 ≤ sub ∧ sub ≤ 4 then readPort s (Fin.ofNat 4 (sub - 1)) index else none)
  else if index < 0x3800 then orElse (readEtu s o) (readDur s o)
  else if index < 0x4800 then orElse (readSeries s index (sub - 1)) (orElse (readQuarry s o) (readCooper s o))
  else if index < 0x5800 then orElse (readSeries s index (sub - 1)) (orElse (readDrives s o) (readCache s o))
  else if index < 0x6800 then orElse (readSeries s index (sub - 1)) (orElse (readVault s o) (readTally s o))
  else if index < 0x7800 then orElse (readLock s o) (readIdentity s o)
  else readLedger s o

/-! ### Octets -/

/-- The key that a KEY_ID names, with KSTATE (R479). -/
def keyInfo (s : State) (id : Nat) : Option Bytes :=
  ((heldKeys s).find? (fun k => k.id == id)).map (fun k =>
    let pending := s.lock.metaPending == some k
    let vol := (s.tabs.vols.find? (fun e => e.2.encrypted && e.2.keyId == id)).map (fun e => e.1)
    leBytes 1 k.kind ++ leBytes 1 k.flags ++ leBytes 1 (b2n pending) ++ [0] ++ leBytes 4 k.id ++ leBytes 4 k.parent ++
      leBytes 2 (vol.getD 0xFFFF) ++ [0, 0] ++ fit 16 k.arrayId)

/-- CRED_INFO of a slot (R514). -/
def credInfo (s : State) (slot : Nat) : Option Bytes :=
  (s.sess.creds.find? (fun c => c.slot == slot)).map (fun c =>
    leBytes 1 c.slot ++ leBytes 1 c.role ++ leBytes 1 c.kind ++ leBytes 1 (b2n c.setup) ++ leBytes 4 c.iter ++
      fit 32 c.name ++ leBytes 8 c.lastUsed)

/-- CHANNEL of R513. -/
def chanCode : Channel → Nat
  | .rxmp _ => 0
  | .mailbox p | .anonymous p => p.val + 1

/-- SESSION_SELF (R513). -/
def sessionSelf (s : State) (ch : Channel) : Bytes :=
  match chanSession s ch with
  | some x =>
    leBytes 4 x.id ++ leBytes 1 x.role ++ leBytes 1 (chanCode ch) ++ leBytes 1 x.slot ++ [0] ++ leBytes 8 x.opened ++
      leBytes 8 (x.opened + cfgSessionLifetime s * secNs) ++ leBytes 8 x.last
  | none => zeros 4 ++ [0] ++ leBytes 1 (chanCode ch) ++ [0xFF, 0] ++ zeros 24

/-- An indicator: PATTERN (0 off, 1 on, 2 slow, 3 fast blink) and COLOUR (1 green, 2 amber, 3 blue) (R515). -/
def lamp (pattern colour : Nat) : Byte := BitVec.ofNat 8 (pattern + 4 * colour)

/-- Does a restore run (R51, R382)? -/
def restoring (s : State) : Bool := s.pw.state == .start && !s.dump.unplaced.isEmpty

/-- The indicator of a host port (R51). -/
def portLamp (q : Port) : Byte :=
  if q.state = .quarantined then lamp 2 2
  else if q.link.up = false then lamp 0 0
  else if q.link.width < 16 ∨ q.link.rate < 6 then lamp 1 2
  else lamp 1 1

/-- ARRAY (R51). Outside service, where no volume is served, it is off (log entry 35). -/
def arrayLamp (s : State) : Byte :=
  if !serving s then lamp 0 0
  else if s.cooper.rebuilds.any (fun r => !r.copy) then lamp 2 2
  else if s.tabs.vols.any (fun e => decide (redundancyLeft s e.1 e.2.m < e.2.m)) then lamp 1 2
  else lamp 1 1

/-- PWR (R51). -/
def powerLamp (s : State) : Byte :=
  if s.pw.state = .dump then lamp 3 1
  else if s.pw.state = .start ∨ (serving s = true ∧ s.tabs.vols.any (fun e => e.2.state == .recovering) = true) then lamp 2 1
  else if serving s then lamp 1 1
  else lamp 0 0

/-- CACHE (R51). -/
def cacheLamp (s : State) : Byte :=
  if s.pw.state = .dump ∨ restoring s = true then lamp 3 2
  else if s.cache.mode = 2 then lamp 1 2
  else if s.cache.mode = 1 then lamp 1 1
  else lamp 0 0

/-- INDICATORS (R51, R515). -/
def indicators (s : State) : Bytes :=
  [powerLamp s, if faultLit s then lamp 1 2 else lamp 0 0, cacheLamp s, arrayLamp s,
   if s.side.locateN = false ∨ cfgLocate s = 1 then lamp 2 3 else lamp 0 0] ++
    allPorts.map (fun p => portLamp (s.ports.get p)) ++
    [if s.paths.a.link ≠ 0 then lamp 1 1 else lamp 0 0, if s.paths.right then lamp 0 0 else lamp 1 2,
     if s.paths.b.link ≠ 0 then lamp 1 1 else lamp 0 0, if s.paths.right then lamp 1 2 else lamp 0 0, 0, 0, 0]

/-- The bytes of a recovery table (R340). -/
def recTableBytes (cls : Nat) (t : RecTable) : Bytes :=
  fit 2048 (leBytes 1 cls ++ leBytes 1 t.rows.length ++ leBytes 1 t.nstates ++ [0] ++ leBytes 2 t.cmdTimeout ++
    leBytes 2 t.adminTimeout ++ leBytes 2 t.countWindow ++ zeros 6 ++
    (t.rows.map (fun r => leBytes 1 r.state ++ leBytes 1 r.event ++ leBytes 1 r.next ++ leBytes 1 r.limit ++
      leBytes 1 r.past ++ [0] ++ leBytes 2 r.actions ++ leBytes 2 r.timer ++ [0, 0])).flatten)

/-- The header of the OCV and resistance tables (R427, R428). -/
def tableHeader (s : State) (kind points : Nat) : Bytes :=
  leBytes 1 kind ++ leBytes 1 points ++ [0, 0] ++ (tableTemps s).map (fun t => BitVec.ofNat 8 (toTwos 8 t)) ++ zeros 4

/-- OCV_TABLE as it stands (R427, R429). -/
def ocvTableBytes (s : State) : Bytes :=
  tableHeader s 1 21 ++ ((List.range 8).flatMap (fun t => ocvRow s t)).flatMap (fun x => leBytes 2 x.floor.toNat)

/-- RES_TABLE as it stands (R428, R429). -/
def resTableBytes (s : State) : Bytes :=
  tableHeader s 2 11 ++
    ([1, 2, 3].flatMap (fun r => (List.range 8).flatMap (fun t => resRow s r t))).flatMap (fun x => leBytes 2 x.floor.toNat)

/-- The SLC curve in force (R401). -/
def slcCurve (s : State) : Curve := if (cfgSlcCurve s).isEmpty then defaultSlcCurve else Curve.ofBytes (cfgSlcCurve s)

/-- Octets that the machine's state gives, for the objects that no select object governs. -/
def readOct (s : State) (ch : Channel) (index sub : Nat) : Option Bytes :=
  match index * 256 + sub with
  | 0x100001 => some orderCode
  | 0x100002 => some (fit 12 Config.serial)
  | 0x10100A => some (fit 8 s.paths.master)
  | 0x102004 => some (sessionSelf s ch)
  | 0x302001 => some (fit 16 s.dur.arrayId)
  | 0x580203 => some ((slcCurve s).toBytes 0)
  | 0x600601 => some (ocvTableBytes s)
  | 0x600602 => some (resTableBytes s)
  | 0x680604 => some (slice s.lock.imageA.header 0 16)
  | 0x680605 => some (slice s.lock.imageB.header 0 16)
  | 0x680701 => some (Config.identityCert.take 8192)
  | 0x701001 => some (fit 6 Config.macAddr)
  | 0x703002 => some (indicators s)
  | 0x7C0104 => some (fit 64 s.test.result)
  | _ =>
    if index = 0x380A then some ((curveOf s (sub - 1)).toBytes (sub - 1))
    else if index = 0x4810 then some (recTableBytes (sub - 1) (s.drv.tables.getD (sub - 1) (defaultTable (sub - 1))))
    else if index = 0x6808 then some (fit 64 (s.lock.mrs.getD (sub - 1) []))
    else none

/-! ### Objects that a select object governs -/

/-- What a channel keeps in a select object (R226, R290, R320, R478, R512, R535). -/
def selNum (s : State) (ch : Channel) (index sub : Nat) : Nat :=
  match Tab.at? (objKey (chanKey ch) index sub) s.dict.selects with
  | some (.num n) => n
  | _ => 0

/-- The octets that a channel keeps in a select object. -/
def selBytes (s : State) (ch : Channel) (index sub : Nat) (d : Bytes) : Bytes :=
  match Tab.at? (objKey (chanKey ch) index sub) s.dict.selects with
  | some (.bytes b) => b
  | _ => d

/-- A read either has a value, or a status. -/
abbrev Answer := Nat × OVal

/-- A value read. -/
def got (n : Nat) : Answer := (stSuccess, .num n)

/-- Octets read. -/
def gotBytes (b : Bytes) : Answer := (stSuccess, .bytes b)

/-- A read that fails. -/
def refusedWith (st : Nat) : Answer := (st, .num 0)

/-- A value, or NOT_FOUND. -/
def gotOr (st : Nat) (b : Option Bytes) : Answer :=
  match b with
  | some b => gotBytes b
  | none => refusedWith st

/-- Objects 0x3003: the volume that VOL_SELECT names (R226). -/
def readVolume (s : State) (ch : Channel) (sub : Nat) : Answer :=
  let v := selNum s ch 0x3001 1
  match getVol s v with
  | none => refusedWith stNotFound
  | some vol =>
    let exts := (List.range vol.extents).map (fun x => getExt s v x)
    match sub with
    | 1 => got vol.k
    | 2 => got vol.m
    | 3 => got vol.bs
    | 4 => got vol.capacity
    | 5 => got vol.vcflags
    | 6 => got vol.cls
    | 7 => got (exts.filter (fun e => e.state != .none)).length
    | 8 => got (sumNat ((s.tabs.logs.filter (fun e => e.2.volume == v && e.2.state != .free)).map (fun e => e.2.live)))
    | _ => got ((openFaces s).filter (fun f => f.1 == v)).length

/-- Objects 0x6803: the encrypted volume that VOL_SELECT names (R478). -/
def readXgen (s : State) (ch : Channel) (sub : Nat) : Answer :=
  match (getVol s (selNum s ch 0x3001 1)).filter (fun vol => vol.encrypted) with
  | none => refusedWith stNotFound
  | some vol =>
    match sub with
    | 1 => got vol.xgCur
    | 2 => got vol.xgOldest
    | 3 => got vol.xgUnits
    | _ => got vol.keyId

/-- Objects 0x3803 and 0x4803: the drive that DRIVE_SELECT names (R290, R353). -/
def readSelDrive (s : State) (ch : Channel) (index sub : Nat) : Answer :=
  let d := selNum s ch 0x3802 1
  match (getDrive s d).filter (fun v => v.state != .none) with
  | none => refusedWith stNotFound
  | some v =>
    match readDrive s d v (index * 256 + sub) with
    | some n => got n
    | none => if sub = 3 then gotBytes (fit 16 v.guid) else gotBytes (fit 8 v.path)

/-- The event codes that the module records (R534). -/
def eventCodes : List Nat :=
  [0x1001, 0x1002, 0x1003, 0x1004, 0x1005, 0x2101, 0x2102, 0x2103, 0x2104, 0x2105, 0x3201, 0x3202, 0x3203, 0x3204, 0x3205,
   0x3206, 0x4301, 0x4302, 0x4303, 0x4304, 0x4305, 0x5401, 0x5402, 0x6501, 0x7601, 0x7602, 0x7603, 0x8701, 0x8702, 0x9801,
   0x9802, 0x9803, 0xA901, 0xA902, 0xA903, 0xA904, 0xA905, 0xBA01, 0xBA02, 0xCB01, 0xCB02, 0xDC01]

/-- Objects 0x7803.02 to .04: the code that LIMIT_SELECT names (R535). -/
def readLimit (s : State) (ch : Channel) (sub : Nat) : Answer :=
  let c := selNum s ch 0x7803 1
  if !decide (c ∈ eventCodes) then refusedWith stNotFound
  else match sub with
    | 2 => got (limitRate s c)
    | 3 => got (limitBurst s c)
    | _ => got ((Tab.at? c s.led.suppressed).getD 0)

/-- LOSS_HEADER, LOSS_SELECT, LOSS_ENTRY and AUTO_ACCEPT_LOSS: NOT_FOUND without a report (R248, R254; log entry 153). -/
def readLoss (s : State) (ch : Channel) (sub : Nat) : Answer :=
  match s.dur.report with
  | none => refusedWith stNotFound
  | some r =>
    if sub = 1 then gotBytes (lossHeader r)
    else if sub = 5 then got (cfgAutoAcceptLoss s)
    else if sub = 2 then got (selNum s ch 0x3024 2)
    else match r.entries[selNum s ch 0x3024 2]? with
      | some e => gotBytes (lossEntry e)
      | none => refusedWith stRangeInvalid

/-- QUOTE_NONCE and QUOTE (R477). -/
def readQuote (s : State) (ch : Channel) (sub : Nat) : Answer :=
  match findQuote s (chanKey ch) with
  | none => if sub = 2 then gotBytes (zeros 64) else refusedWith stNotFound
  | some q => if sub = 2 then gotBytes q.nonce else gotOr stBusy q.quote

/-- The value of an object that is read or refused by what the channel has selected, if the object is one. -/
def readSelected (s : State) (ch : Channel) (index sub : Nat) : Option Answer :=
  match index * 256 + sub with
  | 0x302401 | 0x302402 | 0x302403 | 0x302405 => some (readLoss s ch sub)
  | 0x400407 => some (got (relocating s (selNum s ch 0x3802 1)))
  | 0x400504 => some (match s.tabs.poison[selNum s ch 0x4005 3]? with
    | some p => gotBytes p.bytes
    | none => refusedWith stRangeInvalid)
  | 0x680107 => some (gotOr stNotFound (keyInfo s (selNum s ch 0x6801 6)))
  | 0x680702 | 0x680703 => some (readQuote s ch sub)
  | 0x103002 => some (gotOr stNotFound (credInfo s (selNum s ch 0x1030 1)))
  | 0x780202 => some (gotOr stNotFound (ledgerReadFrom s (selNum s ch 0x7802 1)))
  | 0x780302 | 0x780303 | 0x780304 => some (readLimit s ch sub)
  | _ =>
    if index = 0x3003 then some (readVolume s ch sub)
    else if index = 0x6803 then some (readXgen s ch sub)
    else if index = 0x3803 ∨ index = 0x4803 then some (readSelDrive s ch index sub)
    else none

/-- A value that the model leaves open: CODER_LOAD (log entry 1). -/
def readOpen (s : State) (index sub : Nat) : Option (Nat × State) :=
  match index * 256 + sub with
  | 0x400002 => some ((drawNat s).1 % 10001, (drawNat s).2)
  | _ => none

/-- The value of a defined object that may be read: the state's, or what was written, or the default. A read of
KEY_EXPORT is recorded (R455). -/
def readValue (r : ObjRow) (ch : Channel) (index sub : Nat) (s : State) : Answer × State :=
  if r.select && !(index == 0x6807) && !(index == 0x3024) then
    (match Tab.at? (objKey (chanKey ch) index sub) s.dict.selects with
      | some v => (stSuccess, v)
      | none => (stSuccess, r.dflt), s)
  else if index = 0x6801 ∧ sub = 4 then
    let e := keyExport (selBytes s ch 0x6801 3 (zeros 8)) s
    ((e.1, .bytes e.2.1), e.2.2)
  else
    match readOpen s index sub with
    | some x => (got x.1, x.2)
    | none =>
      match readSelected s ch index sub with
      | some a => (a, s)
      | none =>
        match readNum s index sub, readOct s ch index sub with
        | some n, _ => (got n, s)
        | none, some b => (gotBytes b, s)
        | none, none => ((stSuccess, (Tab.at? (objKey 0 index sub) s.dict.objs).getD r.dflt), s)

end Sys2Proof.Machine
end

