-- ==== Sys2Proof/Machine/Start.lean ====
section
/-! DEFINITION. The start-up sequence: checks, mount, restore, replay and verify (R66, R242 to R246, R381, R382). -/

namespace Sys2Proof.Machine

/-! ### Checks of steps 2 to 8 (R66, R547) -/

/-- A START that fails ends in STANDBY under a fault hold (R58). The rails stay in regulation, as they are after a rise of
P12V into STANDBY (R66; log entry 157). -/
def startFails (s : State) : State :=
  setPower .standby (addFault .startCheck (modPw (fun p => { p with hold := true, startStep := 0 }) s))

/-- A self-test at START that failed lights FAULT and is recorded (R51, R547, R534). -/
def startTestFailed (test interface : Nat) (s : State) : State :=
  let lit : FaultEvent := if test = 1 then .hbmStack interface else .selftest (selftestKey interface 0)
  selftestEvent test interface 0 2 (addFault lit s)

/-- Clocks (steps 2 and 4, R56). -/
def startClocks (i : StartInputs) (s : State) : State :=
  let ok := i.oscillatorOk && i.pllOk
  modPw (fun p => { p with
    pllLocked := ok, holdover := i.oscillatorOk && !i.pllOk, oscFault := !i.oscillatorOk
    faults := if ok then p.faults.filter (fun f => f != .clockFault) else p.faults })
    (railsUp s)

/-- The drive PHYs leave reset, and with them the PERST_N of every group (step 5, R324); host ports (step 5) and drive groups
(step 8) whose PHY self-test failed (R326, R547). -/
def startPhys (i : StartInputs) (s : State) : State :=
  let ports := (dedup i.portFail).filter (fun n => decide (n < 4))
  let groups := (dedup i.groupFail).filter (fun n => decide (n < 24))
  let s := modPw (fun p => { p with portsFailed := dedup (p.portsFailed ++ ports) }) s
  let s : State := { s with drv := { s.drv with perst := [] } }
  let s := ports.foldl (fun s n => startTestFailed 2 (n + 1) s) s
  groups.foldl (fun s g => startTestFailed 3 (g + 5) (failGroup g s)) s

/-- HBM at step 8: training, BIST, the tests ordered for this START, and stacks that were retiring (R357, R360, R545). -/
def startHbm (i : StartInputs) (s : State) : State :=
  let ordered := setBits (cfgHbmTestNextStart s) 4
  let bist := i.bistFail.filter (fun n => decide (n ∈ ordered))
  let bad (n : Nat) : Bool := decide (n ∈ i.hbmFail) || decide (n ∈ bist) || s.cache.retiring.toNat.testBit n
  let ok := packBits ((List.range 4).map (fun n => !bad n))
  let s := modCache (fun c => { c with stacksOk := BitVec.ofNat 4 ok, retiring := 0#4 }) s
  let s := (dedup bist).foldl (fun s n => startTestFailed 1 n s) s
  { s with dict := { s.dict with
      objs := Tab.del s.dict.objs (objKey 0 0x7C02 1), nv := Tab.del s.dict.nv (objKey 0 0x7C02 1) } }

/-- The mode of the map cache for the tag banks that passed (R374). -/
def bankMode (ok : BitVec 16) : Nat :=
  if ok = 0xFFFF#16 then 0 else if 4 ≤ (setBits ok.toNat 16).length then 1 else 2

/-- Map cache, Locksmith and charger at step 8 (R374, R469, R546). -/
def startUnits (i : StartInputs) (s : State) : State :=
  let s : State := { s with mc := { MapCache.reset with mode := bankMode i.tagBanksOk, banksOk := i.tagBanksOk } }
  let s := modLock (fun l => { l with lanesOk := BitVec.allOnes 48, engineOk := true }) s
  let s := lockTests i.lanesFail i.keyEngineFail s
  let s := if i.drbgFail then lockFault 1 0xFF (modLock (fun l => { l with drbg := 2 }) s) else s
  let s := modPw (fun p => { p with known := true }) s
  if i.chargerFail then startTestFailed 0 0x27 (chargerFaultWith 7 s) else s

/-- Cooper's tests at step 8 (R317 to R319). Which test failed is a free value (log entry 1). -/
def startCooper (i : StartInputs) (s : State) : Bool × State :=
  if i.cooperFail then
    let t := drawNat s
    (false, event 0x4305 2 0 (leBytes 1 (1 + t.1 % 3)) (addFault .coderKat
      (modCooper (fun c => { c with failed := true, katResult := 2 }) t.2)))
  else (true, modPw (fun p => { p with faults := p.faults.filter (fun f => f != .coderKat) }) s)

/-! ### Step 9 (R66, R406, R458, R463, R510, R521) -/

/-- The clock is raised to 1 s past the newest record of the ledger region (R510); records are no longer EARLY (R520). -/
def raiseClock (s : State) : State :=
  let newest := s.led.region.foldl (fun m e => max m e.2.time) 0
  { s with clk := { s.clk with
      now := if s.led.region.isEmpty then s.clk.now else max s.clk.now (newest + secNs), early := false } }

/-- RESET_CAUSE is recorded once after a reset, for the first ledger flush (R64). -/
def recordCause (s : State) : State :=
  if s.pw.resetRecorded then s
  else
    modPw (fun p => { p with resetRecorded := true })
      (event 0x1001 0 0 (leBytes 1 s.pw.resetCause ++ leBytes 1 s.pw.bootImage) s)

/-- Was power lost before this START: a power-on reset or a 12 V trip (R64, R458; log entry 24)? -/
def powerLost (s : State) : Bool := s.pw.resetCause == 0 || s.pw.resetCause == 6

/-- The vault is mounted, the ledger resumes, keys take new generations, the gauge starts, drives are found (step 9). Of
two drives with one label the one of higher CKPT_ID, then of lower DRIVE_GUID, takes the number (R333). -/
def startMount (i : StartInputs) (s : State) : State :=
  let s := vaultMount i.vaultMountOk i.tagScanPages s
  let s := recordCause (ledMount (raiseClock s))
  let s := modLock (fun l => { l with
    mkGen := gcmStart (powerLost s) l.mkGen, vskGen := gcmStart (powerLost s) l.vskGen
    dmpkGen := gcmStart (powerLost s) l.dmpkGen, gcmRolls := l.gcmRolls + 3 }) s
  let s := writeStore s
  let s := if s.tally.gauge.running then s else startEstimator s
  let found := (sortBy (fun d => beNat d.guid) i.drives)
  let rank (d : DriveInfo) : Nat := (d.label.map (fun l => l.ckptId)).getD 0
  let top := found.foldl (fun m d => max m (rank d)) 0
  (sortBy (fun d => top - rank d) found).foldl (fun s d => findDrive d s) s

/-! ### The restart path (R242) -/

/-- The labels of the drives found at START. -/
def startLabels (i : StartInputs) : List LabelInfo := i.drives.filterMap (fun d => if d.answered then d.label else none)

/-- Is the exposure bitmap of a dump image valid: block 0, which it begins (R240, R242)? -/
def bitmapValid (i : StartInputs) (g : Image) : Bool := g.block0 && i.firstBadBlock != some 0

/-- Is a dump image complete (R242)? -/
def imageWhole (i : StartInputs) (g : Image) : Bool := g.complete && i.firstBadBlock.isNone

/-- Does a complete image's journal ring or the drive journal hold a record (R411)? -/
def heldElsewhere (i : StartInputs) (s : State) (n : Nat) : Bool :=
  (match s.dump.image with
    | some g => imageWhole i g && g.ring.any (fun r => r.seq == n)
    | none => false) ||
  (segmentsInOrder s.dur.epoch i.badSegment s.dur.record.segments).any (fun g => g.records.any (fun r => r.seq == n))

/-- The record at which replay of the vault journal ends: unreadable or with a failed CRC, and held nowhere else (R225,
R411). -/
def vaultEnd (i : StartInputs) (s : State) : Option Nat := i.badRecord.filter (fun n => !heldElsewhere i s n)

/-- The vault's tables: its newest checkpoint copy with the vault journal replayed behind it (R225, R243, R259). -/
def vaultTables (i : StartInputs) (s : State) : State :=
  let c := s.dur.vaultCkpts.getLast?
  let t := ((c.map (fun x => x.tables)).getD Tables.empty)
  let more := s.tabs.spans.filter (fun e => (Tab.at? e.1 t.spans).isNone)
  let s : State := { s with tabs := { t with spans := sortBy (fun e => e.1) (t.spans ++ more) } }
  let s := replay ((c.map (fun x => x.desc.covers)).getD 0) (vaultEnd i s) s.jr.vault s
  { s with jr := { s.jr with vault := soundRecords (vaultEnd i s) s.jr.vault } }

/-- The tables that the drives give on path DRIVE: the newer valid checkpoint with the drive journal behind it, the chunk table
from the headers, the page maps from the index pages (R242, R251, R259, R305). -/
def driveTables (i : StartInputs) (s : State) : State :=
  let images := s.dur.record.images.reverse
  match i.driveTables.bind (fun n => images[n]?) with
  | none => s
  | some c =>
    let j : ScanInputs := {
      drives := i.drives, newerOk := true, olderOk := true, replacements := 0, highestKgen := 0, badSegment := i.badSegment
      badRecord := i.badRecord, badHeaders := i.badHeaders, badIndex := i.badIndex }
    let r := scanRecord s.dur.record s.dur.epoch c s.tabs.spans j s
    let s := modDur (fun d => { d with
      headers := (chunksFromHeaders d.record i.badHeaders { s with tabs := r.tables }).dur.headers }) s
    { s with tabs := r.tables, jr := { s.jr with last := r.jseq } }

/-- The path that R242 gives; `t` is the state with the vault's tables. An image without a valid bitmap that held no dirty
data matches no row; its restart is a REPLAY (log entry 176). -/
def choosePath (i : StartInputs) (t : State) : RPath :=
  let ls := startLabels i
  if ls.isEmpty && t.tabs.vols.isEmpty then .empty
  else if ls.any (fun l => decide (t.dur.epoch < l.epoch) || l.arrayId != t.dur.arrayId) then .stale
  else if t.vault.failed then .drive
  else match t.dump.image with
    | none => .replay
    | some g => if imageWhole i g then .restore
      else if bitmapValid i g || !g.slots.isEmpty then .loss else .replay

/-! ### Restore (R381, R382) -/

/-- Slots of both cache partitions (R382). -/
def placeRoom (s : State) : Nat := slotCount s + rcSlotCount s

/-- A slot as restore places it: DESTAGING becomes DIRTY; one beyond the partition is borrowed (R381, R382). -/
def restoredSlot (s : State) (e : Nat × Slot) : Nat × Slot :=
  (e.1, { e.2 with state := .dirty, old := false, borrowed := decide (slotCount s ≤ e.1) })

/-- Up to `n` of the image's slots are placed, in slot order; the rest wait. -/
def placeSlots (n : Nat) (s : State) : State :=
  let now := s.dump.unplaced.take n
  let s := modCache (fun c => { c with
    slots := now.foldl (fun t e => let r := restoredSlot s e; Tab.put r.1 r.2 t) c.slots }) s
  let s := modDump (fun d => { d with unplaced := d.unplaced.drop n }) s
  modQm (fun q => { q with reserved := sumNat ((Tab.vals s.cache.slots).map (fun x => x.reserved)) }) s

/-- Is a restored line right: a commit record of the journal ring names it (R243, step 12)? Lines that carry older content
than a cancelled write have none (log entry 160). -/
def lineSound (s : State) (x : Slot) : Bool :=
  x.jseq == 0 || s.jr.ring.any (fun r => match r.body with
    | .writeCommit v _ _ n lba _ _ => r.seq == x.jseq && v == x.volume && (match getVol s v with
      | some vol => decide (lba / vol.pageBlocks ≤ x.page) && decide (x.page ≤ (lba + n - 1) / vol.pageBlocks)
      | none => false)
    | _ => false)

/-- Step 10 (R381): protected metadata, then the slots as far as they fit. Slots that a newer commit superseded while they
destaged hold nothing that the newer one lacks. How long it took is a free value (log entry 1). -/
def restoreImage (g : Image) (s : State) : State :=
  let s := modDur (fun d => { d with exposure := g.exposure }) s
  let s := modTabs (fun t => { t with repair := g.repair, poison := g.poison, scrub := g.scrub }) s
  let s : State := { s with jr := { s.jr with ring := g.ring, last := max s.jr.last g.last } }
  let slots := g.slots.filter (fun e => !e.2.old && lineSound s e.2)
  let t := drawNat s
  let s := modDump (fun d => { d with unplaced := slots, restoreTime := t.1 % 2 ^ 32 }) t.2
  placeSlots (placeRoom s) s

/-! ### Steps 11 to 13 (R243, R246, R314) -/

/-- Groups written since the last pass before a failure go first (R319). -/
def scrubAfterKat (s : State) : State :=
  let s := if s.cooper.failed then
      modCooper (fun c => { c with scrubFirst := (s.tabs.scrub.filter (fun e =>
        decide (bitsOf s.cooper.katLastPass 61 30 ≤ e.2.2))).map (fun e => e.1) }) s
    else s
  katPass (modCooper (fun c => { c with failed := false }) s)

/-- The loss report of a restart, if one is due (R242, R248, R249). One for a journal page that is held nowhere has the open
horizon `t`, the time of the last record replayed, and cause 2 (R411; log entry 180). -/
def restartReport (path : RPath) (i : StartInputs) (t : Nat) (s : State) : Option LossReport :=
  let last := (segmentsInOrder s.dur.epoch i.badSegment s.dur.record.segments).getLast?
  let bits := (last.map (fun x => x.exposure)).getD []
  let make (cause : Nat) (isOpen : Bool) (h : Nat) (b : List Nat) : LossReport :=
    { epoch := s.dur.epoch + 1, source := s.dur.epoch, cause := cause, horizonOpen := isOpen, horizon := h
      entries := lossEntries s b, accepted := false }
  let sealedAt := (last.map (fun x => x.sealedAt)).getD 0
  match path with
  | .loss => match s.dump.image with
    | some g =>
      if bitmapValid i g then some (make 1 false g.time g.exposure) else some (make 1 true sealedAt bits)
    | none => none
  | .drive => if bits.isEmpty then none else some (make 2 true sealedAt bits)
  | .restore | .replay => if (vaultEnd i s).isSome then some (make 2 true t bits) else none
  | .empty | .stale => none

/-- The epoch rises, the report is issued and the labels take the epoch (R241). -/
def reportRestart (r : LossReport) (s : State) : State :=
  let s := modDur (fun d => { d with epoch := d.epoch + 1 }) s
  (labelDrives s).foldl (fun s d => writeLabels d s) (issueReport r s)

/-- The image is retired and the dump area is armed again (R243, R392); on path STALE it is not touched (R241). -/
def retireImage (s : State) : State :=
  if s.dump.image.isSome && s.dur.path != .stale then
    modVault (fun v => { v with rearming := true }) (modDump (fun d => { d with image := none }) s)
  else s

/-- Step 13: SERVICE, or THROTTLE while a sensor stands at its threshold (R49, R58, R66). -/
def startDone (s : State) : State :=
  enterService (modPw (fun p => { p with startStep := 0 }) (retireImage s))

/-- Step 13 comes once all of the image is placed and every label carries the epoch (R241, R243). -/
def startProceed (s : State) : State :=
  if s.pw.state == .start && s.pw.startStep == 12 && s.dump.unplaced.isEmpty && !labelsPending s then startDone s else s

/-- With a sound vault, the records that no written segment carries go to the drive journal (R237). -/
def refillDrives (s : State) : State :=
  let sent := (s.dur.record.segments.map (fun g => g.records)).flatten
  if s.vault.failed then s
  else { s with jr := { s.jr with toDrives := s.jr.vault.filter (fun r => !sent.any (fun q => q.seq == r.seq)) } }

/-- Steps 10 to 13 on a path. -/
def startPath (path : RPath) (i : StartInputs) (t s : State) : State :=
  let s := match path with
    | .stale => modTabs (fun x => { x with vols := t.tabs.vols }) s
    | .drive => driveTables i s
    | _ => t
  let s := modDur (fun d => { d with path := path, waitOver := false }) s
  let s := match path, s.dump.image with
    | .restore, some g => restoreImage g s
    | _, _ => s
  let s := if path = .stale then s else refillDrives (raiseUnits (settleTables s))
  let s := modTabs (fun x => { x with
    vols := x.vols.map (fun e => (e.1, { e.2 with state := .recovering, loss := false })) }) s
  let s := scrubAfterKat s
  let h := drawNat s
  let s := match restartReport path i h.1 s with
    | some r => reportRestart r h.2
    | none => s
  startProceed (metaAdvance (modPw (fun p => { p with startStep := 12 }) s))

/-- START from its trigger on (R66). Without one sound host port a part of the minimal service set is lost (R69). -/
def startUp (i : StartInputs) (s : State) : State :=
  let s := startClocks i s
  if !(i.oscillatorOk && i.pllOk) then startFails s
  else
    let s := startCore (modPw (fun p => { p with coresOk := i.coresOk }) s)
    if s.lock.recovery || i.coresOk == 0 then startFails s
    else
      let s := startUnits i (startHbm i (startPhys i s))
      let c := startCooper i s
      if !c.1 || c.2.cache.stacksOk == 0 then startFails c.2
      else if allPorts.all (fun p => decide (p.val ∈ c.2.pw.portsFailed)) then enterDump .serviceSet c.2
      else
        let s := startMount i c.2
        let t := vaultTables i s
        startPath (choosePath i t) i t s

/-- START_UP. -/
def execStartUp (i : StartInputs) (s : State) : Host.Outcome State Fault Refusal :=
  finish (if s.pw.state == .start && s.pw.startStep != 12 then startUp i s else s)

/-- RESTORE_ROUND (R382): more of the image is placed, in slots that destage has freed. -/
def execRestoreRound (n : Nat) (s : State) : Host.Outcome State Fault Refusal :=
  if s.pw.state == .start && s.pw.startStep == 12 then
    let room := placeRoom s - (dirtySlots s).length
    let s := modCache (fun c => { c with slots := c.slots.filter (fun e => e.2.state != .clean) }) s
    let s := placeSlots (min n room) s
    finish (startProceed s)
  else finish s

/-- DRIVE_WAIT_EXPIRY (R67, R246): members still unreachable are MISSING; a volume below k is OFFLINE. -/
def execDriveWaitExpiry (s : State) : Host.Outcome State Fault Refusal :=
  if serving s && s.dur.path != .stale then
    let s := modDur (fun d => { d with waitOver := true }) s
    let lost := (s.tabs.groups.filter (fun e => e.2.holds || e.2.state == .target)).map (fun e =>
      ((List.range e.2.members.length).filter (fun n => match e.2.members[n]? with
        | some m => (m.state == .ok || m.state == .stale) && !chunkUp s m.chunk
        | none => false)).map (fun n => (e.1, n)))
    finish (lost.flatten.foldl (fun s x =>
      queueRebuild x.1 (modGroup x.1 (fun g => { g with degraded := true }) (setMember x.1 x.2 .missing 1 s))) s)
  else finish s

end Sys2Proof.Machine
end

