-- ==== Sys2Proof/Machine/DictWrite.lean ====
section
/-! DEFINITION. What a write to each object of the dictionary does: check 7 of R481 and the effect. A write answers a
status and the state. -/

namespace Sys2Proof.Machine

/-- The state with the dictionary changed. -/
def modDict (f : Dict → Dict) (s : State) : State := { s with dict := f s.dict }

/-- The state with the session table changed. -/
def modSess (f : Sessions → Sessions) (s : State) : State := { s with sess := f s.sess }

/-! ### Stored values (R483) -/

/-- An object takes a value; a stored one is programmed into NOR too. -/
def storeAt (stored : Bool) (key : Nat) (v : OVal) : State → State :=
  modDict (fun d => { d with
    objs := Tab.put key v d.objs
    nv := if stored then Tab.put key v d.nv else d.nv
    nvSeq := if stored then d.nvSeq + 1 else d.nvSeq })

/-- A write that only keeps the value: per session or mailbox, or for the module. -/
def keepValue (r : ObjRow) (ch : Channel) (index sub : Nat) (v : OVal) (s : State) : State :=
  if r.select then
    modDict (fun d => { d with selects := Tab.put (objKey (chanKey ch) index sub) v d.selects }) s
  else storeAt r.stored (objKey 0 index sub) v s

/-- A write whose value is kept when its chapter accepts it. -/
def keepIf (r : ObjRow) (ch : Channel) (index sub : Nat) (v : OVal) (x : Nat × State) : Nat × State :=
  if x.1 = stSuccess then (x.1, keepValue r ch index sub v x.2) else x

/-- A write that is accepted when a layout is kept, and then takes effect (R481, check 7). -/
def keepChecked (ok : Bool) (r : ObjRow) (ch : Channel) (index sub : Nat) (v : OVal) (after : State → State)
    (s : State) : Nat × State :=
  if ok then (stSuccess, after (keepValue r ch index sub v s)) else (stValue, s)

/-! ### Credentials (R496, R497) -/

/-- Continuation bytes 10xxxxxx at the front of a text, `n` of them. -/
def utf8Tail : Nat → Bytes → Option Bytes
  | 0, t => some t
  | _ + 1, [] => none
  | n + 1, b :: t => if 0x80 ≤ b.toNat ∧ b.toNat < 0xC0 then utf8Tail n t else none

/-- Is a text valid UTF-8 (R481, check 5)? `fuel` is its length. -/
def utf8Ok : Nat → Bytes → Bool
  | _, [] => true
  | 0, _ :: _ => false
  | fuel + 1, b :: t =>
    let x := b.toNat
    let second := (t.head?.map (fun c => c.toNat)).getD 0
    let rest (n : Nat) : Bool := match utf8Tail n t with
      | some u => utf8Ok fuel u
      | none => false
    if x < 0x80 then utf8Ok fuel t
    else if 0xC2 ≤ x ∧ x < 0xE0 then rest 1
    else if x = 0xE0 then decide (0xA0 ≤ second) && rest 2
    else if x = 0xED then decide (second < 0xA0) && rest 2
    else if 0xE1 ≤ x ∧ x < 0xF0 then rest 2
    else if x = 0xF0 then decide (0x90 ≤ second) && rest 3
    else if 0xF1 ≤ x ∧ x < 0xF4 then rest 3
    else if x = 0xF4 then decide (second < 0x90) && rest 3
    else false

/-- The bytes of a zero-padded name. -/
def nameBytes (b : Bytes) : Bytes := (b.reverse.dropWhile (· == 0)).reverse

/-- Does a CRED_LOAD value keep the layout of R496? -/
def credOk (b : Bytes) : Bool :=
  let kind := field b 2 1
  let iter := field b 4 4
  let name := nameBytes (slice b 24 32)
  decide (field b 0 1 < 16) && decide (field b 1 1 ≤ 2) && !name.isEmpty && utf8Ok 32 name &&
    ((kind == 1 && iter == 0 && allZero (slice b 8 16)) ||
      (kind == 2 && decide (100000 ≤ iter) && decide (iter ≤ 10000000)))

/-- The credential of a slot goes, and every session opened with it ends (R494). -/
def dropCred (slot : Nat) (s : State) : State :=
  let ids := (s.sess.sessions.filter (fun x => x.slot == slot)).map (fun x => x.id)
  modSess (fun e => { e with creds := e.creds.filter (fun c => c.slot != slot) })
    (ids.foldl (fun s id => endSession id s) s)

/-- CRED_LOAD (R496, R497): a second Custodian credential deletes the factory's. -/
def credLoad (ch : Channel) (b : Bytes) (s : State) : Nat × State :=
  let slot := field b 0 1
  let name := slice b 24 32
  if credOk b = false then (stValue, s)
  else if s.sess.creds.any (fun c => c.name == name && c.slot != slot) then (stValue, s)
  else
    match (chanSession s ch).bind (fun x => Config.unwrap 0 x.swk (slice b 56 40)) with
    | none => (stUnwrapFailed, s)
    | some k =>
      let c : Cred := { slot := slot, role := field b 1 1, kind := field b 2 1, iter := field b 4 4,
                        salt := slice b 8 16, name := name, k := fit 32 k, setup := false, lastUsed := 0 }
      let s := modSess (fun e => { e with creds := sortBy (fun x => x.slot) (e.creds.filter (fun x => x.slot != slot) ++ [c]) }) s
      (stSuccess, if c.role = 2 ∧ s.sess.creds.any (fun x => x.setup) then dropCred 0 s else s)

/-- CRED_DELETE (R494, R497). -/
def credDelete (slot : Nat) (s : State) : Nat × State :=
  match s.sess.creds.find? (fun c => c.slot == slot) with
  | none => (stNotFound, s)
  | some c =>
    if c.role = 2 ∧ (s.sess.creds.filter (fun x => x.role == 2)).length ≤ 1 then (stBusy, s)
    else (stSuccess, dropCred slot s)

/-- SESSION_CLOSE (R493). -/
def sessionClose (id : Nat) (s : State) : Nat × State :=
  if s.sess.sessions.any (fun x => x.id == id) then (stSuccess, endSession id s) else (stNotFound, s)

/-! ### Writes that do something -/

/-- A write of 1 that starts something; 0 does nothing. -/
def trigger (n : Nat) (go : State → Nat × State) (s : State) : Nat × State := if n = 1 then go s else (stSuccess, s)

/-- LEDGER_CLEAR (R531). -/
def ledgerClearBy (ch : Channel) (s : State) : Nat × State :=
  if s.pw.state = .dump ∨ s.pw.state = .standby then (stBusy, s)
  else (stSuccess, ledgerClear (((chanSession s ch).map (fun x => x.slot)).getD 0xFF) (chanCode ch) s)

/-- IMPORT_CONTROL (R250, R253, R254). A SCAN runs on with the row IMPORT_SCAN. -/
def importControl (n : Nat) (s : State) : Nat × State :=
  if n = 1 then importScan s else if n = 2 then importCommit s else if n = 3 then importCancel s else discardLocal s

/-- FW_UPDATE_CONTROL (R473, R478). -/
def fwControl (ch : Channel) (n : Nat) (s : State) : Nat × State :=
  if n = 1 then fwBegin (chanKey ch) s else if n = 2 then fwVerify (chanKey ch) s else fwCancel (chanKey ch) s

/-- DRIVE_CMD (R349, R353). -/
def driveControl (d n : Nat) (s : State) : Nat × State :=
  if n = 2 then driveRemove d s else if n = 3 then driveCancelRemove d s else driveFail d s

/-- PORT_ENABLE takes effect (R103, R110): 0 holds the port in reset with no link. -/
def portEnable (p : PortId) (n : Nat) (s : State) : State := if n = 0 then portReset p (dropLink p s) else s

/-- The known-answer verdict of a run that no row gives: free values (log entry 1). -/
def freeKat (s : State) : KatVerdict × State :=
  let a := drawNat s
  (⟨bit a.1 0, bit a.1 1, 1 + a.1 / 4 % 3⟩, a.2)

/-- The Locksmith verdict of a run that no row gives: failed lanes and engine are free values (log entry 1). -/
def freeLock (s : State) : (List Nat × Bool) × State :=
  let a := drawNat s
  ((setBits a.1 48, bit a.1 48), a.2)

/-- KAT_RUN with the verdict given, or a free one (R317). -/
def katWrite (kat : Option KatVerdict) (s : State) : Nat × State :=
  match kat with
  | some v => katRun v s
  | none => katRun (freeKat s).1 (freeKat s).2

/-- LOCK_KAT_RUN with the verdict given, or a free one (R469). -/
def lockWrite (lk : Option (List Nat × Bool)) (s : State) : Nat × State :=
  match lk with
  | some v => lockKatRun v.1 v.2 s
  | none => lockKatRun (freeLock s).1.1 (freeLock s).1.2 (freeLock s).2

/-- What a write of a number does beyond being kept, for the objects that do something. -/
def writeNum (kat : Option KatVerdict) (lk : Option (List Nat × Bool)) (r : ObjRow) (ch : Channel) (index sub n : Nat)
    (s : State) : Option (Nat × State) :=
  let p : PortId := Fin.ofNat 4 (sub - 1)
  let d := selNum s ch 0x3802 1
  let v := selNum s ch 0x3001 1
  let keep (s : State) : State := keepValue r ch index sub (.num n) s
  match index * 256 + sub with
  | 0x110101 => some (moduleControl n s)
  | 0x300203 => some (volDelete n s)
  | 0x300305 => some (volVcflags v n s)
  | 0x300306 => some (volClass v n s)
  | 0x302102 => some (trigger n (fun s => (stSuccess, requestCkpt s)) s)
  | 0x301101 => let s := keep s
    some (stSuccess, trimFaces 0 (faceCount s) s)
  | 0x302101 =>
    let s := keep s
    some (stSuccess, if serving s && decide (n * secNs ≤ s.clk.uptime - s.dur.lastCkptTime) then requestCkpt s else s)
  | 0x302402 | 0x302405 => some (if s.dur.report.isSome then (stSuccess, keep s) else (stNotFound, s))
  | 0x302404 => some (lossAck n s)
  | 0x302501 => some (importControl n s)
  | 0x380301 => some (driveDomainWrite d n s)
  | 0x380302 => some (driveTierWrite d n s)
  | 0x480306 => some (driveClassWrite d n s)
  | 0x480309 => some (driveControl d n s)
  | 0x48030A => some (trigger n (adopt d) s)
  | 0x400101 => some (trigger n (katWrite kat) s)
  | 0x600203 => some (stSuccess, chargerStep (keep s))
  | 0x600205 => some (trigger n (fun s => (stSuccess, openRest s)) s)
  | 0x600405 => some (learnControl n s)
  | 0x680102 => some (keyDestroy n s)
  | 0x680202 => some (xgenRoll n s)
  | 0x680501 => some (trigger n (lockWrite lk) s)
  | 0x680603 => some (rollbackCommit n s)
  | 0x680606 => some (fwControl ch n s)
  | 0x101002 => some (clockSet n s)
  | 0x101004 => some (stSuccess, ptpEnable n (keep s))
  | 0x102005 => some (sessionClose n s)
  | 0x103004 => some (credDelete n s)
  | 0x700201 => some (if pathEnableFree false n s then (stSuccess, pathEnable false n (keep s)) else (stBusy, s))
  | 0x700202 => some (if pathEnableFree true n s then (stSuccess, pathEnable true n (keep s)) else (stBusy, s))
  | 0x700403 => some (pathSwitch n s)
  | 0x701002 => some (stSuccess, addrMode n (keep s))
  | 0x780102 => some (trigger n (fun s => (stSuccess, ledgerFlush s)) s)
  | 0x780302 | 0x780303 =>
    let c := selNum s ch 0x7803 1
    some (if c ∈ eventCodes then (stSuccess, storeAt true (objKey c 0x7803 sub) (.num n) s) else (stNotFound, s))
  | 0x780401 => some (trigger n (ledgerClearBy ch) s)
  | 0x7C0102 => some (testStop n s)
  | _ =>
    if index = 0x2000 then some (stSuccess, portEnable p n (keep s))
    else if index = 0x2002 then some (stSuccess, clearCause p (BitVec.ofNat 32 n) s)
    else if index = 0x2011 then some (releasePort p s)
    else if index = 0x4800 then some (keepIf r ch index sub (.num (groupCfgKept n)) (groupCfgWrite (sub - 1) n s))
    else none

/-- What a write of octets does beyond being kept, for the objects that do something. -/
def writeOct (r : ObjRow) (ch : Channel) (index sub : Nat) (b : Bytes) (s : State) : Option (Nat × State) :=
  let own : Option PortId := match ch with
    | .mailbox p => some p
    | _ => none
  match index * 256 + sub with
  | 0x300201 => some (volCreate b s)
  | 0x300202 => some (volGrow b s)
  | 0x502005 => some (mcacheWrite b s)
  | 0x580203 => some (keepChecked (curveOk 0 b) r ch index sub (.bytes (curveKept 0 b)) id s)
  | 0x600601 => some (keepChecked (ocvTableOk b) r ch index sub (.bytes b) tableChanged s)
  | 0x600602 => some (keepChecked (resTableOk s b) r ch index sub (.bytes b) tableChanged s)
  | 0x680101 => some (keyLoad ch b s)
  | 0x680607 => some (fwPiece (chanKey ch) b s)
  | 0x680702 => some (stSuccess, quoteNonce (chanKey ch) b s)
  | 0x680704 => some (stSuccess, mrExtend 7 b s)
  | 0x103003 => some (credLoad ch b s)
  | 0x7C0001 => some (maintSet (field b 0 1) (field b 1 1) s)
  | 0x7C0101 => some (testRequest own b s)
  | _ =>
    if index = 0x380A then some (keepChecked (curveOk (sub - 1) b) r ch index sub (.bytes (curveKept (sub - 1) b)) id s)
    else if index = 0x4810 then some (keepIf r ch index sub (.bytes b) (recoveryTableWrite (sub - 1) b s))
    else none

/-- A write that has passed checks 1 to 6 of R481: its own checks and its effect. -/
def writeValue (kat : Option KatVerdict) (lk : Option (List Nat × Bool)) (r : ObjRow) (ch : Channel) (index sub : Nat)
    (v : OVal) (s : State) : Nat × State :=
  let done := match v with
    | .num n => writeNum kat lk r ch index sub n s
    | .bytes b => writeOct r ch index sub b s
  match done with
  | some x => x
  | none => (stSuccess, keepValue r ch index sub v s)

end Sys2Proof.Machine
end

