-- ==== Sys2Proof/Machine/Dict.lean ====
section
/-! DEFINITION. Dictionary operations: the checks of R481, the encodings of R17 and R487, and the commands that are one
operation each (R480 to R483). -/

namespace Sys2Proof.Machine

/-! ### Encodings (R11, R17, R487) -/

/-- Does a channel carry numbers most significant byte first (R17)? -/
def bigEnd : Channel → Bool
  | .rxmp _ => true
  | _ => false

/-- A number as the transport carries it. -/
def putNum (big : Bool) (n v : Nat) : Bytes := if big then beBytes n v else leBytes n v

/-- The number that the transport's bytes spell. -/
def takeNum (big : Bool) (b : Bytes) : Nat := if big then beNat b else leNat b

/-- The type code of a DESCRIBE (R487). -/
def OTy.code : OTy → Nat
  | .bool => 1 | .u8 => 2 | .u16 => 3 | .u32 => 4 | .u64 => 5 | .i16 => 6 | .i32 => 7 | .i64 => 8 | .time => 9
  | .str => 10 | .oct => 11

/-- Is a type a number? -/
def OTy.isNum : OTy → Bool
  | .str | .oct => false
  | _ => true

/-- A value as the transport carries it (R11, R17): numbers, and the numbers in an octet layout, in its byte order. -/
def encodeVal (big : Bool) (r : ObjRow) : OVal → Bytes
  | .num n => if r.ty.isNum then putNum big r.len n else []
  | .bytes b => octOrder big r b

/-- The value that the transport's bytes spell (R17). -/
def decodeVal (big : Bool) (r : ObjRow) (b : Bytes) : OVal :=
  if r.ty.isNum then .num (takeNum big b) else .bytes (octOrder big r b)

/-- Subindex 0 of an object with subindices: the highest valid one, as type U8, RO (R16). -/
def countRow (index highest : Nat) : ObjRow := ⟨index, 0, 0, .u8, 1, false, 1, 0, false, false, .num highest, []⟩

/-- The row of an index and subindex, if they are defined (R16, R481 check 1). -/
def defRow (index sub : Nat) : Option ObjRow :=
  if sub = 0 then (highestSub index).map (countRow index) else objRow index sub

/-- The four bytes of a DESCRIBE (R487). -/
def describeBytes (big : Bool) (r : ObjRow) : Bytes :=
  [BitVec.ofNat 8 r.ty.code, BitVec.ofNat 8 (r.access + 4 * r.role)] ++ putNum big 2 r.len

/-! ### The checks of R481 -/

/-- The role of a channel's operations: its session's, Observer without one (R502). -/
def roleOf (who : Option Session) : Nat := (who.map (fun x => x.role)).getD 0

/-- Objects that a session of the factory credential may write (R497). -/
def setupWrites : List Nat := [0x103003, 0x103004, 0x680101, 0x302501, 0x302503]

/-- What an anonymous request and the session of the factory credential are denied whatever the object (R497, R502): the
first anything but READ (1) and DESCRIBE (3) of what an Observer may read, the second every WRITE (2) but those of
R497. -/
def barred (who : Option Session) (op index sub : Nat) : Bool :=
  match who with
  | none =>
    if op = 1 ∨ op = 3 then
      match defRow index sub with
      | some r => !(r.access == 2 || (r.access == 1 && r.role == 0))
      | none => false
    else true
  | some x => x.setup && op == 2 && !decide (index * 256 + sub ∈ setupWrites)

/-- Check 3: the role holds the right that the access code governs (R17, R481). -/
def mayAccess (write : Bool) (r : ObjRow) (who : Option Session) : Bool :=
  (!write && r.access == 2) || decide (r.role ≤ roleOf who)

/-- The reduced dictionary of STANDBY (R59): the ranges of R16 for identity, time and sessions, paths and energy store,
and the objects of the power chapter. -/
def reducedIndex (index : Nat) : Bool :=
  index / 0x1000 == 1 || index == 0x2010 || (decide (0x6000 ≤ index) && decide (index < 0x6800)) ||
    (decide (0x7000 ≤ index) && decide (index < 0x7800))

/-- Check 4: available in the current state: the reduced dictionary in STANDBY (R59), the update objects in the ROM's
recovery service (R472). -/
def available (s : State) (index : Nat) : Bool :=
  if s.lock.recovery then index == 0x6806
  else s.pw.state != .standby || reducedIndex index

/-- Check 5: the length of a written value (R481). -/
def lengthOk (r : ObjRow) (b : Bytes) : Bool :=
  match r.ty with
  | .str => decide (b.length ≤ r.len) && utf8Ok b.length b
  | .oct => if r.upTo then decide (b.length ≤ r.len) else b.length == r.len
  | _ => b.length == r.len

/-- Check 6: a written number within Range/Unit (R481). -/
def rangeOk (r : ObjRow) : OVal → Bool
  | .num n => r.ranges.isEmpty || r.ranges.any (fun x => decide (x.1 ≤ n) && decide (n ≤ x.2))
  | .bytes _ => true

/-- The first of checks 2 to 4 that fails (R481). -/
def firstCheck (write : Bool) (r : ObjRow) (who : Option Session) (index : Nat) (s : State) : Option Nat :=
  if !write && r.access == 3 then some stWriteOnly
  else if write && r.access == 1 then some stReadOnly
  else if !mayAccess write r who then some stAccessDenied
  else if !available s index then some stBusy
  else none

/-! ### Operations (R480) -/

/-- What an operation answers: its status and the value returned, as the transport carries it. -/
abbrev OpResult := Nat × Bytes

/-- READ (R480, R481). -/
def dictGet (ch : Channel) (who : Option Session) (index sub : Nat) (s : State) : (Nat × OVal) × State :=
  if barred who 1 index sub then ((stAccessDenied, .num 0), s)
  else match defRow index sub with
  | none => ((stNotFound, .num 0), s)
  | some r =>
    match firstCheck false r who index s with
    | some st => ((st, .num 0), s)
    | none => if sub = 0 then ((stSuccess, r.dflt), s) else readValue r ch index sub s

/-- WRITE (R480, R481), with the verdicts that a row gives. -/
def dictPut (kat : Option KatVerdict) (lk : Option (List Nat × Bool)) (ch : Channel) (who : Option Session)
    (index sub : Nat) (b : Bytes) (s : State) : Nat × State :=
  if barred who 2 index sub then (stAccessDenied, s)
  else match defRow index sub with
  | none => (stNotFound, s)
  | some r =>
    match firstCheck true r who index s with
    | some st => (st, s)
    | none =>
      if lengthOk r b = false then (stType, s)
      else if rangeOk r (decodeVal (bigEnd ch) r b) = false then (stValue, s)
      else writeValue kat lk r ch index sub (decodeVal (bigEnd ch) r b) s

/-- DESCRIBE: it passes only check 1 (R481, R487). -/
def dictTell (ch : Channel) (who : Option Session) (index sub : Nat) : OpResult :=
  if barred who 3 index sub then (stAccessDenied, [])
  else match defRow index sub with
  | some r => (stSuccess, describeBytes (bigEnd ch) r)
  | none => (stNotFound, [])

/-- One operation of a REQUEST (R480, R486): OP, SUB, INDEX and the value. -/
def dictOp (ch : Channel) (who : Option Session) (op index sub : Nat) (value : Bytes) (s : State) : OpResult × State :=
  if op = 1 then
    let x := dictGet ch who index sub s
    let b := match defRow index sub with
      | some r => if x.1.1 = stSuccess then encodeVal (bigEnd ch) r x.1.2 else []
      | none => []
    ((x.1.1, b), x.2)
  else if op = 2 then
    let x := dictPut none none ch who index sub value s
    ((x.1, []), x.2)
  else if op = 3 then (dictTell ch who index sub, s)
  else if barred who op index sub then ((stAccessDenied, []), s)
  else ((stInvalidField, []), s)

/-! ### Operations as commands -/

/-- Does the dictionary answer: core 0 runs, and no management restart holds it (R57, R63)? -/
def dictRuns (s : State) : Bool := s.pw.state != .off && !s.pw.mgmtRestarting

/-- Who carries an operation that reaches core 0: a session, or an anonymous request that is allowed (R502). -/
def carrier (s : State) (ch : Channel) : Option (Option Session) :=
  match ch with
  | .anonymous p => if cfgMbAnonRead s p.val = 1 then some none else none
  | _ => (chanSession s ch).map some

/-- The outcome of the last operation. -/
def answered (st : Nat) (v : Option OVal) : State → State := modDict (fun d => { d with last := some (st, v) })

/-- An operation runs for who carries it; without a session it answers SESSION_EXPIRED, an anonymous one that is not
allowed ACCESS_DENIED (R491, R493). -/
def withCarrier (ch : Channel) (go : Option Session → State → State) (s : State) : State :=
  if dictRuns s then
    match carrier s ch with
    | some who => go who s
    | none => answered (match ch with
      | .anonymous _ => stAccessDenied
      | _ => stExpired) none s
  else s

/-- A READ that reaches core 0. -/
def readBy (ch : Channel) (index sub : Nat) : State → State :=
  withCarrier ch (fun who s =>
    let x := dictGet ch who index sub s
    answered x.1.1 (if x.1.1 = stSuccess then some x.1.2 else none) x.2)

/-- A WRITE that reaches core 0, with the verdicts that a row gives. -/
def writeWith (kat : Option KatVerdict) (lk : Option (List Nat × Bool)) (ch : Channel) (index sub : Nat) (b : Bytes) :
    State → State :=
  withCarrier ch (fun who s =>
    let x := dictPut kat lk ch who index sub b s
    answered x.1 none x.2)

/-- A WRITE that reaches core 0. -/
def writeBy (ch : Channel) (index sub : Nat) (b : Bytes) : State → State := writeWith none none ch index sub b

/-- DICT_READ (R480). -/
def execDictRead (ch : Channel) (index sub : Nat) (s : State) : Host.Outcome State Fault Refusal :=
  finish (readBy ch index sub s)

/-- DICT_WRITE (R480 to R483). -/
def execDictWrite (ch : Channel) (index sub : Nat) (value : Bytes) (s : State) : Host.Outcome State Fault Refusal :=
  finish (writeBy ch index sub value s)

/-- DICT_DESCRIBE (R487). -/
def execDictDescribe (ch : Channel) (index sub : Nat) (s : State) : Host.Outcome State Fault Refusal :=
  finish (withCarrier ch (fun who s =>
    let x := dictTell ch who index sub
    answered x.1 (if x.1 = stSuccess then some (.bytes x.2) else none) s) s)

/-! ### Power (R71) -/

/-- MODULE_RESET: MODULE_CONTROL 1. -/
def execModuleReset (ch : Channel) (s : State) : Host.Outcome State Fault Refusal := finish (writeBy ch 0x1101 1 [1] s)

/-- MGMT_RESTART: MODULE_CONTROL 2 (R63). -/
def execMgmtRestart (ch : Channel) (s : State) : Host.Outcome State Fault Refusal := finish (writeBy ch 0x1101 1 [2] s)

/-- MODULE_STANDBY: MODULE_CONTROL 3. -/
def execModuleStandby (ch : Channel) (s : State) : Host.Outcome State Fault Refusal := finish (writeBy ch 0x1101 1 [3] s)

/-- MODULE_START: MODULE_CONTROL 4. -/
def execModuleStart (ch : Channel) (s : State) : Host.Outcome State Fault Refusal := finish (writeBy ch 0x1101 1 [4] s)

/-! ### Ports (R87, R109, R110) -/

/-- The subindex of a port's objects. -/
def portSub (p : PortId) : Nat := p.val + 1

/-- PORT_RELEASE (R109): ignored in BAR0 where the dictionary answers BUSY. -/
def execPortRelease (src : PortSource) (s : State) : Host.Outcome State Fault Refusal :=
  match src with
  | .bar0 p => finish (if barOpen s p then writeBar0 p 0x0C 1 s else s)
  | .dict ch p => finish (writeBy ch 0x2011 (portSub p) [1] s)

/-- PORT_CAUSE_CLEAR (R87, R110). -/
def execPortCauseClear (src : PortSource) (v : BitVec 32) (s : State) : Host.Outcome State Fault Refusal :=
  match src with
  | .bar0 p => finish (if barOpen s p then writeBar0 p 0x08 v.toNat s else s)
  | .dict ch p => finish (writeBy ch 0x2002 (portSub p) (putNum (bigEnd ch) 4 v.toNat) s)

/-! ### Volumes (R185 to R188, R226) -/

/-- VOL_CREATE (R185, R186). -/
def execVolCreate (ch : Channel) (b : Bytes) (s : State) : Host.Outcome State Fault Refusal :=
  finish (writeBy ch 0x3002 1 b s)

/-- VOL_GROW (R187). -/
def execVolGrow (ch : Channel) (b : Bytes) (s : State) : Host.Outcome State Fault Refusal :=
  finish (writeBy ch 0x3002 2 b s)

/-- VOL_DELETE (R188). -/
def execVolDelete (ch : Channel) (b : Bytes) (s : State) : Host.Outcome State Fault Refusal :=
  finish (writeBy ch 0x3002 3 b s)

/-- VOL_VCFLAGS_WRITE (R226), of the volume that VOL_SELECT names. -/
def execVolVcflagsWrite (ch : Channel) (b : Bytes) (s : State) : Host.Outcome State Fault Refusal :=
  finish (writeBy ch 0x3003 5 b s)

/-- VOL_CLASS_WRITE (R226), of the volume that VOL_SELECT names. -/
def execVolClassWrite (ch : Channel) (b : Bytes) (s : State) : Host.Outcome State Fault Refusal :=
  finish (writeBy ch 0x3003 6 b s)

/-! ### Durability and import (R235, R249 to R254) -/

/-- CKPT_NOW (R235). -/
def execCkptNow (ch : Channel) (b : Bytes) (s : State) : Host.Outcome State Fault Refusal :=
  finish (writeBy ch 0x3021 2 b s)

/-- LOSS_ACK (R249). -/
def execLossAck (ch : Channel) (b : Bytes) (s : State) : Host.Outcome State Fault Refusal :=
  finish (writeBy ch 0x3024 4 b s)

/-- IMPORT_SCAN (R250): the write of SCAN, and what it reads; a SCAN that a REQUEST started runs on, but waits while the
management image restarts (R63). -/
def execImportScan (ch : Channel) (i : ScanInputs) (s : State) : Host.Outcome State Fault Refusal :=
  if s.dur.importState = .scanning then finish (if s.pw.mgmtRestarting then s else scanRun i s)
  else
    let t := writeBy ch 0x3025 1 [1] s
    finish (if t.dur.importState = .scanning then scanRun i t else t)

/-- IMPORT_COMMIT (R250). -/
def execImportCommit (ch : Channel) (s : State) : Host.Outcome State Fault Refusal := finish (writeBy ch 0x3025 1 [2] s)

/-- IMPORT_CANCEL (R250). -/
def execImportCancel (ch : Channel) (s : State) : Host.Outcome State Fault Refusal := finish (writeBy ch 0x3025 1 [3] s)

/-- DISCARD_LOCAL (R253). -/
def execDiscardLocal (ch : Channel) (s : State) : Host.Outcome State Fault Refusal := finish (writeBy ch 0x3025 1 [4] s)

/-! ### Quarrymaster, Cooper and the drives (R260, R261, R278, R317, R321, R336 to R353) -/

/-- CURVE_WRITE (R278). -/
def execCurveWrite (ch : Channel) (sub : Nat) (b : Bytes) (s : State) : Host.Outcome State Fault Refusal :=
  finish (writeBy ch 0x380A sub b s)

/-- DRIVE_DOMAIN_WRITE (R260), of the drive that DRIVE_SELECT names. -/
def execDriveDomainWrite (ch : Channel) (b : Bytes) (s : State) : Host.Outcome State Fault Refusal :=
  finish (writeBy ch 0x3803 1 b s)

/-- DRIVE_TIER_WRITE (R261), of the drive that DRIVE_SELECT names. -/
def execDriveTierWrite (ch : Channel) (b : Bytes) (s : State) : Host.Outcome State Fault Refusal :=
  finish (writeBy ch 0x3803 2 b s)

/-- KAT_RUN (R317, R318). -/
def execKatRun (ch : Channel) (b : Bytes) (v : KatVerdict) (s : State) : Host.Outcome State Fault Refusal :=
  finish (writeWith (some v) none ch 0x4001 1 b s)

/-- GROUP_CFG_WRITE (R321, R322). -/
def execGroupCfgWrite (ch : Channel) (sub : Nat) (b : Bytes) (s : State) : Host.Outcome State Fault Refusal :=
  finish (writeBy ch 0x4800 sub b s)

/-- May a BLANK drive be adopted by itself (R336): AUTO_ADOPT is 1 and START has passed step 13? -/
def autoAdopts (s : State) (d : Nat) : Bool :=
  serving s && cfgAutoAdopt s == 1 && (match getDrive s d with
    | some v => v.state == .blank
    | none => false)

/-- DRIVE_ADOPT (R336, R337): written for the drive that DRIVE_SELECT names, or automatic for drive `d`. -/
def execDriveAdopt (ch : Option Channel) (d : Nat) (s : State) : Host.Outcome State Fault Refusal :=
  match ch with
  | some c => finish (writeBy c 0x4803 0x0A [1] s)
  | none => finish (if autoAdopts s d then (adopt d s).2 else s)

/-- DRIVE_REMOVE (R349). -/
def execDriveRemove (ch : Channel) (s : State) : Host.Outcome State Fault Refusal := finish (writeBy ch 0x4803 9 [2] s)

/-- DRIVE_CANCEL_REMOVE (R349). -/
def execDriveCancelRemove (ch : Channel) (s : State) : Host.Outcome State Fault Refusal :=
  finish (writeBy ch 0x4803 9 [3] s)

/-- DRIVE_FAIL (R336). -/
def execDriveFail (ch : Channel) (s : State) : Host.Outcome State Fault Refusal := finish (writeBy ch 0x4803 9 [4] s)

/-- RECOVERY_TABLE_WRITE (R340). -/
def execRecoveryTableWrite (ch : Channel) (sub : Nat) (b : Bytes) (s : State) : Host.Outcome State Fault Refusal :=
  finish (writeBy ch 0x4810 sub b s)

/-! ### Caches and vault (R365, R373, R401) -/

/-- CACHE_MODE_WRITE (R365). -/
def execCacheModeWrite (ch : Channel) (b : Bytes) (s : State) : Host.Outcome State Fault Refusal :=
  finish (writeBy ch 0x5010 1 b s)

/-- An MCACHE_OP value with an operation code, as each row names its own (R373). -/
def mcacheValue (op : Nat) (b : Bytes) : Bytes := if b.isEmpty then b else overlay b 0 (leBytes 1 op)

/-- MCACHE_CLEAN (R373). -/
def execMcacheClean (ch : Channel) (b : Bytes) (s : State) : Host.Outcome State Fault Refusal :=
  finish (writeBy ch 0x5020 5 (mcacheValue 1 b) s)

/-- MCACHE_INVALIDATE (R373). -/
def execMcacheInvalidate (ch : Channel) (b : Bytes) (s : State) : Host.Outcome State Fault Refusal :=
  finish (writeBy ch 0x5020 5 (mcacheValue 2 b) s)

/-- MCACHE_CLEAN_INVALIDATE (R373). -/
def execMcacheCleanInvalidate (ch : Channel) (b : Bytes) (s : State) : Host.Outcome State Fault Refusal :=
  finish (writeBy ch 0x5020 5 (mcacheValue 3 b) s)

/-- SLC_CURVE_WRITE (R401, R418). -/
def execSlcCurveWrite (ch : Channel) (b : Bytes) (s : State) : Host.Outcome State Fault Refusal :=
  finish (writeBy ch 0x5802 3 b s)

/-! ### Energy store (R426 to R428, R439, R442) -/

/-- REST_NOW (R426). -/
def execRestNow (ch : Channel) (b : Bytes) (s : State) : Host.Outcome State Fault Refusal :=
  finish (writeBy ch 0x6002 5 b s)

/-- LEARN_START (R439): written, or automatic when LEARN_AUTO is 1 and LEARN_DUE set. -/
def execLearnStart (ch : Option Channel) (s : State) : Host.Outcome State Fault Refusal :=
  match ch with
  | some c => finish (writeBy c 0x6004 5 [1] s)
  | none => finish (if coreRuns s && cfgLearnAuto s == 1 && learnDue s then (learnControl 1 s).2 else s)

/-- LEARN_STOP (R442, R446). -/
def execLearnStop (ch : Channel) (s : State) : Host.Outcome State Fault Refusal := finish (writeBy ch 0x6004 5 [2] s)

/-- OCV_TABLE_WRITE (R427, R428). -/
def execOcvTableWrite (ch : Channel) (b : Bytes) (s : State) : Host.Outcome State Fault Refusal :=
  finish (writeBy ch 0x6006 1 b s)

/-- RES_TABLE_WRITE (R428). -/
def execResTableWrite (ch : Channel) (b : Bytes) (s : State) : Host.Outcome State Fault Refusal :=
  finish (writeBy ch 0x6006 2 b s)

/-! ### Locksmith (R452 to R477) -/

/-- KEY_LOAD (R452). -/
def execKeyLoad (ch : Channel) (b : Bytes) (s : State) : Host.Outcome State Fault Refusal :=
  finish (writeBy ch 0x6801 1 b s)

/-- KEY_DESTROY (R456). -/
def execKeyDestroy (ch : Channel) (b : Bytes) (s : State) : Host.Outcome State Fault Refusal :=
  finish (writeBy ch 0x6801 2 b s)

/-- KEY_EXPORT (R455): a read of KEY_EXPORT under the channel's KEY_EXPORT_SELECT. -/
def execKeyExport (ch : Channel) (s : State) : Host.Outcome State Fault Refusal := finish (readBy ch 0x6801 4 s)

/-- XGEN_ROLL (R464). -/
def execXgenRoll (ch : Channel) (b : Bytes) (s : State) : Host.Outcome State Fault Refusal :=
  finish (writeBy ch 0x6802 2 b s)

/-- LOCK_KAT_RUN (R469, R470), with the lanes and the engine that fail twice. -/
def execLockKatRun (ch : Channel) (b : Bytes) (lanes : List Nat) (engine : Bool) (s : State) :
    Host.Outcome State Fault Refusal :=
  finish (writeWith none (some (lanes, engine)) ch 0x6805 1 b s)

/-- ROLLBACK_COMMIT (R473). -/
def execRollbackCommit (ch : Channel) (b : Bytes) (s : State) : Host.Outcome State Fault Refusal :=
  finish (writeBy ch 0x6806 3 b s)

/-- FW_UPDATE_BEGIN (R473). -/
def execFwUpdateBegin (ch : Channel) (s : State) : Host.Outcome State Fault Refusal := finish (writeBy ch 0x6806 6 [1] s)

/-- FW_UPDATE_DATA (R473). -/
def execFwUpdateData (ch : Channel) (b : Bytes) (s : State) : Host.Outcome State Fault Refusal :=
  finish (writeBy ch 0x6806 7 b s)

/-- FW_UPDATE_VERIFY (R473). -/
def execFwUpdateVerify (ch : Channel) (s : State) : Host.Outcome State Fault Refusal := finish (writeBy ch 0x6806 6 [2] s)

/-- FW_UPDATE_CANCEL (R473). -/
def execFwUpdateCancel (ch : Channel) (s : State) : Host.Outcome State Fault Refusal := finish (writeBy ch 0x6806 6 [3] s)

/-- MR_EXTEND (R474). -/
def execMrExtend (ch : Channel) (b : Bytes) (s : State) : Host.Outcome State Fault Refusal :=
  finish (writeBy ch 0x6807 4 b s)

/-- QUOTE_NONCE (R477). -/
def execQuoteNonce (ch : Channel) (b : Bytes) (s : State) : Host.Outcome State Fault Refusal :=
  finish (writeBy ch 0x6807 2 b s)

/-! ### Sessions, paths and time (R493 to R497, R507, R510, R512) -/

/-- SESSION_CLOSE (R493). -/
def execSessionClose (ch : Channel) (b : Bytes) (s : State) : Host.Outcome State Fault Refusal :=
  finish (writeBy ch 0x1020 5 b s)

/-- CRED_LOAD (R496, R497). -/
def execCredLoad (ch : Channel) (b : Bytes) (s : State) : Host.Outcome State Fault Refusal :=
  finish (writeBy ch 0x1030 3 b s)

/-- CRED_DELETE (R494, R497). -/
def execCredDelete (ch : Channel) (b : Bytes) (s : State) : Host.Outcome State Fault Refusal :=
  finish (writeBy ch 0x1030 4 b s)

/-- PATH_SWITCH (R507). -/
def execPathSwitch (ch : Channel) (b : Bytes) (s : State) : Host.Outcome State Fault Refusal :=
  finish (writeBy ch 0x7004 3 b s)

/-- PATH_ENABLE_WRITE (R507). -/
def execPathEnableWrite (ch : Channel) (sub : Nat) (b : Bytes) (s : State) : Host.Outcome State Fault Refusal :=
  finish (writeBy ch 0x7002 sub b s)

/-- CLOCK_SET (R510). -/
def execClockSet (ch : Channel) (b : Bytes) (s : State) : Host.Outcome State Fault Refusal :=
  finish (writeBy ch 0x1010 2 b s)

/-- LOCATE_WRITE (R51, R512). -/
def execLocateWrite (ch : Channel) (b : Bytes) (s : State) : Host.Outcome State Fault Refusal :=
  finish (writeBy ch 0x7030 1 b s)

/-! ### Ledger and tests (R522, R530, R531, R537 to R544) -/

/-- FLUSH_NOW (R522). -/
def execFlushNow (ch : Channel) (b : Bytes) (s : State) : Host.Outcome State Fault Refusal :=
  finish (writeBy ch 0x7801 2 b s)

/-- LEDGER_CLEAR (R531). -/
def execLedgerClear (ch : Channel) (b : Bytes) (s : State) : Host.Outcome State Fault Refusal :=
  finish (writeBy ch 0x7804 1 b s)

/-- LEDGER_READ (R530), from the channel's LEDGER_SELECT. -/
def execLedgerRead (ch : Channel) (s : State) : Host.Outcome State Fault Refusal := finish (readBy ch 0x7802 2 s)

/-- MAINT_ENTER (R537): TEST_MAINT_SET with 1. -/
def execMaintEnter (ch : Channel) (i : Nat) (s : State) : Host.Outcome State Fault Refusal :=
  finish (writeBy ch 0x7C00 1 (leBytes 1 i ++ [1]) s)

/-- MAINT_LEAVE (R539): TEST_MAINT_SET with 0. -/
def execMaintLeave (ch : Channel) (i : Nat) (s : State) : Host.Outcome State Fault Refusal :=
  finish (writeBy ch 0x7C00 1 (leBytes 1 i ++ [0]) s)

/-- TEST_REQUEST (R540 to R542). -/
def execTestRequest (ch : Channel) (b : Bytes) (s : State) : Host.Outcome State Fault Refusal :=
  finish (writeBy ch 0x7C01 1 b s)

/-- TEST_STOP (R544). -/
def execTestStop (ch : Channel) (b : Bytes) (s : State) : Host.Outcome State Fault Refusal :=
  finish (writeBy ch 0x7C01 2 b s)

end Sys2Proof.Machine
end

