-- ==== Sys2Proof/Machine/Sessions.lean ====
section
/-! DEFINITION. RXMP messages, sessions and the BAR2 mailbox (R484 to R503), and register writes that reach it. A message
comes over the network, or from the mailbox of a port; fields are big-endian in the first case and little-endian in the
second. -/

namespace Sys2Proof.Machine

/-! ### Layouts (R484 to R487) -/

/-- Is a message from the network, and so big-endian? -/
def fromNet (port : Option PortId) : Bool := port.isNone

/-- A field of a message. -/
def msgField (big : Bool) (m : Bytes) (off n : Nat) : Nat := takeNum big (slice m off n)

/-- SESSION of a message. -/
def msgSession (big : Bool) (m : Bytes) : Nat := msgField big m 8 4

/-- SEQ of a message. -/
def msgSeq (big : Bool) (m : Bytes) : Nat := msgField big m 16 8

/-- MTYPE of a message. -/
def msgType (m : Bytes) : Nat := field m 5 1

/-- BODY of a message. -/
def msgBody (m : Bytes) : Bytes := (m.take (m.length - 32)).drop 24

/-- Is a message malformed (R484)? -/
def malformed (big : Bool) (m : Bytes) : Bool :=
  let n := msgField big m 6 2
  let t := msgType m
  let body := (msgBody m).length
  n != m.length || decide (n < 56) || decide (12288 < n) || n % 4 != 0 || msgField big m 0 4 != 0x52584D50 ||
    field m 4 1 != 1 ||
    !((t == 1 && body == 72) || (t == 3 && body == 64) || t == 5 || (t == 7 && body == 0))

/-- A message before its MAC. -/
def msgHead (big : Bool) (mtype session status nops seq : Nat) (body : Bytes) : Bytes :=
  putNum big 4 0x52584D50 ++ [1] ++ leBytes 1 mtype ++ putNum big 2 (body.length + 56) ++ putNum big 4 session ++
    putNum big 2 status ++ putNum big 2 nops ++ putNum big 8 seq ++ body

/-- The MAC of a message's bytes under MAK (R484). -/
def macOf (mak head : Bytes) : Bytes := fit 32 (Config.hmac512 mak head)

/-- A message with a zero MAC. -/
def plainMsg (big : Bool) (mtype session status nops seq : Nat) (body : Bytes) : Bytes :=
  msgHead big mtype session status nops seq body ++ zeros 32

/-- A message with its MAC. -/
def sealedMsg (big : Bool) (mak : Bytes) (mtype session status nops seq : Nat) (body : Bytes) : Bytes :=
  let h := msgHead big mtype session status nops seq body
  h ++ macOf mak h

/-- Is the MAC of a message right (R484)? -/
def macOk (mak m : Bytes) : Bool := macOf mak (m.take (m.length - 32)) == m.drop (m.length - 32)

/-- A REJECT that copies SESSION and SEQ (R491, R501); it is counted. -/
def rejectMsg (big : Bool) (st session seq : Nat) (s : State) : Option Bytes × State :=
  (some (plainMsg big 8 session st 0 seq []), modSess (fun e => { e with rejected := e.rejected + 1 }) s)

/-! ### Opening a session (R489 to R492) -/

/-- A session number that no session holds or awaits. -/
def freeSession (s : State) : Nat :=
  let used := s.sess.sessions.map (fun x => x.id) ++ s.sess.pending.map (fun x => x.id)
  (((List.range 128).map (fun i => (s.sess.nextId + i - 1) % 0xFFFFFFFF + 1)).find? (fun n => !decide (n ∈ used))).getD
    s.sess.nextId

/-- OPENs from a source address within the last second (R492). -/
def recentOpens (s : State) (source : Bytes) : Nat :=
  (s.sess.opens.filter (fun o => o.1 == source && decide (s.clk.uptime < o.2 + secNs))).length

/-- Is a further OPEN from an address dropped (R492)? -/
def flooded (s : State) (source : Bytes) : Bool := decide (16 ≤ recentOpens s source)

/-- RXMP sessions that are open. -/
def rxmpOpen (s : State) : Nat := (s.sess.sessions.filter (fun x => x.port.isNone)).length

/-- The credential of a NAME. -/
def credNamed (s : State) (name : Bytes) : Option Cred := s.sess.creds.find? (fun c => c.name == name)

/-- SALT of the decoy for a NAME (R491). -/
def decoySalt (name : Bytes) : Bytes :=
  fit 16 (Config.hmac512 (kdf Config.deviceKey "YE-DECOY" (fit 12 Config.serial) 256) name)

/-- KIND, ITER and SALT of a CHALLENGE: the credential's, or the decoy's (R489, R491). -/
def challengeTail (big : Bool) (s : State) (name : Bytes) : Bytes :=
  match credNamed s name with
  | some c => leBytes 1 c.kind ++ zeros 3 ++ putNum big 4 c.iter ++ fit 16 c.salt
  | none => [2, 0, 0, 0] ++ putNum big 4 (cfgDecoyIter s) ++ decoySalt name

/-- The session or pending session that a mailbox holds goes when an OPEN replaces it (R501). -/
def replaceSession (port : Option PortId) (s : State) : State :=
  match port with
  | none => s
  | some p =>
    let ids := (s.sess.sessions.filter (fun x => x.port == some p)).map (fun x => x.id)
    modSess (fun e => { e with pending := e.pending.filter (fun x => x.port != some p) })
      (ids.foldl (fun s id => endSession id s) s)

/-- An OPEN that is answered by a CHALLENGE (R489). -/
def challenge (port : Option PortId) (source m : Bytes) (s : State) : Option Bytes × State :=
  let big := fromNet port
  let b := msgBody m
  let s := replaceSession port s
  let id := freeSession s
  let nonce := drbgBytes 32 s
  let s := nonce.2
  let name := slice b 0 32
  let x : PendingSession := { id := id, port := port, source := source, name := name, role := field b 32 1,
                              cnonce := slice b 40 32, snonce := nonce.1, slot := (credNamed s name).map (fun c => c.slot) }
  (some (plainMsg big 2 id 0 0 0 (nonce.1 ++ challengeTail big s name)),
   modSess (fun e => { e with pending := e.pending ++ [x], nextId := id % 0xFFFFFFFF + 1 }) s)

/-- OPEN (R489, R491, R492). An OPEN of the network counts for its source address. -/
def handleOpen (port : Option PortId) (source m : Bytes) (s : State) : Option Bytes × State :=
  let big := fromNet port
  if port.isNone && flooded s source then
    (none, modSess (fun e => { e with openDropped := e.openDropped + 1 }) s)
  else
    let s := if port.isNone then
        modSess (fun e => { e with
          opens := e.opens.filter (fun o => decide (s.clk.uptime < o.2 + secNs)) ++ [(source, s.clk.uptime)] }) s
      else s
    if (port.isNone ∧ 32 ≤ rxmpOpen s) ∨ 64 ≤ s.sess.pending.length then
      rejectMsg big stBusy (msgSession big m) (msgSeq big m) s
    else challenge port source m s

/-- What a PROOF is computed over (R489). -/
def proofText (big : Bool) (label : String) (x : PendingSession) : Bytes :=
  ascii label ++ x.cnonce ++ x.snonce ++ putNum big 4 x.id ++ leBytes 1 x.role ++ x.name

/-- S, the session secret (R490). -/
def sessionSecret (k : Bytes) (x : PendingSession) : Bytes :=
  kdf k "YE-RXMP-S" (x.cnonce ++ x.snonce ++ leBytes 4 x.id) 512

/-- The credential that a PROVE shows to be known: of the NAME, not locked out, of a role at least the one asked, and in
the recovery service of Custodian role only (R472, R490, R491). -/
def provenCred (big : Bool) (s : State) (x : PendingSession) (proof : Bytes) : Option Cred :=
  (credNamed s x.name).filter (fun c =>
    !decide (x.name ∈ s.sess.locked) && decide (x.role ≤ c.role) && (!s.lock.recovery || x.role == 2) &&
      fit 64 (Config.hmac512 c.k (proofText big "YE-RXMP-C" x)) == proof)

/-- A failed PROVE is counted and recorded; the fifth within 60 s locks the NAME (R492). -/
def failProve (port : Option PortId) (x : PendingSession) (s : State) : State :=
  let kept := s.sess.fails.filter (fun f => decide (s.clk.uptime < f.2 + 60 * secNs))
  let mine := (kept.filter (fun f => f.1 == x.name)).length + 1
  let lock := decide (5 ≤ mine)
  let s := modSess (fun e => { e with
    authFailures := e.authFailures + 1
    fails := if lock then kept.filter (fun f => f.1 != x.name) else kept ++ [(x.name, s.clk.uptime)]
    locked := if lock && !decide (x.name ∈ e.locked) then e.locked ++ [x.name] else e.locked }) s
  event 0xA904 0 0 (fit 32 x.name ++ fit 16 (if port.isNone then x.source else []) ++
    leBytes 1 ((port.map (fun p => p.val + 1)).getD 0)) s

/-- A session begins, and ACCEPT goes out (R489, R490). -/
def acceptSession (port : Option PortId) (x : PendingSession) (c : Cred) (s : State) : Option Bytes × State :=
  let big := fromNet port
  let secret := sessionSecret c.k x
  let mak := kdf secret "YE-MAC" (leBytes 4 x.id) 256
  let n : Session := { id := x.id, port := port, role := x.role, slot := c.slot, setup := c.setup, opened := s.clk.now,
                       last := 0, cached := none, mak := mak, swk := kdf secret "YE-SWK" (leBytes 4 x.id) 256 }
  let s := modSess (fun e => { e with
    sessions := e.sessions ++ [n]
    creds := e.creds.map (fun y => if y.slot = c.slot then { y with lastUsed := s.clk.now } else y) }) s
  let s := match port with
    | some p => modPort p (fun q => { q with mailbox := { q.mailbox with session := some x.id } }) s
    | none => s
  (some (sealedMsg big mak 4 x.id 0 0 0
     (fit 64 (Config.hmac512 c.k (proofText big "YE-RXMP-M" x)) ++ putNum big 4 (cfgSessionLifetime s) ++ zeros 4)), s)

/-- PROVE (R489 to R492). -/
def handleProve (port : Option PortId) (m : Bytes) (s : State) : Option Bytes × State :=
  let big := fromNet port
  let id := msgSession big m
  let seq := msgSeq big m
  match s.sess.pending.find? (fun x => x.id == id && x.port == port) with
  | none => rejectMsg big stExpired id seq s
  | some x =>
    let s := modSess (fun e => { e with pending := e.pending.filter (fun y => y.id != id) }) s
    match provenCred big s x (msgBody m) with
    | none => rejectMsg big stAuthFailed id seq (failProve port x s)
    | some c =>
      if port.isNone ∧ 32 ≤ rxmpOpen s then rejectMsg big stBusy id seq s else acceptSession port x c s

/-! ### Requests (R486, R488, R495) -/

/-- An operation of a REQUEST (R486): OP, SUB, INDEX and the value. -/
abbrev MsgOp := Nat × Nat × Nat × Bytes

/-- The `n` operations of a body, if they end exactly at its end (R486, R488). -/
def parseOps (big : Bool) : Nat → Bytes → Option (List MsgOp)
  | 0, b => if b.isEmpty then some [] else none
  | n + 1, b =>
    let v := takeNum big (slice b 4 2)
    if b.length < 8 + roundUp v 4 then none
    else (parseOps big n (b.drop (8 + roundUp v 4))).map
      (fun l => (field b 0 1, field b 1 1, takeNum big (slice b 2 2), slice b 8 v) :: l)

/-- The largest VALUE of a result (R488). -/
def maxResult (o : MsgOp) : Nat :=
  if o.1 = 3 then 4
  else if o.1 = 1 then ((defRow o.2.2.1 o.2.1).map (fun r => r.len)).getD 0
  else 0

/-- The size of a REPLY with the largest values (R488). -/
def replySize (ops : List MsgOp) : Nat := 56 + sumNat (ops.map (fun o => 8 + roundUp (maxResult o) 4))

/-- A result (R486). -/
def resultBytes (big : Bool) (o : MsgOp) (r : OpResult) : Bytes :=
  leBytes 1 o.1 ++ leBytes 1 o.2.1 ++ putNum big 2 o.2.2.1 ++ putNum big 2 r.2.length ++ putNum big 2 r.1 ++
    fit (roundUp r.2.length 4) r.2

/-- The operations run in order, each by itself (R480, R486). -/
def runOps (ch : Channel) (who : Option Session) : List MsgOp → State → Bytes × State
  | [], s => ([], s)
  | o :: t, s =>
    let x := dictOp ch who o.1 o.2.2.1 o.2.1 o.2.2.2 s
    let y := runOps ch who t x.2
    (resultBytes (bigEnd ch) o x.1 ++ y.1, y.2)

/-- A REQUEST is executed: STATUS, the number of results and the results of its REPLY (R488). -/
def runRequest (ch : Channel) (who : Option Session) (m : Bytes) (s : State) : (Nat × Nat × Bytes) × State :=
  let big := bigEnd ch
  let n := msgField big m 14 2
  if n = 0 ∨ 32 < n then ((stInvalidField, 0, []), s)
  else match parseOps big n (msgBody m) with
  | none => ((stInvalidField, 0, []), s)
  | some ops =>
    if 12288 < replySize ops then ((stTooLarge, 0, []), s)
    else
      let x := runOps ch who ops s
      ((stSuccess, n, x.1), x.2)

/-- A session takes a SEQ and keeps its reply (R495). -/
def keepReply (id seq : Nat) (reply : Bytes) : State → State :=
  modSess (fun e => { e with
    sessions := e.sessions.map (fun x => if x.id = id then { x with last := seq, cached := some reply } else x) })

/-- The session that a message names on its transport (R495, R501). -/
def namedSession (port : Option PortId) (s : State) (id : Nat) : Option Session :=
  s.sess.sessions.find? (fun x => x.id == id && x.port == port)

/-- The channel of a session's messages. -/
def sessionChannel (port : Option PortId) (id : Nat) : Channel :=
  match port with
  | some p => .mailbox p
  | none => .rxmp id

/-- A wrong MAC is counted; the network drops the message, a mailbox answers MAC_INVALID (R495, R501). -/
def badMac (port : Option PortId) (id seq : Nat) (s : State) : Option Bytes × State :=
  let s := modSess (fun e => { e with macInvalid := e.macInvalid + 1 }) s
  if port.isNone then (none, s) else rejectMsg false stMacInvalid id seq s

/-- A REQUEST or CLOSE of a session with a right MAC is handled by its SEQ (R495). -/
def bySeq (port : Option PortId) (x : Session) (m : Bytes) (go : State → Option Bytes × State) (s : State) :
    Option Bytes × State :=
  let big := fromNet port
  let seq := msgSeq big m
  if seq = x.last + 1 then go s
  else if seq = x.last ∧ x.cached.isSome = true then (x.cached, s)
  else (some (sealedMsg big x.mak 6 x.id stSequence 0 seq []), s)

/-- A message of an open session: the session, the MAC and then the SEQ decide (R491, R495, R501). -/
def inSession (port : Option PortId) (m : Bytes) (go : Session → State → Option Bytes × State) (s : State) :
    Option Bytes × State :=
  let big := fromNet port
  let id := msgSession big m
  match namedSession port s id with
  | none => rejectMsg big stExpired id (msgSeq big m) s
  | some x => if macOk x.mak m then bySeq port x m (go x) s else badMac port id (msgSeq big m) s

/-- An anonymous REQUEST of a mailbox (R502). -/
def handleAnonymous (p : PortId) (m : Bytes) (s : State) : Option Bytes × State :=
  if cfgMbAnonRead s p.val = 1 then
    let x := runRequest (.anonymous p) none m s
    (some (plainMsg false 6 0 x.1.1 x.1.2.1 (msgSeq false m) x.1.2.2), x.2)
  else rejectMsg false stAccessDenied 0 (msgSeq false m) s

/-- Is a mailbox message a REQUEST with SESSION 0 (R502)? -/
def sessionless (port : Option PortId) (m : Bytes) : Bool := port.isSome && msgSession false m == 0

/-- REQUEST (R495, R502). With SESSION 0 a mailbox request is anonymous, and its MAC must be zero. -/
def handleRequest (port : Option PortId) (m : Bytes) (s : State) : Option Bytes × State :=
  match port, sessionless port m with
  | some p, true =>
    if allZero (m.drop (m.length - 32)) then handleAnonymous p m s else badMac port 0 (msgSeq false m) s
  | _, _ =>
    inSession port m (fun x s =>
      let big := fromNet port
      let r := runRequest (sessionChannel port x.id) (some x) m s
      let reply := sealedMsg big x.mak 6 x.id r.1.1 r.1.2.1 (msgSeq big m) r.1.2.2
      (some reply, keepReply x.id (msgSeq big m) reply r.2)) s

/-- CLOSE (R493, R495): the REPLY first, then the session's keys go. -/
def handleClose (port : Option PortId) (m : Bytes) (s : State) : Option Bytes × State :=
  inSession port m (fun x s =>
    let big := fromNet port
    (some (sealedMsg big x.mak 6 x.id stSuccess 0 (msgSeq big m) []), endSession x.id s)) s

/-- A message is handled: the reply, if one is sent, and the state (R484 to R502). -/
def handleMsg (port : Option PortId) (source m : Bytes) (s : State) : Option Bytes × State :=
  let big := fromNet port
  if malformed big m then
    if port.isNone then (none, s) else rejectMsg big stInvalidField (msgSession big m) (msgSeq big m) s
  else if msgType m = 1 then handleOpen port source m s
  else if msgType m = 3 then handleProve port m s
  else if msgType m = 5 then handleRequest port m s
  else handleClose port m s

/-! ### The network (R484, R504) -/

/-- Does a frame reach core 0: a path is ACTIVE and core 0 answers (R63, R504, R505)? -/
def netUp (s : State) : Bool := dictRuns s && (s.paths.path s.paths.right).state == .active

/-- A reply goes out on the active path. -/
def sendNet (x : Option Bytes × State) : State :=
  match x.1 with
  | some b => modSess (fun e => { e with net := e.net ++ [b] }) x.2
  | none => x.2

/-! ### The mailbox (R498 to R503) -/

/-- The state with a port's mailbox changed. -/
def modMailbox (p : PortId) (f : Mailbox → Mailbox) : State → State :=
  modPort p (fun q => { q with mailbox := f q.mailbox })

/-- The message in MB_REQUEST: as many bytes as its LENGTH says, within the 12 KiB. -/
def mailboxMessage (b : Mailbox) : Bytes :=
  let byte (i : Nat) : Byte := Tab.atD b.request i 0
  let n := (byte 6).toNat + 256 * (byte 7).toNat
  (List.range (min 12288 (max 56 n))).map byte

/-- The mailbox enters DONE with a response (R499, R501). -/
def mailboxDone (p : PortId) (r : Bytes) : State → State :=
  modMailbox p (fun b => { b with
    busy := false, done := true, doneCount := (b.doneCount + 1) % 65536, response := r, reply := [] })

/-- What hardware answers during a management restart (R501). -/
def restartReply (m : Bytes) : Bytes := plainMsg false 6 (msgSession false m) stBusy 0 (msgSeq false m) []

/-- A GO (R499 to R501): ignored while BUSY, with OVERRUN set. The request runs at once; its response stands in MB_RESPONSE
when the row MB_RESPONSE_DONE writes it. -/
def mailboxGo (p : PortId) (s : State) : State :=
  let b := (s.ports.get p).mailbox
  if b.busy then modMailbox p (fun b => { b with overrun := true }) s
  else
    let m := mailboxMessage b
    let s := modMailbox p (fun b => { b with overrun := false }) s
    if s.pw.mgmtRestarting then mailboxDone p (restartReply m) s
    else
      let s := modMailbox p (fun b => { b with busy := true, done := false, discard := false }) s
      let x := handleMsg (some p) [] m s
      modMailbox p (fun b => { b with reply := x.1.getD [] }) x.2

/-- A host puts a message into MB_REQUEST and writes GO. -/
def mailboxSubmit (p : PortId) (m : Bytes) (s : State) : State :=
  if (s.ports.get p).mailbox.busy then mailboxGo p s
  else mailboxGo p (modMailbox p (fun b => { b with
    request := ((List.range 12288).zip (m ++ zeros (56 - m.length))) }) s)

/-- May a host reach the mailbox: a BAR access is answered, outside STANDBY and OFF (R59, R501)? -/
def mailboxUp (s : State) (p : PortId) : Bool :=
  barOpen s p && s.pw.state != .standby && s.pw.state != .off

/-- A message of a type arrives, over the network or in a mailbox. -/
def messageArrives (t : Nat) (port : Option PortId) (source m : Bytes) (s : State) : State :=
  if msgType m != t || malformed (fromNet port) m then s
  else
    match port with
    | none => if netUp s then sendNet (handleMsg none source m s) else s
    | some p => if mailboxUp s p then mailboxSubmit p m s else s

/-- OPEN (R489, R491, R492). -/
def execOpenMsg (port : Option PortId) (source m : Bytes) (s : State) : Host.Outcome State Fault Refusal :=
  finish (messageArrives 1 port source m s)

/-- PROVE (R489 to R492). -/
def execProveMsg (port : Option PortId) (source m : Bytes) (s : State) : Host.Outcome State Fault Refusal :=
  finish (messageArrives 3 port source m s)

/-- REQUEST (R486, R488, R495). -/
def execRequest (port : Option PortId) (m : Bytes) (s : State) : Host.Outcome State Fault Refusal :=
  finish (messageArrives 5 port [] m s)

/-- CLOSE (R493, R495). -/
def execCloseMsg (port : Option PortId) (m : Bytes) (s : State) : Host.Outcome State Fault Refusal :=
  finish (messageArrives 7 port [] m s)

/-- MALFORMED_MESSAGE (R484): dropped on the network without a reply. -/
def execMalformedMessage (m : Bytes) (s : State) : Host.Outcome State Fault Refusal :=
  finish (if netUp s && malformed true m then sendNet (handleMsg none [] m s) else s)

/-- Does a message of the network carry a wrong MAC of an open session (R495)? -/
def macWrong (s : State) (m : Bytes) : Bool :=
  !malformed true m && (msgType m == 5 || msgType m == 7) &&
    (match namedSession none s (msgSession true m) with
      | some x => !macOk x.mak m
      | none => false)

/-- MAC_INVALID_DROP (R495): counted and dropped. -/
def execMacInvalidDrop (m : Bytes) (s : State) : Host.Outcome State Fault Refusal :=
  finish (if netUp s && macWrong s m then sendNet (handleMsg none [] m s) else s)

/-- OPEN_FLOOD_DROP (R492): an OPEN beyond 16 within a second from one address is dropped and counted. -/
def execOpenFloodDrop (source : Bytes) (s : State) : Host.Outcome State Fault Refusal :=
  finish (if netUp s && flooded s source then modSess (fun e => { e with openDropped := e.openDropped + 1 }) s else s)

/-! ### Ends and expiries (R491 to R493) -/

/-- SESSION_LIFETIME_EXPIRY (R493). -/
def execSessionLifetimeExpiry (id : Nat) (s : State) : Host.Outcome State Fault Refusal := finish (endSession id s)

/-- SESSION_IDLE_EXPIRY (R493). -/
def execSessionIdleExpiry (id : Nat) (s : State) : Host.Outcome State Fault Refusal := finish (endSession id s)

/-- CHALLENGE_EXPIRY (R491): the pending session lapses. -/
def execChallengeExpiry (id : Nat) (s : State) : Host.Outcome State Fault Refusal :=
  finish (modSess (fun e => { e with pending := e.pending.filter (fun x => x.id != id) }) s)

/-- NAME_LOCKOUT_EXPIRY (R492). -/
def execNameLockoutExpiry (name : Bytes) (s : State) : Host.Outcome State Fault Refusal :=
  finish (modSess (fun e => { e with locked := e.locked.filter (fun n => n != fit 32 name) }) s)

/-! ### Mailbox commands -/

/-- MB_GO (R500, R501). -/
def execMbGo (p : PortId) (v : BitVec 32) (s : State) : Host.Outcome State Fault Refusal :=
  finish (if mailboxUp s p && bit v.toNat 0 then mailboxGo p s else s)

/-- The response of a busy mailbox is written; after a port reset it is discarded and the mailbox returns to IDLE (R501,
R503). During a management restart hardware answers BUSY. -/
def respond (p : PortId) (s : State) : State :=
  let b := (s.ports.get p).mailbox
  if b.busy then
    if b.discard then modMailbox p (fun _ => Mailbox.reset) s
    else if s.pw.mgmtRestarting then mailboxDone p (restartReply (mailboxMessage b)) s
    else mailboxDone p b.reply s
  else s

/-- MB_RESPONSE_DONE (R501). -/
def execMbResponseDone (p : PortId) (s : State) : Host.Outcome State Fault Refusal := finish (respond p s)

/-- MB_ANON_REQUEST (R502). -/
def execMbAnonRequest (p : PortId) (m : Bytes) (s : State) : Host.Outcome State Fault Refusal :=
  finish (if mailboxUp s p && msgType m == 5 && msgSession false m == 0 && !malformed false m &&
      allZero (m.drop (m.length - 32)) then mailboxSubmit p m s else s)

/-- MB_PORT_RESET (R503): the request of a mailbox whose port was reset has run; its response is discarded. -/
def execMbPortReset (p : PortId) (s : State) : Host.Outcome State Fault Refusal :=
  finish (if (s.ports.get p).mailbox.discard then respond p s else s)

/-! ### Register writes (R15, R82 to R84) -/

/-- A 4-byte write to BAR2 (R498): MB_GO, or a part of MB_REQUEST; other offsets ignore it (R84). -/
def writeBar2 (p : PortId) (off v : Nat) (s : State) : State :=
  if off = 8 then (if bit v 0 then mailboxGo p s else s)
  else if 0x1000 ≤ off ∧ off < 0x4000 then
    modMailbox p (fun b => { b with
      request := ((List.range 4).zip (leBytes 4 v)).foldl (fun t e => Tab.put (off - 0x1000 + e.1) e.2 t) b.request }) s
  else s

/-- A 4-byte write to a BAR. -/
def writeBar (p : PortId) (bar off v : Nat) (s : State) : State :=
  if bar = 0 then writeBar0 p off v s
  else if bar = 2 ∧ mailboxUp s p then writeBar2 p off v s
  else s

/-- REGISTER_WRITE (R15, R82): a naturally aligned access of 4 or 8 bytes, the second as its two halves, lower first. -/
def execRegisterWrite (p : PortId) (bar off size : Nat) (v : BitVec 64) (s : State) : Host.Outcome State Fault Refusal :=
  if barOpen s p && (size == 4 || size == 8) && off % size == 0 then
    let s := writeBar p bar off (v.toNat % 2 ^ 32) s
    finish (if size = 8 then writeBar p bar (off + 4) (v.toNat / 2 ^ 32) s else s)
  else finish s

end Sys2Proof.Machine
end

