-- ==== Sys2Proof/Machine/Dispatch.lean ====
section
/-! DEFINITION. What each command does: one arm for each row of spec/opcode_table.json, each a direct call of that
command's meaning. -/

namespace Sys2Proof.Machine

def exec (i : Instr) (s : State) : Host.Outcome State Fault Refusal :=
  match i with
  | .p12vTrip => Sys2Proof.Machine.execP12vTrip s
  | .p12vRise => Sys2Proof.Machine.execP12vRise s
  | .standbyRailPowerUp smbAddr pathHold pathSel => Sys2Proof.Machine.execStandbyRailPowerUp smbAddr pathHold pathSel s
  | .modResetNAssert => Sys2Proof.Machine.execModResetNAssert s
  | .modResetNRelease => Sys2Proof.Machine.execModResetNRelease s
  | .pathHoldChange hold sel => Sys2Proof.Machine.execPathHoldChange hold sel s
  | .locateNChange level => Sys2Proof.Machine.execLocateNChange level s
  | .smbStatus => Sys2Proof.Machine.execSmbStatus s
  | .smbTempInlet => Sys2Proof.Machine.execSmbTempInlet s
  | .smbTempMax => Sys2Proof.Machine.execSmbTempMax s
  | .smbPowerIn => Sys2Proof.Machine.execSmbPowerIn s
  | .smbPackMv => Sys2Proof.Machine.execSmbPackMv s
  | .smbIdent => Sys2Proof.Machine.execSmbIdent s
  | .smbAlertResponse => Sys2Proof.Machine.execSmbAlertResponse s
  | .smbBadPec code => Sys2Proof.Machine.execSmbBadPec code s
  | .thermalThrottle sensor reading => Sys2Proof.Machine.execThermalThrottle sensor reading s
  | .thermalCritical sensor reading => Sys2Proof.Machine.execThermalCritical sensor reading s
  | .thermalTrip sensor reading => Sys2Proof.Machine.execThermalTrip sensor reading s
  | .thermalWithdraw sensor reading => Sys2Proof.Machine.execThermalWithdraw sensor reading s
  | .inletLimit reading => Sys2Proof.Machine.execInletLimit reading s
  | .pllLockLossShort => Sys2Proof.Machine.execPllLockLossShort s
  | .clockFault oscillatorStopped => Sys2Proof.Machine.execClockFault oscillatorStopped s
  | .dumpEnd => Sys2Proof.Machine.execDumpEnd s
  | .autoRestart => Sys2Proof.Machine.execAutoRestart s
  | .startUp inputs => Sys2Proof.Machine.execStartUp inputs s
  | .restoreRound slots => Sys2Proof.Machine.execRestoreRound slots s
  | .driveWaitExpiry => Sys2Proof.Machine.execDriveWaitExpiry s
  | .moduleReset channel => Sys2Proof.Machine.execModuleReset channel s
  | .mgmtRestart channel => Sys2Proof.Machine.execMgmtRestart channel s
  | .moduleStandby channel => Sys2Proof.Machine.execModuleStandby channel s
  | .moduleStart channel => Sys2Proof.Machine.execModuleStart channel s
  | .mgmtRestartDone => Sys2Proof.Machine.execMgmtRestartDone s
  | .mgmtWatchdogExpiry => Sys2Proof.Machine.execMgmtWatchdogExpiry s
  | .serviceSetLoss part => Sys2Proof.Machine.execServiceSetLoss part s
  | .hostLinkUp port rate width flit cables => Sys2Proof.Machine.execHostLinkUp port rate width flit cables s
  | .surpriseLinkDown port => Sys2Proof.Machine.execSurpriseLinkDown port s
  | .hotInsert port rate width link => Sys2Proof.Machine.execHotInsert port rate width link s
  | .perstNAssert port => Sys2Proof.Machine.execPerstNAssert port s
  | .hotReset port linkDown => Sys2Proof.Machine.execHotReset port linkDown s
  | .flr port => Sys2Proof.Machine.execFlr port s
  | .busMasterClear port => Sys2Proof.Machine.execBusMasterClear port s
  | .busMasterSet port => Sys2Proof.Machine.execBusMasterSet port s
  | .d3hotEntry port => Sys2Proof.Machine.execD3hotEntry port s
  | .d3hotExit port => Sys2Proof.Machine.execD3hotExit port s
  | .poisonedTlp port completionTag => Sys2Proof.Machine.execPoisonedTlp port completionTag s
  | .malformedTlp port ecrc => Sys2Proof.Machine.execMalformedTlp port ecrc s
  | .completionTimeout port tag => Sys2Proof.Machine.execCompletionTimeout port tag s
  | .unexpectedCompletion port tag => Sys2Proof.Machine.execUnexpectedCompletion port tag s
  | .hostReadCompletion port tag data => Sys2Proof.Machine.execHostReadCompletion port tag data s
  | .tagWithholdExpiry port tag => Sys2Proof.Machine.execTagWithholdExpiry port tag s
  | .portRelease source => Sys2Proof.Machine.execPortRelease source s
  | .releaseComplete port => Sys2Proof.Machine.execReleaseComplete port s
  | .portCauseClear source value => Sys2Proof.Machine.execPortCauseClear source value s
  | .intPendingClear port index value => Sys2Proof.Machine.execIntPendingClear port index value s
  | .barBadAccess port place size write => Sys2Proof.Machine.execBarBadAccess port place size write s
  | .msixUnmask port vector => Sys2Proof.Machine.execMsixUnmask port vector s
  | .coalesceTimerExpiry port ring => Sys2Proof.Machine.execCoalesceTimerExpiry port ring s
  | .registerWrite port bar offset size value => Sys2Proof.Machine.execRegisterWrite port bar offset size value s
  | .ringCreate port ring => Sys2Proof.Machine.execRingCreate port ring s
  | .ringReset port ring => Sys2Proof.Machine.execRingReset port ring s
  | .ringResetDiscard port ring => Sys2Proof.Machine.execRingResetDiscard port ring s
  | .ringDelete port ring => Sys2Proof.Machine.execRingDelete port ring s
  | .ringDb port ring value => Sys2Proof.Machine.execRingDb port ring value s
  | .pushWrite port ring offset data => Sys2Proof.Machine.execPushWrite port ring offset data s
  | .entryAccept port ring => Sys2Proof.Machine.execEntryAccept port ring s
  | .phaseRefetch port ring entry => Sys2Proof.Machine.execPhaseRefetch port ring entry s
  | .ringFetchRetry port ring => Sys2Proof.Machine.execRingFetchRetry port ring s
  | .acceptResume port => Sys2Proof.Machine.execAcceptResume port s
  | .noticeDeliver port => Sys2Proof.Machine.execNoticeDeliver port s
  | .noticeRepeatExpiry port seq => Sys2Proof.Machine.execNoticeRepeatExpiry port seq s
  | .read port tag => Sys2Proof.Machine.execRead port tag s
  | .write port tag => Sys2Proof.Machine.execWrite port tag s
  | .atomicWrite port tag => Sys2Proof.Machine.execAtomicWrite port tag s
  | .flush port tag => Sys2Proof.Machine.execFlush port tag s
  | .discard port tag => Sys2Proof.Machine.execDiscard port tag s
  | .echo port tag => Sys2Proof.Machine.execEcho port tag s
  | .volumeQuery port tag => Sys2Proof.Machine.execVolumeQuery port tag s
  | .noticeAck port tag => Sys2Proof.Machine.execNoticeAck port tag s
  | .invalidOpcode port tag => Sys2Proof.Machine.execInvalidOpcode port tag s
  | .lockGrant port tag => Sys2Proof.Machine.execLockGrant port tag s
  | .lockTableFree => Sys2Proof.Machine.execLockTableFree s
  | .slotReserve port tag => Sys2Proof.Machine.execSlotReserve port tag s
  | .writeDataEnd port reqTag data => Sys2Proof.Machine.execWriteDataEnd port reqTag data s
  | .writeThroughCommit port tag => Sys2Proof.Machine.execWriteThroughCommit port tag s
  | .flushComplete port tag => Sys2Proof.Machine.execFlushComplete port tag s
  | .volCreate channel value => Sys2Proof.Machine.execVolCreate channel value s
  | .volGrow channel value => Sys2Proof.Machine.execVolGrow channel value s
  | .volDelete channel value => Sys2Proof.Machine.execVolDelete channel value s
  | .volVcflagsWrite channel value => Sys2Proof.Machine.execVolVcflagsWrite channel value s
  | .volClassWrite channel value => Sys2Proof.Machine.execVolClassWrite channel value s
  | .pageDestage volume page => Sys2Proof.Machine.execPageDestage volume page s
  | .faceBenchWrite volume extent => Sys2Proof.Machine.execFaceBenchWrite volume extent s
  | .faceHoldExpiry volume extent => Sys2Proof.Machine.execFaceHoldExpiry volume extent s
  | .logBenchWrite volume => Sys2Proof.Machine.execLogBenchWrite volume s
  | .logHoldExpiry volume => Sys2Proof.Machine.execLogHoldExpiry volume s
  | .benchOnMedia group bench => Sys2Proof.Machine.execBenchOnMedia group bench s
  | .memberReplace group member => Sys2Proof.Machine.execMemberReplace group member s
  | .mergeStart volume extent => Sys2Proof.Machine.execMergeStart volume extent s
  | .mergeDone volume extent benches => Sys2Proof.Machine.execMergeDone volume extent benches s
  | .mergeAbandon volume extent reason => Sys2Proof.Machine.execMergeAbandon volume extent reason s
  | .journalFlushExpiry => Sys2Proof.Machine.execJournalFlushExpiry s
  | .checkpoint first => Sys2Proof.Machine.execCheckpoint first s
  | .ckptIntervalExpiry => Sys2Proof.Machine.execCkptIntervalExpiry s
  | .ckptNow channel value => Sys2Proof.Machine.execCkptNow channel value s
  | .djSegmentSeal => Sys2Proof.Machine.execDjSegmentSeal s
  | .djFlushExpiry => Sys2Proof.Machine.execDjFlushExpiry s
  | .lossAck channel value => Sys2Proof.Machine.execLossAck channel value s
  | .importScan channel inputs => Sys2Proof.Machine.execImportScan channel inputs s
  | .importCommit channel => Sys2Proof.Machine.execImportCommit channel s
  | .importCancel channel => Sys2Proof.Machine.execImportCancel channel s
  | .discardLocal channel => Sys2Proof.Machine.execDiscardLocal channel s
  | .bgShareTick => Sys2Proof.Machine.execBgShareTick s
  | .driveWindowTick => Sys2Proof.Machine.execDriveWindowTick s
  | .fastLimitTick => Sys2Proof.Machine.execFastLimitTick s
  | .driveDispatch drive => Sys2Proof.Machine.execDriveDispatch drive s
  | .curveWrite channel sub value => Sys2Proof.Machine.execCurveWrite channel sub value s
  | .driveDomainWrite channel value => Sys2Proof.Machine.execDriveDomainWrite channel value s
  | .driveTierWrite channel value => Sys2Proof.Machine.execDriveTierWrite channel value s
  | .freeChunksLow => Sys2Proof.Machine.execFreeChunksLow s
  | .mapPageFetch mapPage => Sys2Proof.Machine.execMapPageFetch mapPage s
  | .mapFetchDone mapPage => Sys2Proof.Machine.execMapFetchDone mapPage s
  | .mapWriteBack mapPage => Sys2Proof.Machine.execMapWriteBack mapPage s
  | .tallyDecayEpoch => Sys2Proof.Machine.execTallyDecayEpoch s
  | .driveFailedQueue drive => Sys2Proof.Machine.execDriveFailedQueue drive s
  | .rebuildStart group => Sys2Proof.Machine.execRebuildStart group s
  | .rebuildBench group bench setts => Sys2Proof.Machine.execRebuildBench group bench setts s
  | .rebuildComplete group member => Sys2Proof.Machine.execRebuildComplete group member s
  | .relocationCopy group reads => Sys2Proof.Machine.execRelocationCopy group reads s
  | .staleMemberReturn group member => Sys2Proof.Machine.execStaleMemberReturn group member s
  | .benchReadDone group bench setts => Sys2Proof.Machine.execBenchReadDone group bench setts s
  | .mismatchReread group bench setts => Sys2Proof.Machine.execMismatchReread group bench setts s
  | .scrubGroup benches => Sys2Proof.Machine.execScrubGroup benches s
  | .errDecaySweep => Sys2Proof.Machine.execErrDecaySweep s
  | .katRun channel value verdict => Sys2Proof.Machine.execKatRun channel value verdict s
  | .katIntervalExpiry verdict => Sys2Proof.Machine.execKatIntervalExpiry verdict s
  | .katRepeat verdict => Sys2Proof.Machine.execKatRepeat verdict s
  | .groupCfgWrite channel sub value => Sys2Proof.Machine.execGroupCfgWrite channel sub value s
  | .groupLanesLost group => Sys2Proof.Machine.execGroupLanesLost group s
  | .driveFound info => Sys2Proof.Machine.execDriveFound info s
  | .driveGone drive => Sys2Proof.Machine.execDriveGone drive s
  | .broadcastChange group found lost => Sys2Proof.Machine.execBroadcastChange group found lost s
  | .switchPortChange group found lost => Sys2Proof.Machine.execSwitchPortChange group found lost s
  | .identifyRetry drive info => Sys2Proof.Machine.execIdentifyRetry drive info s
  | .driveAdopt channel drive => Sys2Proof.Machine.execDriveAdopt channel drive s
  | .adoptDone drive ok => Sys2Proof.Machine.execAdoptDone drive ok s
  | .driveRemove channel => Sys2Proof.Machine.execDriveRemove channel s
  | .driveCancelRemove channel => Sys2Proof.Machine.execDriveCancelRemove channel s
  | .driveFail channel => Sys2Proof.Machine.execDriveFail channel s
  | .evacuationDone drive => Sys2Proof.Machine.execEvacuationDone drive s
  | .driveLossWaitExpiry drive => Sys2Proof.Machine.execDriveLossWaitExpiry drive s
  | .recoveryTableWrite channel sub value => Sys2Proof.Machine.execRecoveryTableWrite channel sub value s
  | .driveCmdOk drive op => Sys2Proof.Machine.execDriveCmdOk drive op s
  | .driveCmdTimeout drive op => Sys2Proof.Machine.execDriveCmdTimeout drive op s
  | .driveReadMedia drive op => Sys2Proof.Machine.execDriveReadMedia drive op s
  | .driveWriteFail drive op => Sys2Proof.Machine.execDriveWriteFail drive op s
  | .driveTransport drive op => Sys2Proof.Machine.execDriveTransport drive op s
  | .driveRecovered drive op => Sys2Proof.Machine.execDriveRecovered drive op s
  | .driveLinkDown drive => Sys2Proof.Machine.execDriveLinkDown drive s
  | .driveLinkUp drive path => Sys2Proof.Machine.execDriveLinkUp drive path s
  | .driveResetDone drive => Sys2Proof.Machine.execDriveResetDone drive s
  | .driveResetFailed drive => Sys2Proof.Machine.execDriveResetFailed drive s
  | .recoveryTimerExpiry drive => Sys2Proof.Machine.execRecoveryTimerExpiry drive s
  | .healthCritical drive => Sys2Proof.Machine.execHealthCritical drive s
  | .countWindowExpiry drive row => Sys2Proof.Machine.execCountWindowExpiry drive row s
  | .driveCmdHardLimit drive op => Sys2Proof.Machine.execDriveCmdHardLimit drive op s
  | .driveLateCompletion drive op => Sys2Proof.Machine.execDriveLateCompletion drive op s
  | .healthPollExpiry reports => Sys2Proof.Machine.execHealthPollExpiry reports s
  | .driveAsyncReport report => Sys2Proof.Machine.execDriveAsyncReport report s
  | .eccCorrected stack count => Sys2Proof.Machine.execEccCorrected stack count s
  | .eccUncorrectable partition stack address => Sys2Proof.Machine.execEccUncorrectable partition stack address s
  | .cacheModeWrite channel value => Sys2Proof.Machine.execCacheModeWrite channel value s
  | .cacheModeChange => Sys2Proof.Machine.execCacheModeChange s
  | .mcacheFillDone line => Sys2Proof.Machine.execMcacheFillDone line s
  | .mcacheClean channel value => Sys2Proof.Machine.execMcacheClean channel value s
  | .mcacheInvalidate channel value => Sys2Proof.Machine.execMcacheInvalidate channel value s
  | .mcacheCleanInvalidate channel value => Sys2Proof.Machine.execMcacheCleanInvalidate channel value s
  | .dump inputs => Sys2Proof.Machine.execDump inputs s
  | .dumpRearm failedErase => Sys2Proof.Machine.execDumpRearm failedErase s
  | .armCheck failed failedErase => Sys2Proof.Machine.execArmCheck failed failedErase s
  | .storeWrite lpn => Sys2Proof.Machine.execStoreWrite lpn s
  | .logBlockCollect => Sys2Proof.Machine.execLogBlockCollect s
  | .fold => Sys2Proof.Machine.execFold s
  | .stripeVerify stripe failing => Sys2Proof.Machine.execStripeVerify stripe failing s
  | .mediaJournalFlush => Sys2Proof.Machine.execMediaJournalFlush s
  | .vaultRefresh verdicts => Sys2Proof.Machine.execVaultRefresh verdicts s
  | .vaultPageLost region lpn => Sys2Proof.Machine.execVaultPageLost region lpn s
  | .vaultOpFail set kind timeout => Sys2Proof.Machine.execVaultOpFail set kind timeout s
  | .slcCurveWrite channel value => Sys2Proof.Machine.execSlcCurveWrite channel value s
  | .vaultTempSample peak => Sys2Proof.Machine.execVaultTempSample peak s
  | .packSample sense => Sys2Proof.Machine.execPackSample sense s
  | .packInsert => Sys2Proof.Machine.execPackInsert s
  | .packRemove => Sys2Proof.Machine.execPackRemove s
  | .estimateUpdate => Sys2Proof.Machine.execEstimateUpdate s
  | .estimateStale => Sys2Proof.Machine.execEstimateStale s
  | .restWindowOpen => Sys2Proof.Machine.execRestWindowOpen s
  | .restNow channel value => Sys2Proof.Machine.execRestNow channel value s
  | .restWindowEnd => Sys2Proof.Machine.execRestWindowEnd s
  | .qualifyEnd => Sys2Proof.Machine.execQualifyEnd s
  | .cvHoldEnd => Sys2Proof.Machine.execCvHoldEnd s
  | .chargerFault cause => Sys2Proof.Machine.execChargerFault cause s
  | .learnStart channel => Sys2Proof.Machine.execLearnStart channel s
  | .learnStop channel => Sys2Proof.Machine.execLearnStop channel s
  | .learnDischargeBegin => Sys2Proof.Machine.execLearnDischargeBegin s
  | .learnDischargeEnd onVoltage => Sys2Proof.Machine.execLearnDischargeEnd onVoltage s
  | .learnResult => Sys2Proof.Machine.execLearnResult s
  | .learnAbandon => Sys2Proof.Machine.execLearnAbandon s
  | .nvSlotWrite => Sys2Proof.Machine.execNvSlotWrite s
  | .nvSlotPeriodExpiry => Sys2Proof.Machine.execNvSlotPeriodExpiry s
  | .estimatorStart => Sys2Proof.Machine.execEstimatorStart s
  | .ocvTableWrite channel value => Sys2Proof.Machine.execOcvTableWrite channel value s
  | .resTableWrite channel value => Sys2Proof.Machine.execResTableWrite channel value s
  | .keyLoad channel value => Sys2Proof.Machine.execKeyLoad channel value s
  | .keyDestroy channel value => Sys2Proof.Machine.execKeyDestroy channel value s
  | .keyExport channel => Sys2Proof.Machine.execKeyExport channel s
  | .xgenRoll channel value => Sys2Proof.Machine.execXgenRoll channel value s
  | .drbgHealthFail => Sys2Proof.Machine.execDrbgHealthFail s
  | .lockKatRun channel value lanesFail engineFail => Sys2Proof.Machine.execLockKatRun channel value lanesFail engineFail s
  | .lockKatIntervalExpiry lanesFail engineFail => Sys2Proof.Machine.execLockKatIntervalExpiry lanesFail engineFail s
  | .rollbackCommit channel value => Sys2Proof.Machine.execRollbackCommit channel value s
  | .fwUpdateBegin channel => Sys2Proof.Machine.execFwUpdateBegin channel s
  | .fwUpdateData channel value => Sys2Proof.Machine.execFwUpdateData channel value s
  | .fwUpdateVerify channel => Sys2Proof.Machine.execFwUpdateVerify channel s
  | .fwUpdateCancel channel => Sys2Proof.Machine.execFwUpdateCancel channel s
  | .mrExtend channel value => Sys2Proof.Machine.execMrExtend channel value s
  | .quoteNonce channel value => Sys2Proof.Machine.execQuoteNonce channel value s
  | .quoteSigned channel => Sys2Proof.Machine.execQuoteSigned channel s
  | .openMsg port source message => Sys2Proof.Machine.execOpenMsg port source message s
  | .proveMsg port source message => Sys2Proof.Machine.execProveMsg port source message s
  | .request port message => Sys2Proof.Machine.execRequest port message s
  | .closeMsg port message => Sys2Proof.Machine.execCloseMsg port message s
  | .malformedMessage message => Sys2Proof.Machine.execMalformedMessage message s
  | .macInvalidDrop message => Sys2Proof.Machine.execMacInvalidDrop message s
  | .openFloodDrop source => Sys2Proof.Machine.execOpenFloodDrop source s
  | .dictRead channel index sub => Sys2Proof.Machine.execDictRead channel index sub s
  | .dictWrite channel index sub value => Sys2Proof.Machine.execDictWrite channel index sub value s
  | .dictDescribe channel index sub => Sys2Proof.Machine.execDictDescribe channel index sub s
  | .sessionLifetimeExpiry session => Sys2Proof.Machine.execSessionLifetimeExpiry session s
  | .sessionIdleExpiry session => Sys2Proof.Machine.execSessionIdleExpiry session s
  | .challengeExpiry session => Sys2Proof.Machine.execChallengeExpiry session s
  | .nameLockoutExpiry name => Sys2Proof.Machine.execNameLockoutExpiry name s
  | .sessionClose channel value => Sys2Proof.Machine.execSessionClose channel value s
  | .credLoad channel value => Sys2Proof.Machine.execCredLoad channel value s
  | .credDelete channel value => Sys2Proof.Machine.execCredDelete channel value s
  | .mbGo port value => Sys2Proof.Machine.execMbGo port value s
  | .mbResponseDone port => Sys2Proof.Machine.execMbResponseDone port s
  | .mbAnonRequest port message => Sys2Proof.Machine.execMbAnonRequest port message s
  | .mbPortReset port => Sys2Proof.Machine.execMbPortReset port s
  | .pathLinkUp pathB rate selfTestOk => Sys2Proof.Machine.execPathLinkUp pathB rate selfTestOk s
  | .pathSyncDone pathB => Sys2Proof.Machine.execPathSyncDone pathB s
  | .pathLinkLoss pathB => Sys2Proof.Machine.execPathLinkLoss pathB s
  | .pathSwitch channel value => Sys2Proof.Machine.execPathSwitch channel value s
  | .pathEnableWrite channel sub value => Sys2Proof.Machine.execPathEnableWrite channel sub value s
  | .clockSet channel value => Sys2Proof.Machine.execClockSet channel value s
  | .ptpMessage message => Sys2Proof.Machine.execPtpMessage message s
  | .ptpAnnounceTimeout => Sys2Proof.Machine.execPtpAnnounceTimeout s
  | .locateWrite channel value => Sys2Proof.Machine.execLocateWrite channel value s
  | .ledgerFlushExpiry => Sys2Proof.Machine.execLedgerFlushExpiry s
  | .ledgerFlush => Sys2Proof.Machine.execLedgerFlush s
  | .flushNow channel value => Sys2Proof.Machine.execFlushNow channel value s
  | .ledgerClear channel value => Sys2Proof.Machine.execLedgerClear channel value s
  | .ledgerRead channel => Sys2Proof.Machine.execLedgerRead channel s
  | .maintEnter channel interface => Sys2Proof.Machine.execMaintEnter channel interface s
  | .maintLeave channel interface => Sys2Proof.Machine.execMaintLeave channel interface s
  | .vaultMaintExpiry => Sys2Proof.Machine.execVaultMaintExpiry s
  | .testRequest channel value => Sys2Proof.Machine.execTestRequest channel value s
  | .testStop channel value => Sys2Proof.Machine.execTestStop channel value s
  | .testEnd first second => Sys2Proof.Machine.execTestEnd first second s
  | .patrolRead finish => Sys2Proof.Machine.execPatrolRead finish s
  | .chargerSelftest firstOk secondOk => Sys2Proof.Machine.execChargerSelftest firstOk secondOk s
  | .perstNDeassert port => Sys2Proof.Machine.execPerstNDeassert port s
  | .configWrite port field value => Sys2Proof.Machine.execConfigWrite port field value s
  | .railRegulationLoss => Sys2Proof.Machine.execRailRegulationLoss s
  | .dumpSourceLoss => Sys2Proof.Machine.execDumpSourceLoss s
  | .vaultOperationDone set kind => Sys2Proof.Machine.execVaultOperationDone set kind s
  | .metadataOnMedia drive chunk copyB => Sys2Proof.Machine.execMetadataOnMedia drive chunk copyB s
  | .addressAutoconfig event => Sys2Proof.Machine.execAddressAutoconfig event s

end Sys2Proof.Machine
end

