-- ==== Sys2Proof/Machine/Idle.lean ====
section
/-! DEFINITION. What happens while no command waits: the device clock runs. -/

namespace Sys2Proof.Machine

/-- One CLK_HK cycle of the device clock (R53): it advances by its increment; the fraction of a nanosecond carries over.
With the standby rail absent nothing runs (R57). -/
def idle (s : State) : State :=
  if s.pw.rail then
    let f := s.clk.frac + s.clk.incr
    { s with clk := { s.clk with now := s.clk.now + f / 2 ^ 32, frac := f % 2 ^ 32, uptime := s.clk.uptime + 10 } }
  else s

end Sys2Proof.Machine
end

