-- ==== Sys2Proof/WellFormed.lean ====
section
/-! DEFINITION. Which commands are well formed: every number an operand carries fits the field or the table of the spec
that it names. A meaning is defined on ill-formed operands too; there the table simply has no such place. -/

namespace Sys2Proof

/-- Rings of a port are numbered 0 to 255 (R111). -/
def ringOk (r : Nat) : Bool := decide (r < 256)

/-- Volumes are numbered 0 to 4,095 (R185). -/
def volumeOk (v : Nat) : Bool := decide (v < 4096)

/-- Drives are numbered 0 to 511 (R333). -/
def driveOk (d : Nat) : Bool := decide (d < 512)

/-- Benches of a group are numbered 0 to 2,047 (R189). -/
def benchOk (b : Nat) : Bool := decide (b < 2048)

/-- Members of a group are numbered 0 to 27 (R193). -/
def memberOk (m : Nat) : Bool := decide (m < 28)

/-- An extent index is a 32-bit number (R193, OWNER). -/
def extentOk (x : Nat) : Bool := decide (x < 2 ^ 32)

/-- A group number is a 32-bit number (R193). -/
def groupOk (g : Nat) : Bool := decide (g < 2 ^ 32)

/-- A page of a volume is a 42-bit number (R361, KEY). -/
def pageOk (p : Nat) : Bool := decide (p < 2 ^ 42)

/-- The MSI-X table of a port has 2,048 entries (R82). -/
def vectorOk (v : Nat) : Bool := decide (v < 2048)

/-- A command tag is a 32-bit number (R126, R132). -/
def tagOk (t : Nat) : Bool := decide (t < 2 ^ 32)

/-- The tag of a request on a host link is at most 14 bits wide (R75). -/
def requestTagOk (t : Nat) : Bool := decide (t < 2 ^ 14)

/-- An eight-bit operand. -/
def byteOk (n : Nat) : Bool := decide (n < 256)

/-- An object index: a 16-bit number, with the copies of the replicated ranges above it (R16, R479). -/
def indexOk (n : Nat) : Bool := decide (n < 2 ^ 32)

/-- A set number is a 32-bit number (R395). -/
def setOk (n : Nat) : Bool := decide (n < 2 ^ 32)

/-- An operand that may be absent. -/
def optionOk {β : Type} (ok : β → Bool) : Option β → Bool
  | none => true
  | some x => ok x

/-- Setts of a bench are numbered 0 to 27 (R189). -/
def settReadOk (r : SettRead) : Bool := decide (r.position < 28)

/-- A drive number of a label is below 512, an ARRAY_ID and a DRIVE_GUID have 16 bytes (R229). -/
def labelOk (l : LabelInfo) : Bool := l.arrayId.length == 16 && l.driveGuid.length == 16 && driveOk l.driveNo

/-- A DRIVE_GUID has 16 bytes (R353). -/
def infoOk (i : DriveInfo) : Bool := i.guid.length == 16 && optionOk labelOk i.label

/-- A command is well formed where each of its numbers fits the place it names. -/
def Instr.wellFormed : Instr → Bool
  | .p12vTrip => true
  | .p12vRise => true
  | .standbyRailPowerUp _ _ _ => true
  | .modResetNAssert => true
  | .modResetNRelease => true
  | .pathHoldChange _ _ => true
  | .locateNChange _ => true
  | .smbStatus => true
  | .smbTempInlet => true
  | .smbTempMax => true
  | .smbPowerIn => true
  | .smbPackMv => true
  | .smbIdent => true
  | .smbAlertResponse => true
  | .smbBadPec _ => true
  | .thermalThrottle _ _ => true
  | .thermalCritical _ _ => true
  | .thermalTrip _ _ => true
  | .thermalWithdraw _ _ => true
  | .inletLimit _ => true
  | .pllLockLossShort => true
  | .clockFault _ => true
  | .dumpEnd => true
  | .autoRestart => true
  | .startUp inputs => inputs.drives.all infoOk
  | .restoreRound _ => true
  | .driveWaitExpiry => true
  | .moduleReset _ => true
  | .mgmtRestart _ => true
  | .moduleStandby _ => true
  | .moduleStart _ => true
  | .mgmtRestartDone => true
  | .mgmtWatchdogExpiry => true
  | .serviceSetLoss _ => true
  | .hostLinkUp _ _ _ _ _ => true
  | .surpriseLinkDown _ => true
  | .hotInsert _ _ _ _ => true
  | .perstNAssert _ => true
  | .hotReset _ _ => true
  | .flr _ => true
  | .busMasterClear _ => true
  | .busMasterSet _ => true
  | .d3hotEntry _ => true
  | .d3hotExit _ => true
  | .poisonedTlp _ completionTag => optionOk requestTagOk completionTag
  | .malformedTlp _ _ => true
  | .completionTimeout _ tag => requestTagOk tag
  | .unexpectedCompletion _ tag => requestTagOk tag
  | .hostReadCompletion _ tag _ => requestTagOk tag
  | .tagWithholdExpiry _ tag => requestTagOk tag
  | .portRelease _ => true
  | .releaseComplete _ => true
  | .portCauseClear _ _ => true
  | .intPendingClear _ _ _ => true
  | .barBadAccess _ _ _ _ => true
  | .msixUnmask _ vector => vectorOk vector
  | .coalesceTimerExpiry _ ring => ringOk ring
  | .registerWrite _ bar _ size _ => (bar == 0 || bar == 2) && (size == 1 || size == 2 || size == 4 || size == 8)
  | .ringCreate _ ring => ringOk ring
  | .ringReset _ ring => ringOk ring
  | .ringResetDiscard _ ring => ringOk ring
  | .ringDelete _ ring => ringOk ring
  | .ringDb _ ring _ => ringOk ring
  | .pushWrite _ ring _ _ => ringOk ring
  | .entryAccept _ ring => ringOk ring
  | .phaseRefetch _ ring _ => ringOk ring
  | .ringFetchRetry _ ring => ringOk ring
  | .acceptResume _ => true
  | .noticeDeliver _ => true
  | .noticeRepeatExpiry _ _ => true
  | .read _ tag => tagOk tag
  | .write _ tag => tagOk tag
  | .atomicWrite _ tag => tagOk tag
  | .flush _ tag => tagOk tag
  | .discard _ tag => tagOk tag
  | .echo _ tag => tagOk tag
  | .volumeQuery _ tag => tagOk tag
  | .noticeAck _ tag => tagOk tag
  | .invalidOpcode _ tag => tagOk tag
  | .lockGrant _ tag => tagOk tag
  | .lockTableFree => true
  | .slotReserve _ tag => tagOk tag
  | .writeDataEnd _ reqTag _ => requestTagOk reqTag
  | .writeThroughCommit _ tag => tagOk tag
  | .flushComplete _ tag => tagOk tag
  | .volCreate _ _ => true
  | .volGrow _ _ => true
  | .volDelete _ _ => true
  | .volVcflagsWrite _ _ => true
  | .volClassWrite _ _ => true
  | .pageDestage volume page => volumeOk volume && pageOk page
  | .faceBenchWrite volume extent => volumeOk volume && extentOk extent
  | .faceHoldExpiry volume extent => volumeOk volume && extentOk extent
  | .logBenchWrite volume => volumeOk volume
  | .logHoldExpiry volume => volumeOk volume
  | .benchOnMedia group bench => groupOk group && benchOk bench
  | .memberReplace group member => groupOk group && memberOk member
  | .mergeStart volume extent => volumeOk volume && extentOk extent
  | .mergeDone volume extent _ => volumeOk volume && extentOk extent
  | .mergeAbandon volume extent _ => volumeOk volume && extentOk extent
  | .journalFlushExpiry => true
  | .checkpoint _ => true
  | .ckptIntervalExpiry => true
  | .ckptNow _ _ => true
  | .djSegmentSeal => true
  | .djFlushExpiry => true
  | .lossAck _ _ => true
  | .importScan _ inputs => inputs.drives.all infoOk
  | .importCommit _ => true
  | .importCancel _ => true
  | .discardLocal _ => true
  | .bgShareTick => true
  | .driveWindowTick => true
  | .fastLimitTick => true
  | .driveDispatch drive => driveOk drive
  | .curveWrite _ sub _ => byteOk sub
  | .driveDomainWrite _ _ => true
  | .driveTierWrite _ _ => true
  | .freeChunksLow => true
  | .mapPageFetch _ => true
  | .mapFetchDone _ => true
  | .mapWriteBack _ => true
  | .tallyDecayEpoch => true
  | .driveFailedQueue drive => driveOk drive
  | .rebuildStart group => groupOk group
  | .rebuildBench group bench setts => groupOk group && benchOk bench && setts.all settReadOk
  | .rebuildComplete group member => groupOk group && memberOk member
  | .relocationCopy group reads => groupOk group && memberOk reads.member
  | .staleMemberReturn group member => groupOk group && memberOk member
  | .benchReadDone group bench setts => groupOk group && benchOk bench && setts.all settReadOk
  | .mismatchReread group bench setts => groupOk group && benchOk bench && setts.all settReadOk
  | .scrubGroup benches => benches.all (fun b => b.all settReadOk)
  | .errDecaySweep => true
  | .katRun _ _ _ => true
  | .katIntervalExpiry _ => true
  | .katRepeat _ => true
  | .groupCfgWrite _ sub _ => byteOk sub
  | .groupLanesLost _ => true
  | .driveFound info => infoOk info
  | .driveGone drive => driveOk drive
  | .broadcastChange _ found lost => found.all infoOk && lost.all driveOk
  | .switchPortChange _ found lost => optionOk infoOk found && optionOk driveOk lost
  | .identifyRetry drive info => driveOk drive && infoOk info
  | .driveAdopt _ drive => driveOk drive
  | .adoptDone drive _ => driveOk drive
  | .driveRemove _ => true
  | .driveCancelRemove _ => true
  | .driveFail _ => true
  | .evacuationDone drive => driveOk drive
  | .driveLossWaitExpiry drive => driveOk drive
  | .recoveryTableWrite _ sub _ => byteOk sub
  | .driveCmdOk drive _ => driveOk drive
  | .driveCmdTimeout drive _ => driveOk drive
  | .driveReadMedia drive _ => driveOk drive
  | .driveWriteFail drive _ => driveOk drive
  | .driveTransport drive _ => driveOk drive
  | .driveRecovered drive _ => driveOk drive
  | .driveLinkDown drive => driveOk drive
  | .driveLinkUp drive _ => driveOk drive
  | .driveResetDone drive => driveOk drive
  | .driveResetFailed drive => driveOk drive
  | .recoveryTimerExpiry drive => driveOk drive
  | .healthCritical drive => driveOk drive
  | .countWindowExpiry drive _ => driveOk drive
  | .driveCmdHardLimit drive _ => driveOk drive
  | .driveLateCompletion drive _ => driveOk drive
  | .healthPollExpiry reports => reports.all (fun h => driveOk h.drive)
  | .driveAsyncReport report => driveOk report.drive
  | .eccCorrected _ _ => true
  | .eccUncorrectable _ _ _ => true
  | .cacheModeWrite _ _ => true
  | .cacheModeChange => true
  | .mcacheFillDone _ => true
  | .mcacheClean _ _ => true
  | .mcacheInvalidate _ _ => true
  | .mcacheCleanInvalidate _ _ => true
  | .dump _ => true
  | .dumpRearm _ => true
  | .armCheck _ _ => true
  | .storeWrite _ => true
  | .logBlockCollect => true
  | .fold => true
  | .stripeVerify _ _ => true
  | .mediaJournalFlush => true
  | .vaultRefresh verdicts => verdicts.all (fun v => setOk v.set)
  | .vaultPageLost _ _ => true
  | .vaultOpFail set _ _ => setOk set
  | .slcCurveWrite _ _ => true
  | .vaultTempSample _ => true
  | .packSample _ => true
  | .packInsert => true
  | .packRemove => true
  | .estimateUpdate => true
  | .estimateStale => true
  | .restWindowOpen => true
  | .restNow _ _ => true
  | .restWindowEnd => true
  | .qualifyEnd => true
  | .cvHoldEnd => true
  | .chargerFault cause => byteOk cause
  | .learnStart _ => true
  | .learnStop _ => true
  | .learnDischargeBegin => true
  | .learnDischargeEnd _ => true
  | .learnResult => true
  | .learnAbandon => true
  | .nvSlotWrite => true
  | .nvSlotPeriodExpiry => true
  | .estimatorStart => true
  | .ocvTableWrite _ _ => true
  | .resTableWrite _ _ => true
  | .keyLoad _ _ => true
  | .keyDestroy _ _ => true
  | .keyExport _ => true
  | .xgenRoll _ _ => true
  | .drbgHealthFail => true
  | .lockKatRun _ _ _ _ => true
  | .lockKatIntervalExpiry _ _ => true
  | .rollbackCommit _ _ => true
  | .fwUpdateBegin _ => true
  | .fwUpdateData _ _ => true
  | .fwUpdateVerify _ => true
  | .fwUpdateCancel _ => true
  | .mrExtend _ _ => true
  | .quoteNonce _ _ => true
  | .quoteSigned _ => true
  | .openMsg _ _ _ => true
  | .proveMsg _ _ _ => true
  | .request _ _ => true
  | .closeMsg _ _ => true
  | .malformedMessage _ => true
  | .macInvalidDrop _ => true
  | .openFloodDrop _ => true
  | .dictRead _ index sub => indexOk index && byteOk sub
  | .dictWrite _ index sub _ => indexOk index && byteOk sub
  | .dictDescribe _ index sub => indexOk index && byteOk sub
  | .sessionLifetimeExpiry _ => true
  | .sessionIdleExpiry _ => true
  | .challengeExpiry _ => true
  | .nameLockoutExpiry _ => true
  | .sessionClose _ _ => true
  | .credLoad _ _ => true
  | .credDelete _ _ => true
  | .mbGo _ _ => true
  | .mbResponseDone _ => true
  | .mbAnonRequest _ _ => true
  | .mbPortReset _ => true
  | .pathLinkUp _ _ _ => true
  | .pathSyncDone _ => true
  | .pathLinkLoss _ => true
  | .pathSwitch _ _ => true
  | .pathEnableWrite _ sub _ => byteOk sub
  | .clockSet _ _ => true
  | .ptpMessage _ => true
  | .ptpAnnounceTimeout => true
  | .locateWrite _ _ => true
  | .ledgerFlushExpiry => true
  | .ledgerFlush => true
  | .flushNow _ _ => true
  | .ledgerClear _ _ => true
  | .ledgerRead _ => true
  | .maintEnter _ interface => byteOk interface
  | .maintLeave _ interface => byteOk interface
  | .vaultMaintExpiry => true
  | .testRequest _ _ => true
  | .testStop _ _ => true
  | .testEnd _ _ => true
  | .patrolRead _ => true
  | .chargerSelftest _ _ => true
  | .perstNDeassert _ => true
  | .configWrite _ _ _ => true
  | .railRegulationLoss => true
  | .dumpSourceLoss => true
  | .vaultOperationDone set _ => setOk set
  | .metadataOnMedia drive _ _ => driveOk drive
  | .addressAutoconfig _ => true

end Sys2Proof
end

