-- ==== Sys2Proof/Safety.lean ====
section
/-! DEFINITION. The terms in which claims about runs are made: a state apart from what recording an event and settling
change, and the settled states, in which everything that follows from the state has been carried out. -/

namespace Sys2Proof.Machine

/-! ### A state apart from events and settling -/

/-- A port apart from its notice queue, to which any event may add (R140, R532). -/
def Port.apart (q : Port) : Port := { q with notices := [], noticesDropped := 0, lost := 0 }

/-- A volume apart from the state and LOSS mark that follow from the rest (R246). -/
def Volume.apart (v : Volume) : Volume := { v with state := .recovering, loss := false }

/-- The four ports apart from their notice queues. -/
def Ports.apart (p : Ports) : Ports := ⟨p.h0.apart, p.h1.apart, p.h2.apart, p.h3.apart⟩

/-- The tables apart from the states of the volumes. -/
def Tables.apart (t : Tables) : Tables := { t with vols := t.vols.map (fun e => (e.1, e.2.apart)) }

/-- Power apart from the degraded set last compared (R72). -/
def Power.apart (p : Power) : Power := { p with lastDegraded := 0 }

/-- The sideband apart from SMB_ALERT_N and the STATUS last compared (R39). -/
def Sideband.apart (d : Sideband) : Sideband := { d with alert := false, lastStatus := 0 }

/-- The caches apart from the mode that follows from the rest (R365). -/
def Cache.apart (c : Cache) : Cache := { c with mode := 0, wtCause := 0 }

/-- The vault apart from what a change of its state brings with it (R413 to R415). -/
def Vault.apart (v : Vault) : Vault := { v with lastState := 0, lastArea := 0, replace := false, logCap := none }

/-- The energy store apart from the rate index last seen (R61, R432). -/
def Tallyman.apart (t : Tallyman) : Tallyman := { t with gauge := { t.gauge with rateSeen := 0, rateSince := 0 } }

/-- A state apart from the ledger, the notice queues and what settling changes: two states that agree so differ only in
recorded events and in what follows from the rest of the state. -/
def State.apart (s : State) : State :=
  { s with
    led := Ledger.reset, ports := s.ports.apart, tabs := s.tabs.apart, pw := s.pw.apart, side := s.side.apart,
    cache := s.cache.apart, vault := s.vault.apart, tally := s.tally.apart }

/-! ### Settled states -/

/-- Everything that follows from the state has been carried out: the cache stands in the mode its conditions give
(R365), DEGRADED_SET (R72), the rate index (R61) and STATUS (R41) are the ones last compared, in service and in a dump so
are VAULT_STATE and DUMP_AREA_STATE (R413, R415), and in service every READY volume reaches k members of each of its
extents (R246). -/
structure Settled (s : State) : Prop where
  cache : s.cache.mode = cacheState s
  causes : s.cache.wtCause = if s.cache.mode = 2 then wtCause s else 0
  degraded : s.pw.lastDegraded = degradedSet s
  rate : s.tally.gauge.rateSeen = rateIndex s
  status : s.side.lastStatus = statusByte s
  vault : (serving s || s.pw.state == .dump) = true →
    s.vault.lastState = vaultState s ∧ s.vault.lastArea = dumpAreaState s
  volumes : serving s = true → ∀ v vol, getVol s v = some vol → volNext s v vol = (vol.state, vol.loss)

/-! ### What a command answers -/

/-- The parts of the state, but the ledger. -/
inductive Part where
  | pending | free | pw | clk | side | ports | rings | ce | tabs | etu | jr | dur | qm | cooper | drv | cache | mc | dump
  | vault | tally | lock | sess | paths | dict | test
  deriving DecidableEq, Repr

/-- A part is the same in two states, apart from what recording an event and settling change. -/
def Part.same (s t : State) : Part → Prop
  | .pending => t.pending = s.pending
  | .free => t.free = s.free
  | .pw => t.pw.apart = s.pw.apart
  | .clk => t.clk = s.clk
  | .side => t.side.apart = s.side.apart
  | .ports => t.ports.apart = s.ports.apart
  | .rings => t.rings = s.rings
  | .ce => t.ce = s.ce
  | .tabs => t.tabs.apart = s.tabs.apart
  | .etu => t.etu = s.etu
  | .jr => t.jr = s.jr
  | .dur => t.dur = s.dur
  | .qm => t.qm = s.qm
  | .cooper => t.cooper = s.cooper
  | .drv => t.drv = s.drv
  | .cache => t.cache.apart = s.cache.apart
  | .mc => t.mc = s.mc
  | .dump => t.dump = s.dump
  | .vault => t.vault.apart = s.vault.apart
  | .tally => t.tally.apart = s.tally.apart
  | .lock => t.lock = s.lock
  | .sess => t.sess = s.sess
  | .paths => t.paths = s.paths
  | .dict => t.dict = s.dict
  | .test => t.test = s.test

/-- No part changes but those listed, the ledger, the notice queues and what settling changes. -/
def OnlyChanges (l : List Part) (s t : State) : Prop := ∀ p : Part, p ∉ l → p.same s t

/-- Command `c` answers a next state from `s`, and that state is `u` but for recorded events and what settling
changes. -/
def Gives (c : Instr) (s u : State) : Prop := ∃ t, exec c s = .next t ∧ t.apart = u.apart

/-- Command `c` answers a next state from `s` of which `Q` holds, and changes only the parts listed. -/
def Ends (c : Instr) (s : State) (l : List Part) (Q : State → Prop) : Prop :=
  ∃ t, exec c s = .next t ∧ Q t ∧ OnlyChanges l s t

/-- A channel carries an operation on an object of a range: a session of at least the role given, not the factory
credential's, while core 0 runs and the object is available (R57, R59, R63, R472, R497). -/
structure Carries (ch : Channel) (role index : Nat) (s : State) : Prop where
  runs : dictRuns s = true
  session : ∃ x, chanSession s ch = some x ∧ x.setup = false ∧ role ≤ x.role
  served : available s index = true

/-- The bytes by which a channel carries the octet layout `b` of an object: as they stand, or on the network with each
field in big-endian order (R11, R17). -/
def onWire (ch : Channel) (index sub : Nat) (b : Bytes) : Bytes :=
  if bigEnd ch then swapFields (octWidths (index * 256 + sub)) b else b

/-- A dump has begun for a cause: the state is DUMP, DUMP_ACT is high, PWR_GOOD reads as given, and no command is in work
any more (R37, R58). -/
structure DumpBegun (c : DumpCause) (good : Bool) (t : State) : Prop where
  state : t.pw.state = .dump
  cause : t.pw.cause = some c
  act : t.side.dumpAct = true
  good : t.side.pwrGood = good
  stopped : t.ce.cmds = []

/-- A port is held (R101, R102): its commands are in work no more and their locks are released, every read it has
outstanding is held and its answer will be discarded; the commands of other ports stay. -/
structure HeldBy (p : PortId) (s t : State) : Prop where
  cmds : t.ce.cmds = s.ce.cmds.filter (fun c => c.port != p)
  locks : ∀ l ∈ t.ce.locks, l ∈ s.ce.locks ∧ ∀ c ∈ s.ce.cmds, c.port = p → ¬(l.port = p ∧ l.tag = c.tag)
  reads : (t.ports.get p).reqs = (s.ports.get p).reqs.map (fun e => (e.1, { e.2 with held := true, dropped := true }))

/-- A port has entered QUARANTINED for a cause (R87, R106 to R108). -/
structure Contained (p : PortId) (b : Nat) (s t : State) : Prop extends HeldBy p s t where
  state : (t.ports.get p).state = .quarantined
  cause : (t.ports.get p).cause = (s.ports.get p).cause ||| BitVec.ofNat 32 (2 ^ b)
  count : (t.ports.get p).quarantines = (s.ports.get p).quarantines + 1
  tags : ∀ k ∈ Tab.keys (s.ports.get p).reqs, k ∈ (t.ports.get p).quarTags

/-- Command `tag` of a port is in work, and its entry `e` of its running ring is outstanding. -/
structure Waiting (p : PortId) (tag : Nat) (c : Cmd) (e : OutEntry) (s : State) : Prop where
  cmd : findCmd s p tag = some c
  ring : c.ring < 256 ∧ (getRing s p c.ring).state = .running
  entry : (getRing s p c.ring).out.find? (fun o => o.tag == tag && !o.notice) = some e
  sends : (s.ports.get p).maySend = true

/-- The Command Engine may decode command `tag` of a port now (R149, R163). -/
structure Decodable (p : PortId) (tag : Nat) (c : Cmd) (e : OutEntry) (s : State) : Prop
    extends Waiting p tag c e s where
  may : mayDecode s c = true

/-- A command has ended (R126, R127, R162, R170): it is in work no more and holds no lock, and the two writes of the record
of its entry, with status and results, have gone to the host. -/
structure Completed (p : PortId) (tag ring : Nat) (e : OutEntry) (res : CplRes) (s t : State) : Prop where
  gone : findCmd t p tag = none
  locks : ∀ l ∈ t.ce.locks, ¬(l.port = p ∧ l.tag = tag)
  late : Tlp.record ((getRing s p ring).base + e.pos.off + 4) ((recordBytes e res).drop 4) ∈ (t.ports.get p).tx
  first : Tlp.record ((getRing s p ring).base + e.pos.off) ((recordBytes e res).take 4) ∈ (t.ports.get p).tx
  out : e ∉ (getRing t p ring).out

/-- An operation has been given to a drive: it was issued, or it waits in the drive's queue (R280, R338). -/
def Sent (t : State) (d : Nat) (what : OpWhat) : Prop :=
  ∃ o, o.what = what ∧ (DriveTrace.issue d o ∈ t.drv.trace ∨ ∃ q ∈ (getDispatcher t d).queue, q.op = o)

/-- The parts that cancelling a command can change. -/
abbrev cancelParts : List Part := [.ports, .ce, .tabs, .etu, .jr, .dur, .qm, .cooper, .cache, .vault, .lock]

/-- The parts that a hold of a port can change. -/
abbrev holdParts : List Part := .rings :: cancelParts

/-- The parts that a DISCARD can change. -/
abbrev discardParts : List Part := [.ports, .rings, .ce, .tabs, .etu, .jr, .dur, .qm, .cooper, .drv, .cache, .mc, .vault, .lock]

/-- The parts that a pass of Cooper can change. -/
abbrev passParts : List Part := [.free, .ports, .rings, .ce, .tabs, .etu, .jr, .dur, .qm, .cooper, .drv, .cache, .lock]

/-- The parts that entering DUMP can change. -/
def dumpParts : List Part :=
  [.free, .pw, .side, .ports, .ce, .tabs, .etu, .jr, .dur, .qm, .cooper, .cache, .dump, .vault, .lock, .paths, .test]

/-- A device that is found stands under its number (R333, R335, R336): INCOMPATIBLE, ONLINE with the label of this array,
FOREIGN with another one, otherwise BLANK. -/
structure Placed (i : DriveInfo) (n : Nat) (l : Option LabelInfo) (t : State) : Prop where
  state : (getDrive t n).map (·.state) = some (if infoCompatible i = false then DState.incompatible
    else match l with
      | some _ => .online
      | none => if i.label.isSome then .foreign else .blank)
  guid : (getDrive t n).map (·.guid) = some (if i.answered then fit 16 i.guid else zeros 16)

/-- The parts that the recovery engine can change. -/
def recoveryParts : List Part := [.free, .tabs, .etu, .jr, .dur, .qm, .cooper, .drv, .cache, .lock]

/-- No checkpoint is being taken, no label or header is owed to a drive, and drive `d` is not being adopted. -/
structure Quiet (s : State) (d : Nat) : Prop where
  ckpt : s.dur.taking = none
  labels : ∀ e ∈ s.drv.drives, e.2.labelDue = false
  headers : ∀ e ∈ s.drv.drives, headersOwed s e.1 = []
  adopted : ∀ v, getDrive s d = some v → v.state ≠ .adopting

end Sys2Proof.Machine
end

