-- ==== Sys2Proof/Certificates/Slice0/Obligations.lean ====
section
/-! DEFINITION. The statements for the provers, by chapter of the spec. In each, `Gives c s u` says that command `c`
completes from `s` and that its next state is `u` but for recorded events and what settling changes, and
`Ends c s l Q` that it completes, changes only the parts `l`, and leaves a state of which `Q` holds. -/

open Sys2Proof Sys2Proof.Machine

/-- Every step answers a settled state: the invariant `Settled` is kept by every command and by the idle block. Every
command completes: from every state it answers a next state, which is settled. What each does there the statements below
say. -/
def Obligations.StepKeepsSettled : Prop :=
  (∀ s s' : State, Settled s → step s = .next s' → Settled s') ∧
  ∀ (c : Instr) (s : State), ∃ t, exec c s = .next t ∧ Settled t

/-- The reset state is settled. -/
def Obligations.ResetSettled : Prop :=
  Settled State.reset

/-- A step runs the command at the front of the queue: with `c` in front it is `exec` of `c` on the state with the
queue's rest. -/
def Obligations.StepRunsFront : Prop :=
  ∀ (s : State) (c : Instr) (rest : List Instr), s.pending = c :: rest → step s = exec c { s with pending := rest }

/-- SMBus (R39 to R41): while the standby rail is present each read is answered with the data of its table row and one
byte of Packet Error Code, and nothing else changes; STATUS holds the bits of R41. A wrong Packet Error Code or an
unknown code is not answered; the answer at the Alert Response Address is the module's address and releases SMB_ALERT_N.
What the sensors and POWER_IN read is a free value (log entries 1, 5), and the Packet Error Code is the family's (log
entry 36). Completes: SMB_STATUS, SMB_TEMP_INLET, SMB_TEMP_MAX, SMB_POWER_IN, SMB_PACK_MV, SMB_ALERT_RESPONSE,
SMB_BAD_PEC. -/
def Obligations.SmbusReads : Prop :=
  ∀ s : State, s.pw.rail = true →
    (let replies (c : Instr) (d : Bytes) := ∃ p, Gives c s (modSide (fun x => { x with smbReply := some (d ++ [p]) }) s)
    (∃ n, n < 128 ∧ replies .smbStatus [BitVec.ofNat 8 n] ∧ n.testBit 0 = serving s ∧
      n.testBit 1 = (s.cache.mode == 1) ∧ n.testBit 2 = s.side.dumpAct ∧ n.testBit 3 = faultLit s ∧
      n.testBit 4 = moduleSensors.any (fun x => atOrAbove s x .throttle) ∧
      n.testBit 5 = (s.tally.pack.state == 1 && s.tally.gauge.reserveOk) ∧ n.testBit 6 = s.paths.right) ∧
    (s.side.readings.length = 8 → ∃ (r : Int) (p : BitVec 8), Gives .smbTempInlet s (modSide (fun x => { x with
      smbReply := some [BitVec.ofNat 8 (toTwos 8 r), p] }) (senseAt .inlet r { s with free := s.free + 1 }))) ∧
    (s.side.readings.length = 8 → ∃ (rs : List Int) (m : Int) (p : BitVec 8), rs.length = 7 ∧ m ∈ rs ∧ (∀ r ∈ rs, r ≤ m) ∧
      Gives .smbTempMax s (modSide (fun x => { x with smbReply := some [BitVec.ofNat 8 (toTwos 8 m), p] })
        ((moduleSensors.zip rs).foldl (fun s e => senseAt e.1 e.2 s) { s with free := s.free + 7 }))) ∧
    (∃ a b p, Gives .smbPowerIn s (modSide (fun x => { x with smbReply := some [a, b, p] }) { s with free := s.free + 1 })) ∧
    replies .smbPackMv (leBytes 2 (if s.tally.pack.state = 0 then 0 else s.tally.pack.mv))) ∧
    (∀ code, Gives (.smbBadPec code) s (modSide (fun x => { x with smbReply := none }) s)) ∧
    (Settled s → s.side.alert = true →
      ∃ p, exec .smbAlertResponse s = .next (modSide (fun x => { x with
        alert := false, smbReply := some [BitVec.ofNat 8 (2 * (0x58 + s.side.smbAddr.toNat)), p] }) s))

/-- IDENT (R42): the block read answers its length and the 32 bytes of R42: the order code, padded with spaces to 16,
the serial number, the version bytes of the running image, and two zeros. Completes: SMB_IDENT. -/
def Obligations.IdentBlock : Prop :=
  ∀ s : State, s.pw.rail = true →
    ∃ (code fw : Bytes) (p : BitVec 8),
      code = ascii (if Config.isE then "YE-4800-E" else "YE-4800-A") ++ List.replicate 7 0x20 ∧
      fw = slice (imageSlot s s.pw.bootImage).header 8 2 ∧
      (code ++ fit 12 Config.serial ++ fw ++ [0, 0]).length = 32 ∧
      Gives .smbIdent s (modSide (fun x => { x with
        smbReply := some ([32] ++ (code ++ fit 12 Config.serial ++ fw ++ [0, 0]) ++ [p]) }) s)

/-- The throttle and critical levels of R49: a reading at or above its sensor's threshold sets that level, and in
SERVICE the module enters THROTTLE with its input capped, and so it does from LEARN, whose cycle is abandoned; the
inlet's limit is its code's plus 5 °C; a reading 5 °C below the last level that stands withdraws it and, with no other
sensor at a level, ends THROTTLE. Model's readings in it: log entries 5, 61. Completes: THERMAL_THROTTLE,
THERMAL_CRITICAL, THERMAL_WITHDRAW, INLET_LIMIT. -/
def Obligations.ThermalLevels : Prop :=
  ∀ (s : State) (x : Sensor) (th r : Int), s.pw.rail = true →
    ((x, th) ∈ ([(.die, 100), (.hbm0, 85), (.hbm1, 85), (.hbm2, 85), (.hbm3, 85), (.vault, 70), (.regulator, 110)] :
        List (Sensor × Int)) → th ≤ r → levelOf s x = .none →
      (learnRunning s = false → Gives (.thermalThrottle x r) s (setReading x r .throttle (if s.pw.state = .service then
        modPw (fun p => { p with state := .throttle, capped := true }) s else s))) ∧
      (s.pw.state = .learn → learnRunning s = true → Ends (.thermalThrottle x r) s [.pw, .side, .tally, .vault, .lock] (fun t =>
        t.pw.state = .throttle ∧ t.pw.capped = true ∧ t.tally.learn.state = .abandoned))) ∧
    ((x, th) ∈ ([(.die, 110), (.hbm0, 95), (.hbm1, 95), (.hbm2, 95), (.hbm3, 95), (.vault, 85), (.regulator, 120)] :
        List (Sensor × Int)) → th ≤ r → levelOf s x = .none ∨ levelOf s x = .throttle →
      learnRunning s = false → Gives (.thermalCritical x r) s (setReading x r .critical (if s.pw.state = .service then
        modPw (fun p => { p with state := .throttle, capped := true }) s else s))) ∧
    ((if Config.isE then 60 else 45) ≤ r → levelOf s .inlet = .none →
      Gives (.inletLimit r) s (setReading .inlet r .critical s)) ∧
    ((x, th) ∈ ([(.die, 100), (.hbm0, 85), (.hbm1, 85), (.hbm2, 85), (.hbm3, 85), (.vault, 70), (.regulator, 110)] :
        List (Sensor × Int)) → r ≤ th - 5 → levelOf s x = .throttle → s.pw.state = .throttle →
      (∀ y ∈ moduleSensors, y ≠ x → levelOf s y = .none) →
      Gives (.thermalWithdraw x r) s (setReading x r .none
        (modPw (fun p => { p with state := .service, capped := false }) s)))

/-- What leads to DUMP (R36, R37, R45, R49, R56, R58, R63, R69): from any state but OFF and DUMP each cause begins a
dump. PWR_GOOD falls at once for a 12 V trip alone. Model's readings in it: log entry 104. Completes: P12V_TRIP,
MOD_RESET_N_ASSERT, THERMAL_TRIP, CLOCK_FAULT, MGMT_WATCHDOG_EXPIRY, SERVICE_SET_LOSS. -/
def Obligations.DumpEntry : Prop :=
  ∀ s : State, s.pw.state ≠ .off → s.pw.state ≠ .dump →
    Ends .p12vTrip s (dumpParts ++ [.tally]) (fun t => DumpBegun .trip12V false t ∧ t.pw.p12v = false) ∧
    (s.side.modReset = true →
      Ends .modResetNAssert s dumpParts (fun t => DumpBegun .modReset s.side.pwrGood t ∧ t.pw.hold = false)) ∧
    (∀ (x : Sensor) (th r : Int), (x, th) ∈ ([(.die, 118), (.hbm0, 105), (.hbm1, 105), (.hbm2, 105), (.hbm3, 105),
        (.regulator, 125)] : List (Sensor × Int)) → s.pw.rail = true → th ≤ r → levelOf s x ≠ .trip →
      Ends (.thermalTrip x r) s dumpParts (DumpBegun .thermalTrip s.side.pwrGood)) ∧
    (∀ stopped, Ends (.clockFault stopped) s dumpParts (fun t =>
      DumpBegun .clockFault s.side.pwrGood t ∧ t.pw.holdover = true ∧ faultLit t = true)) ∧
    (∀ part, Ends (.serviceSetLoss part) s dumpParts (DumpBegun .serviceSet s.side.pwrGood)) ∧
    (∀ w, s.pw.lastWatchdog = some w → s.clk.uptime ≤ w + 600 * secNs →
      Ends .mgmtWatchdogExpiry s dumpParts (DumpBegun .mgmtWatchdog s.side.pwrGood))

/-- MODULE_CONTROL (R58, R71): a session with the Custodian role may write it outside DUMP. RESET and STANDBY begin a
dump; MGMT_RESTART restarts the management cores, which ends every session and leaves the data path alone (R63); START
leaves STANDBY where no thermal lockout stands, and ends a fault hold. Model's readings in it: log entries 87, 104, 184.
Completes: MODULE_RESET, MGMT_RESTART, MODULE_STANDBY, MODULE_START. -/
def Obligations.ModuleControl : Prop :=
  ∀ (s : State) (ch : Channel), Carries ch 2 0x1101 s →
    (s.pw.state ≠ .dump →
      Ends (.moduleReset ch) s (dumpParts ++ [.vault, .tally, .dict]) (DumpBegun .controlReset s.side.pwrGood)) ∧
    (s.pw.state ≠ .dump →
      Ends (.moduleStandby ch) s (dumpParts ++ [.vault, .tally, .dict, .dur])
        (DumpBegun .controlStandby s.side.pwrGood)) ∧
    (s.pw.state ≠ .dump →
      Ends (.mgmtRestart ch) s [.free, .pw, .ports, .vault, .tally, .lock, .sess, .dict, .test] (fun t =>
        t.pw.mgmtRestarting = true ∧ t.sess.sessions = [] ∧ t.pw.state = s.pw.state)) ∧
    (s.pw.state = .standby → s.pw.lockout = false →
      Ends (.moduleStart ch) s [.pw, .dict] (fun t =>
        t.pw.state = .start ∧ t.pw.startStep = 1 ∧ t.pw.hold = false)) ∧
    (s.pw.state = .dump → ∀ c ∈ [Instr.moduleReset ch, .moduleStandby ch, .mgmtRestart ch, .moduleStart ch],
      Gives c s (answered stBusy none s))

/-- The dump (R375, R380): it flushes the journal and, when dirty data is held and no image is, writes an image; a whole
image carries every dirty slot. A source that fails before step 7 is noted. The end of a dump (R36, R58, R64): without
12 V the module goes to OFF; with 12 V, after a clock fault, a Cooper failure or a loss of service it goes to STANDBY
under a fault hold, after a thermal trip under a thermal lockout, after MODULE_CONTROL = STANDBY without either;
LAST_RESET_CAUSE names the cause. 100 ms later START is entered where AUTO_START is 1, MOD_RESET_N is high, P12V is
there and neither hold nor lockout stands. Model's readings in it: log entries 71, 72, 100, 103, 119. Completes:
DUMP_END, AUTO_RESTART, DUMP, DUMP_SOURCE_LOSS. -/
def Obligations.DumpRuns : Prop :=
  (∀ s : State, s.pw.state = .dump → s.dump.dumped = false →
    (∀ i c, s.pw.cause = some c →
      Ends (.dump i) s [.jr, .dur, .dump, .vault, .tally, .lock] (fun t =>
        t.dump.dumped = true ∧ t.dump.count = min 0xFFFFFFFF (s.dump.count + 1) ∧
        ((dirtySlots s).isEmpty = true → t.dump.result = 2 ∧ t.dump.bytes = 0 ∧ t.dump.image = s.dump.image) ∧
        (t.dump.result = 1 → ∃ g, t.dump.image = some g ∧ g.complete = true ∧ g.slots = dirtySlots s))) ∧
    Gives .dumpSourceLoss s (modDump (fun d => { d with sourceLost := true }) s)) ∧
  (∀ s : State,
    (∀ c, s.pw.state = .dump → s.dump.dumped = true → s.pw.cause = some c → s.side.resetLatched = false →
      ∃ t, exec .dumpEnd s = .next t ∧ t.side.dumpAct = false ∧ t.ce = CmdEngine.reset ∧ t.cache.slots = [] ∧
        t.vault.sets = s.vault.sets ∧ t.lock.fuses = s.lock.fuses ∧ t.clk = s.clk ∧ t.dump.image = s.dump.image ∧
        t.pw.lockout = (s.pw.lockout || c == .thermalTrip) ∧ (c.holds = true → t.pw.hold = true) ∧
        (c ≠ .controlStandby → t.pw.resetCause = c.reset ∧ t.sess.sessions = []) ∧
        (s.pw.p12v = false → t.pw.state = .off) ∧
        (s.pw.p12v = true → c.holds = true ∨ c = .thermalTrip ∨ c = .controlStandby → t.pw.state = .standby) ∧
        (s.pw.p12v = true → s.side.modReset = true → s.pw.lockout = false → s.pw.hold = false → c.holds = false →
          c ≠ .thermalTrip → c ≠ .controlStandby →
          cfgAutoStart { s with dict := { s.dict with objs := s.dict.nv } } = 1 → t.pw.restart = true)) ∧
    (∀ c, s.pw.state = .dump → s.dump.dumped = true → s.pw.cause = some c → s.side.resetLatched = true →
      ∃ t, exec .dumpEnd s = .next t ∧ t.side.dumpAct = false ∧ t.side.resetLatched = false ∧ t.ce = CmdEngine.reset ∧
        t.cache.slots = [] ∧ t.pw.resetCause = 1 ∧ t.sess.sessions = [] ∧
        (s.pw.p12v = false → t.pw.state = .off)) ∧
    (s.pw.restart = true → s.pw.p12v = true → s.side.modReset = true → cfgAutoStart s = 1 → s.pw.lockout = false →
      s.pw.hold = false →
      Ends .autoRestart s [.pw, .side] (fun t =>
        t.pw.state = .start ∧ t.pw.startStep = 1 ∧ t.pw.restart = false)))

/-- P12V rises from OFF, MOD_RESET_N goes high in STANDBY, and the standby rail rises from absent (R53, R58, R62, R507):
the module moves to START where AUTO_START is 1, MOD_RESET_N is high and no lockout stands, else to STANDBY; a power-on
reset starts the device clock at zero and gives the transmit right to A unless the contacts pin it to B. Pins, rails and
clocks that start nothing else (R34, R37, R38, R56, R63, R507): LOCATE_N and a rail's loss of regulation show at once, a
short loss of lock is recorded and changes nothing, a management restart ends, and the transmit right follows PATH_SEL
while PATH_HOLD is high and stays when it goes low. Model's readings in it: log entries 120, 157, 183. Completes:
P12V_RISE, STANDBY_RAIL_POWER_UP, MOD_RESET_N_RELEASE, PATH_HOLD_CHANGE, LOCATE_N_CHANGE, PLL_LOCK_LOSS_SHORT,
MGMT_RESTART_DONE, RAIL_REGULATION_LOSS. -/
def Obligations.PowerRises : Prop :=
  (∀ s : State,
    (s.pw.state = .off → s.pw.rail = true → s.pw.p12v = false →
      Ends .p12vRise s [.free, .pw, .side, .tally, .lock] (fun t =>
        t.pw.p12v = true ∧ t.pw.lockout = (s.pw.lockout && !belowCritical s) ∧
        (cfgAutoStart s = 1 → s.side.modReset = true → t.pw.lockout = false → t.pw.state = .start ∧ t.pw.hold = false) ∧
        (cfgAutoStart s ≠ 1 ∨ s.side.modReset = false ∨ t.pw.lockout = true →
          t.pw.state = .standby ∧ t.pw.rails = true ∧ t.side.pwrGood = true))) ∧
    (s.side.modReset = false → s.pw.state = .standby → cfgAutoStart s = 1 → s.pw.lockout = false → s.pw.hold = false →
      Ends .modResetNRelease s [.pw, .side] (fun t => t.pw.state = .start ∧ t.side.modReset = true)) ∧
    (s.side.modReset = false → s.pw.state ≠ .standby ∨ cfgAutoStart s ≠ 1 →
      Gives .modResetNRelease s (modSide (fun x => { x with modReset := true }) s)) ∧
    (s.pw.rail = false → ∀ addr hold sel, ∃ t, exec (.standbyRailPowerUp addr hold sel) s = .next t ∧
      t.clk = Clock.reset ∧ t.pw.state = .off ∧ t.pw.rail = true ∧ t.pw.resetCause = 0 ∧ t.side.smbAddr = addr ∧
      t.paths.right = (hold && sel) ∧ t.sess.sessions = [] ∧ t.cache.slots = [] ∧ t.ce = CmdEngine.reset ∧
      t.lock.bootCount = s.lock.bootCount + 1 ∧ t.lock.store = s.lock.store ∧ t.dict.nv = s.dict.nv ∧
      t.dict.objs = s.dict.nv ∧ t.dump.image = s.dump.image ∧ t.pending = s.pending)) ∧
  (∀ s : State,
    (∀ level, Gives (.locateNChange level) s (modSide (fun x => { x with locateN := level }) s)) ∧
    Gives .railRegulationLoss s (modSide (fun x => { x with pwrGood := false })
      (modPw (fun p => { p with rails := false }) s)) ∧
    (s.pw.state ≠ .off → Gives .pllLockLossShort s s) ∧
    Gives .mgmtRestartDone s (modPw (fun p => { p with mgmtRestarting := false }) s) ∧
    (∀ h sel, s.pw.rail = true → Ends (.pathHoldChange h sel) s [.side, .paths] (fun t =>
      t.side.pathHold = h ∧ t.side.pathSel = sel ∧ (h = true → t.paths.right = sel) ∧
      (h = false → (s.paths.path s.paths.right).isDown = false → t.paths.right = s.paths.right))))

/-- START (R56, R58, R66): a failed clock check, no management core, or Cooper failing twice ends it in STANDBY with
FAULT lit under a fault hold; with every check passed, a host port sound and no image to restore it reaches SERVICE, or
THROTTLE where a sensor stands at its threshold, when a firmware image passes the checks of R472, and otherwise stays in
STANDBY with the ROM's recovery service. It waits at step 12 for labels that are still on their way to the drives
(R241). What follows a START (R67, R246, R382): further parts of an image are placed until none remains, and then the
module is in service; when DRIVE_WAIT has passed, a volume that still has an extent below k members, and that no open
loss report names, is OFFLINE. Model's readings in it: log entries 13, 102, 157. Completes: START_UP, RESTORE_ROUND,
DRIVE_WAIT_EXPIRY. -/
def Obligations.StartUp : Prop :=
  (∀ (s : State) (i : StartInputs), s.pw.state = .start → s.pw.startStep ≠ 12 → s.dump.unplaced = [] →
    (i.oscillatorOk = false ∨ i.pllOk = false ∨ i.coresOk = 0#8 ∨ i.cooperFail = true →
      Ends (.startUp i) s [.free, .pw, .side, .ports, .ce, .tabs, .etu, .jr, .dur, .qm, .cooper, .drv, .cache, .mc, .vault,
          .tally, .lock, .dict] (fun t =>
        t.pw.state = .standby ∧ t.pw.hold = true ∧ faultLit t = true)) ∧
    (i.oscillatorOk = true → i.pllOk = true → i.coresOk ≠ 0#8 → i.cooperFail = false → i.hbmFail = [] →
      i.bistFail = [] → s.cache.retiring = 0#4 → s.dump.image = none →
      (∃ p : PortId, p.val ∉ i.portFail ∧ p.val ∉ s.pw.portsFailed) →
      ∃ t, exec (.startUp i) s = .next t ∧ t.paths = s.paths ∧ t.test = s.test ∧ t.pending = s.pending ∧
        (imageCheck s s.lock.imageA = none ∨ imageCheck s s.lock.imageB = none →
          (if labelsPending t then t.pw.state = .start ∧ t.pw.startStep = 12
            else (t.pw.state = .service ∨ t.pw.state = .throttle) ∧ t.pw.startStep = 0) ∧ t.pw.coresOk = i.coresOk ∧
          t.pw.pllLocked = true ∧ t.side.pwrGood = true ∧ t.cache.stacksOk = 0xF#4 ∧ t.clk.early = false ∧
          t.led.mounted = true ∧ t.sess = s.sess) ∧
        (imageCheck s s.lock.imageA ≠ none → imageCheck s s.lock.imageB ≠ none →
          t.pw.state = .standby ∧ t.lock.recovery = true))) ∧
  (∀ s : State,
    (∀ n, s.pw.state = .start → s.pw.startStep = 12 → s.dump.unplaced ≠ [] →
      Ends (.restoreRound n) s [.pw, .qm, .cache, .dump, .vault] (fun t =>
        ∃ k, k ≤ n ∧ t.dump.unplaced = s.dump.unplaced.drop k ∧
          (t.dump.unplaced = [] ∧ labelsPending s = false ↔ t.pw.state ≠ .start) ∧
          (t.pw.state ≠ .start → t.pw.state = .service ∨ t.pw.state = .throttle))) ∧
    (serving s = true → s.dur.path ≠ .stale →
      Ends .driveWaitExpiry s [.tabs, .jr, .dur, .qm] (fun t => t.dur.waitOver = true ∧
        ∀ v vol, getVol s v = some vol → vol.state = .recovering → lossNames s v = false → volReaches s v = false →
          ∃ vol', getVol t v = some vol' ∧ vol'.state = .offline)))

/-- What enters QUARANTINED (R86, R87, R101, R102, R106): each containment event adds its PORT_CAUSE bit; a port that is
not yet QUARANTINED becomes so and is held. Bits: 0 a poisoned TLP, 1 a malformed one, 3 surprise link loss, 4 hot
insert. Completes: SURPRISE_LINK_DOWN, HOT_INSERT, POISONED_TLP, MALFORMED_TLP. -/
def Obligations.PortsContain : Prop :=
  ∀ (s : State) (p : PortId),
    (∀ (c : Instr) (b n : Nat) (u : State), (c, b, u) ∈ [(Instr.poisonedTlp p none, 0, s),
        (.poisonedTlp p (some n), 0, modPort p (fun q => { q with
          reqs := Tab.del q.reqs n, quarTags := q.quarTags.filter (fun t => t != n) }) s),
        (.malformedTlp p false, 1, s), (.malformedTlp p true, 1, s)] →
      ((s.ports.get p).state = .quarantined → Gives c s (addCause p b u)) ∧
      ((s.ports.get p).state ≠ .quarantined → Ends c s holdParts (fun t =>
        Contained p b u t ∧ (t.ports.get p).link = (s.ports.get p).link ∧
        ∀ r, r < 256 → getRing t p r = stopRing (getRing s p r)))) ∧
    ((s.ports.get p).link.up = true → (s.ports.get p).cfg.d3hot = false → portTestOn s p = false →
      (s.ports.get p).state ≠ .quarantined →
      Ends (.surpriseLinkDown p) s (holdParts ++ [.sess, .dict]) (fun t =>
        Contained p 3 s t ∧ (t.ports.get p).link.up = false ∧ (t.ports.get p).link.surprise = true ∧
        (t.ports.get p).cfg = PortCfg.reset ∧ ∀ r, r < 256 → getRing t p r = Ring.reset)) ∧
    (∀ rate width flit cables, (s.ports.get p).link.up = false → (s.ports.get p).link.surprise = true →
      mayTrain s p = true → linkOk s p rate width flit cables = true → (s.ports.get p).state ≠ .quarantined →
      Ends (.hotInsert p rate width ⟨flit, cables⟩) s holdParts (fun t =>
        Contained p 4 s t ∧ (t.ports.get p).link.up = true ∧ (t.ports.get p).link.surprise = false ∧
        (t.ports.get p).link.rate = rate ∧ (t.ports.get p).link.width = width ∧
        (t.ports.get p).link.refclk = cfgRefclkMode s p.val))

/-- Links and resets of a port (R25, R73, R80, R86, R101 to R103): a link trains at a permitted rate and width; hot
reset, FLR, leaving D3hot and PERST_N return configuration space to its defaults, discard the port's rings and cancel
its commands; clearing Bus Master Enable and entering D3hot hold the port and stop its rings. Model's readings in it:
log entry 7. Completes: HOST_LINK_UP, PERST_N_ASSERT, HOT_RESET, FLR, BUS_MASTER_CLEAR, BUS_MASTER_SET, D3HOT_ENTRY,
D3HOT_EXIT, PERST_N_DEASSERT. -/
def Obligations.PortLinksAndResets : Prop :=
  ∀ (s : State) (p : PortId),
    (∀ rate width flit cables, (s.ports.get p).link.up = false → (s.ports.get p).link.surprise = false →
      mayTrain s p = true → linkOk s p rate width flit cables = true →
      Gives (.hostLinkUp p rate width flit cables) s (modPort p (fun q => { q with link := { q.link with
        up := true, rate := rate, width := width, flit := flit, surprise := false, trained := true
        evenCable := cables.even, oddCable := cables.odd, refclk := cfgRefclkMode s p.val } }) s)) ∧
    (∀ rate width flit odd, Gives (.hostLinkUp p rate width flit ⟨false, odd⟩) s s) ∧
    Gives (.perstNDeassert p) s (modPort p (fun q => { q with link := { q.link with perst := false } }) s) ∧
    ((s.ports.get p).link.up = true → Ends (.busMasterSet p) s [.ports] (fun t =>
      (t.ports.get p).cfg = { (s.ports.get p).cfg with busMaster := true } ∧
      (t.ports.get p).link = (s.ports.get p).link ∧ (t.ports.get p).reqs = (s.ports.get p).reqs)) ∧
    (∀ c ∈ [Instr.perstNAssert p, .hotReset p false, .hotReset p true, .flr p, .d3hotExit p],
      (c = .perstNAssert p ∨ (s.ports.get p).link.up = true) → (c = .d3hotExit p → (s.ports.get p).cfg.d3hot = true) →
      Ends c s (holdParts ++ [.free, .sess, .dict, .test]) (fun t =>
        HeldBy p s t ∧ (t.ports.get p).cfg = PortCfg.reset ∧ (t.ports.get p).intPending = 0#256 ∧
        (∀ r, r < 256 → getRing t p r = Ring.reset) ∧
        (∀ q r, q ≠ p → r < 256 → getRing t q r = getRing s q r) ∧
        (c = .flr p ∨ c = .d3hotExit p ∨ c = .hotReset p false → (t.ports.get p).link = (s.ports.get p).link) ∧
        (c = .perstNAssert p → (t.ports.get p).link.perst = true ∧ (t.ports.get p).link.up = false))) ∧
    (∀ c ∈ [Instr.busMasterClear p, .d3hotEntry p], (s.ports.get p).link.up = true →
      (c = .busMasterClear p → (s.ports.get p).cfg.busMaster = true) →
      (c = .d3hotEntry p → (s.ports.get p).cfg.d3hot = false) →
      Ends c s holdParts (fun t =>
        HeldBy p s t ∧ (∀ r, r < 256 → getRing t p r = stopRing (getRing s p r)) ∧
        (∀ q r, q ≠ p → r < 256 → getRing t q r = getRing s q r) ∧ (t.ports.get p).isHeld = true ∧
        (c = .busMasterClear p → (t.ports.get p).cfg = { (s.ports.get p).cfg with busMaster := false }) ∧
        (c = .d3hotEntry p → (t.ports.get p).cfg = { (s.ports.get p).cfg with d3hot := true })))

/-- Reads that end (R97 to R100, R102): an answer to a request that a hold gave up is taken and discarded; ring bytes
enter their ring and end its run of timeouts; a timeout withholds the tag, is counted and, with CTO_THRESHOLD reached,
quarantines the port; an answer nobody asked for is counted; a withheld tag is freed in time. Model's readings in it:
log entries 44, 164. Completes: COMPLETION_TIMEOUT, UNEXPECTED_COMPLETION, HOST_READ_COMPLETION, TAG_WITHHOLD_EXPIRY. -/
def Obligations.HostReads : Prop :=
  ∀ (s : State) (p : PortId) (tag : Nat) (data : Bytes),
    (∀ r, Tab.at? tag (s.ports.get p).reqs = some r → r.dropped = true →
      Gives (.hostReadCompletion p tag data) s (modPort p (fun q => { q with
        reqs := Tab.del q.reqs tag, quarTags := q.quarTags.filter (fun t => t != tag) }) s)) ∧
    (∀ r n off, Tab.at? tag (s.ports.get p).reqs = some r → r.dropped = false → r.kind = .ring n off → n < 256 →
      Ends (.hostReadCompletion p tag data) s [.ports, .rings, .ce] (fun t =>
        (getRing t p n).timeouts = 0 ∧ (getRing t p n).acc = (getRing s p n).acc ∧
        ∀ k, k < r.len / 64 →
          Tab.at? (off / 64 + k) (getRing t p n).granules = some ⟨slice (fit r.len data) (64 * k) 64, false⟩)) ∧
    (∀ r, Tab.at? tag (s.ports.get p).reqs = some r →
      Ends (.completionTimeout p tag) s holdParts (fun t =>
        (t.ports.get p).withheld = (s.ports.get p).withheld ++ [tag] ∧ (t.ports.get p).cto = (s.ports.get p).cto + 1 ∧
        Tab.at? tag (t.ports.get p).reqs = none ∧
        (r.dropped = false → ∀ c off, r.kind = .data c off ∨ r.kind = .echo c off → findCmd t p c = none) ∧
        (r.held = false → cfgCtoThreshold s p.val ≠ 0 →
          cfgCtoThreshold s p.val ≤ (recentTimeouts s (s.ports.get p)).length + 1 →
          (t.ports.get p).state = .quarantined))) ∧
    (Tab.at? tag (s.ports.get p).reqs = none → (s.ports.get p).link.up = true →
      Gives (.unexpectedCompletion p tag) s (sendTlp p .unexpectedCompletion
        (modPort p (fun q => { q with unexp := q.unexp + 1 }) s))) ∧
    Ends (.tagWithholdExpiry p tag) s [.ports, .rings, .ce] (fun t =>
      (t.ports.get p).withheld = (s.ports.get p).withheld.filter (fun n => n != tag) ∧
      (t.ports.get p).quarTags = (s.ports.get p).quarTags.filter (fun n => n != tag))

/-- Release (R87, R108 to R110): cause bits are cleared by writing 1; a QUARANTINED port without a cause and with its
link up becomes RELEASING on a release, by BAR0 or by the dictionary, which otherwise answers BUSY; with every tag of
its entry answered or waited out it becomes ACTIVE. Interrupts, registers and configuration space (R75, R82, R84, R85,
R89 to R92, R115): INT_PENDING bits clear by writing 1 and INTA follows them; a held-back message goes out when its
vector is unmasked; a wait that runs out sends the message; a bad write is ignored, and a bad read is completed with
zeros; a register write is what the row of its register does. Model's readings in it: log entries 38, 45. Completes:
PORT_RELEASE, RELEASE_COMPLETE, PORT_CAUSE_CLEAR, INT_PENDING_CLEAR, BAR_BAD_ACCESS, MSIX_UNMASK, COALESCE_TIMER_EXPIRY,
REGISTER_WRITE, RING_CREATE, RING_RESET, RING_RESET_DISCARD, RING_DELETE, RING_DB, CONFIG_WRITE. -/
def Obligations.PortsRelease : Prop :=
  (∀ (s : State) (p : PortId),
    (∀ v, barOpen s p = true → Gives (.portCauseClear (.bar0 p) v) s
      (modPort p (fun q => { q with cause := q.cause &&& ~~~v }) s)) ∧
    (∀ ch v, Carries ch 1 0x2002 s → Gives (.portCauseClear (.dict ch p) v) s
      (answered stSuccess none (modPort p (fun q => { q with cause := q.cause &&& ~~~v }) s))) ∧
    ((s.ports.get p).state = .quarantined → (s.ports.get p).cause = 0#32 → (s.ports.get p).link.up = true →
      (barOpen s p = true →
        Gives (.portRelease (.bar0 p)) s (modPort p (fun q => { q with state := .releasing }) s)) ∧
      (∀ ch, Carries ch 1 0x2011 s → Gives (.portRelease (.dict ch p)) s
        (answered stSuccess none (modPort p (fun q => { q with state := .releasing }) s)))) ∧
    ((s.ports.get p).state ≠ .quarantined ∨ (s.ports.get p).cause ≠ 0#32 ∨ (s.ports.get p).link.up = false →
      (barOpen s p = true → Gives (.portRelease (.bar0 p)) s s) ∧
      (∀ ch, Carries ch 1 0x2011 s → Gives (.portRelease (.dict ch p)) s (answered stBusy none s))) ∧
    ((s.ports.get p).state = .releasing → (s.ports.get p).quarTags = [] →
      Ends (.releaseComplete p) s [.ports, .rings, .ce] (fun t => (t.ports.get p).state = .active)) ∧
    ((s.ports.get p).state = .releasing → (s.ports.get p).quarTags ≠ [] → Gives (.releaseComplete p) s s)) ∧
  (∀ (s : State) (p : PortId),
    (∀ (i : Fin 8) v n, barOpen s p = true →
      n = (s.ports.get p).intPending &&& ~~~(BitVec.ofNat 256 (v.toNat * 2 ^ (32 * i.val))) →
      ∀ on : Bool, on = (irqMode (s.ports.get p).cfg == .intx && n != 0#256) →
      ((s.ports.get p).inta = on ∨ (on = true ∧ (s.ports.get p).maySend = false) →
        Gives (.intPendingClear p i v) s (modPort p (fun q => { q with intPending := n }) s)) ∧
      ((s.ports.get p).inta ≠ on → (on = true → (s.ports.get p).maySend = true) →
        Gives (.intPendingClear p i v) s (modPort p (fun q => { q with
          intPending := n, inta := on, tx := q.tx ++ [.intx on] }) s))) ∧
    (∀ v, barOpen s p = true → v < 2048 → v ∉ (s.ports.get p).msixUnmasked →
      ((s.ports.get p).maySend = false → Gives (.msixUnmask p v) s
        (modPort p (fun q => { q with msixUnmasked := q.msixUnmasked ++ [v] }) s)) ∧
      (Ends (.msixUnmask p v) s [.ports] (fun t =>
        (t.ports.get p).msixUnmasked = (s.ports.get p).msixUnmasked ++ [v] ∧
        ((s.ports.get p).maySend = true → irqMode (s.ports.get p).cfg = .msix →
          (s.ports.get p).cfg.msixFunctionMask = false → v ∉ (t.ports.get p).msixPending ∧
          (v ∈ (s.ports.get p).msixPending → .msix v ∈ (t.ports.get p).tx))))) ∧
    (∀ r, (getRing s p r).coal ≠ 0 → (getRing s p r).coalTime ≠ 0 → (s.ports.get p).maySend = true →
      irqMode (s.ports.get p).cfg = .msix → (s.ports.get p).cfg.msixFunctionMask = false →
      (getRing s p r).vector ∈ (s.ports.get p).msixUnmasked →
      Gives (.coalesceTimerExpiry p r) s
        (sendTlp p (.msix (getRing s p r).vector) (modRing p r (fun x => { x with coal := 0 }) s))) ∧
    (∀ place size, Gives (.barBadAccess p place size true) s s) ∧
    (∀ off size, barOpen s p = true → bar0Served off size = false →
      Gives (.barBadAccess p ⟨0, off⟩ size false) s (sendTlp p (.completion (zeros size)) s)) ∧
    (∀ f v, (s.ports.get p).link.up = true → Ends (.configWrite p f v) s [.ports, .rings, .ce] (fun t =>
      (t.ports.get p).cfg = writeField (s.ports.get p).cfg f v.toNat)) ∧
    (barOpen s p = true → ∀ v : BitVec 32,
      Gives (.registerWrite p 0 0x08 4 (v.zeroExtend 64)) s (modPort p (fun q => { q with cause := q.cause &&& ~~~v }) s) ∧
      (∀ i : Fin 8, exec (.registerWrite p 0 (0x40 + 4 * i.val) 4 (v.zeroExtend 64)) s = exec (.intPendingClear p i v) s) ∧
      (∀ r, r < 256 → exec (.registerWrite p 0 (0x100000 + 4096 * r) 4 (v.zeroExtend 64)) s = exec (.ringDb p r v) s) ∧
      (∀ r, r < 256 → exec (.registerWrite p 0 (0x10010 + 256 * r) 4 1) s = exec (.ringCreate p r) s ∧
        exec (.registerWrite p 0 (0x10010 + 256 * r) 4 2) s = exec (.ringReset p r) s ∧
        exec (.registerWrite p 0 (0x10010 + 256 * r) 4 3) s = exec (.ringResetDiscard p r) s ∧
        exec (.registerWrite p 0 (0x10010 + 256 * r) 4 4) s = exec (.ringDelete p r) s)))

/-- CREATE (R119): it is accepted only when the ring's STATE is NONE, the port is ACTIVE and not held, the size lies
between 12 and 24 and the base is not zero (and the port is not in MAINTENANCE, R538): the ring is then RUNNING at
position 0x8000_0000 with an empty push window. Otherwise CMD_REFUSED is set and the ring stays as it is. HELD reads 1
from every reset of the port on. Model's readings in it: log entry 166. Completes: PERST_N_ASSERT, HOT_RESET, FLR,
RING_CREATE. -/
def Obligations.RingCreate : Prop :=
  ∀ (s : State) (p : PortId) (r : Nat), barOpen s p = true → r < 256 →
    (∀ ok : Prop, ok = ((getRing s p r).state = .none ∧ (s.ports.get p).state = .active ∧
        (s.ports.get p).cfg.busMaster = true ∧ (s.ports.get p).cfg.d3hot = false ∧ (s.ports.get p).maint = false ∧
        12 ≤ (getRing s p r).sizeLog2 ∧ (getRing s p r).sizeLog2 ≤ 24 ∧ (getRing s p r).base ≠ 0) →
      (ok → Gives (.ringCreate p r) s (modRing p r (fun x => { x with
        state := .running, cmdRefused := false, push := [], db := Pos.ofWord 0x80000000, acc := Pos.ofWord 0x80000000
        fetchPos := Pos.ofWord 0x80000000 }) s)) ∧
      (¬ok → Gives (.ringCreate p r) s (modRing p r (fun x => { x with cmdRefused := true }) s))) ∧
    (∀ c ∈ [Instr.perstNAssert p, .hotReset p false, .hotReset p true, .flr p],
      ∃ t, exec c s = .next t ∧ (t.ports.get p).isHeld = true) ∧
    (State.reset.ports.get p).isHeld = true

/-- Doorbells and push windows (R113, R118, R130, R134): a legal doorbell moves the recorded position, one that is
misaligned, beyond the ring or too far faults the ring with 3, one that covers an outstanding entry with 4; a push write
fills the window. Model's readings in it: log entry 68. Completes: RING_DB, PUSH_WRITE. -/
def Obligations.RingsRun : Prop :=
  ∀ (s : State) (p : PortId) (r : Nat), barOpen s p = true → r < 256 →
    (∀ v : BitVec 32, (getRing s p r).state = .running → Pos.ofWord v.toNat ≠ (getRing s p r).db →
      ((Pos.ofWord v.toNat).off % 64 = 0 → (Pos.ofWord v.toNat).off < (getRing s p r).size →
        Pos.distance (getRing s p r).size (getRing s p r).db (Pos.ofWord v.toNat) ≤ (getRing s p r).size →
        (getRing s p r).overruns (Pos.distance (getRing s p r).size (getRing s p r).db (Pos.ofWord v.toNat)) = false →
        Ends (.ringDb p r v) s [.ports, .rings, .ce] (fun t =>
          (getRing t p r).state = .running ∧ (getRing t p r).db = Pos.ofWord v.toNat ∧ (getRing t p r).push = [] ∧
          (getRing t p r).acc = (getRing s p r).acc ∧ (getRing t p r).out = (getRing s p r).out)) ∧
      (∀ f, f = (getRing s p r).doorbellFault (Pos.ofWord v.toNat) → f ≠ 0 → (f = 3 ∨ f = 4) ∧
        Ends (.ringDb p r v) s [.ports, .rings] (fun t =>
          (getRing t p r).state = .faulted ∧ (getRing t p r).fault = f ∧ (getRing t p r).db = (getRing s p r).db ∧
          (getRing t p r).acc = (getRing s p r).acc ∧ (getRing t p r).out = (getRing s p r).out ∧
          (t.ports.get p).ringFaults = (s.ports.get p).ringFaults + 1))) ∧
    (∀ off data, isPow2 data.length = true → data.length ≤ 64 → off % data.length = 0 → off + data.length ≤ 256 →
      (getRing s p r).state = .running → (getRing s p r).pushRing = false →
      Gives (.pushWrite p r off data) s (modRing p r (fun x => { x with
        push := (List.range data.length).foldl (fun w i => Tab.put (off + i) (data.getD i 0) w) x.push }) s))

/-- Acceptance (R120, R122, R124, R128, R132, R133, R138): a whole command entry joins the commands in work under the
next TAG and the position moves past it; a PAD completes with SUCCESS at once; at the limit nothing is accepted; an
entry of a wrong phase is fetched again, and faults the ring with 1 when its phase is wrong again; a wrong length faults
it with 2; fetches that timed out are issued again; a TAG that the counter assigns is neither zero nor that of an
outstanding command (R132). Model's readings in it: log entries 32, 46, 143, 165. Completes: ENTRY_ACCEPT,
PHASE_REFETCH, RING_FETCH_RETRY, ACCEPT_RESUME. -/
def Obligations.RingsAccept : Prop :=
  ∀ (s : State) (p : PortId) (r : Nat), r < 256 → (s.ports.get p).maySend = true → ringsRun s = true →
    ((outstandingTags s p).length + 2 ≤ 2 ^ 32 → nextTag s p ≠ 0 ∧ nextTag s p ∉ outstandingTags s p) ∧
    (∀ e pushed, (getRing s p r).find = .entry e pushed →
      (entryKind e = 0 → mayAccept s p = true → Ends (.entryAccept p r) s [.ports, .rings, .ce] (fun t =>
        t.ce.cmds = s.ce.cmds ++ [newCmd s p r (nextTag s p) e] ∧
        (t.ports.get p).tagNext = (nextTag s p + 1) % 2 ^ 32 ∧
        (getRing t p r).acc = (getRing s p r).acc.advance (getRing s p r).size (entryLen e) ∧
        (getRing t p r).out = (getRing s p r).out ++ [{
          pos := (getRing s p r).acc, len := entryLen e, head := e.take 32, pushed := pushed, tag := nextTag s p,
          notice := false }])) ∧
      (mayAccept s p = false → Gives (.entryAccept p r) s s) ∧
      (entryKind e = 1 → mayAccept s p = true → Ends (.entryAccept p r) s [.ports, .rings] (fun t =>
        (getRing t p r).acc = (getRing s p r).acc.advance (getRing s p r).size (entryLen e) ∧
        Tlp.record ((getRing s p r).base + (getRing s p r).acc.off) ((recordBytes {
          pos := (getRing s p r).acc, len := entryLen e, head := e.take 32, pushed := pushed, tag := 0, notice := false }
          ⟨stSuccess, 0, 0⟩).take 4) ∈ (t.ports.get p).tx)) ∧
      (entryKind e = 2 → mayAccept s p = true → Ends (.entryAccept p r) s [.ports, .rings] (fun t =>
        (getRing t p r).out = (getRing s p r).out ++ [{
          pos := (getRing s p r).acc, len := entryLen e, head := e.take 32, pushed := pushed, tag := 0,
          notice := true }]))) ∧
    ((getRing s p r).find = .phase → (getRing s p r).refetch ≠ .again →
      Gives (.entryAccept p r) s (modRing p r (fun x => { x with refetch := .due }) s)) ∧
    ((getRing s p r).find = .phase → (getRing s p r).refetch = .again → Ends (.entryAccept p r) s [.ports, .rings] (fun t =>
      (getRing t p r).state = .faulted ∧ (getRing t p r).fault = 1 ∧ (getRing t p r).acc = (getRing s p r).acc)) ∧
    ((getRing s p r).find = .length → Ends (.entryAccept p r) s [.ports, .rings] (fun t =>
      (getRing t p r).state = .faulted ∧ (getRing t p r).fault = 2 ∧ (getRing t p r).acc = (getRing s p r).acc)) ∧
    ((ringsInTurn s p).find? (fun x => (getRing s p x).waits) = some r →
      Gives (.acceptResume p) s (acceptEntry p r s) ∧ exec (.acceptResume p) s = exec (.entryAccept p r) s) ∧
    (∀ a l, (getRing s p r).refetch = .due → (getRing s p r).state = .running →
      a = (getRing s p r).base + (getRing s p r).acc.off →
      l = (getRing s p r).retry ++ (splitTransfer (s.ports.get p).cfg.mrrs (getRing s p r).entrySpan a
        (getRing s p r).entrySpan).map (fun e => (e.1 - (getRing s p r).base, e.2)) →
      Ends (.phaseRefetch p r (getRing s p r).acc.off) s [.ports, .rings] (fun t =>
        (getRing t p r).refetch = .again ∧ (getRing t p r).state = .running ∧ (getRing t p r).acc = (getRing s p r).acc ∧
        (getRing t p r).retry = l.drop (freeTags (s.ports.get p)).length ∧
        (t.ports.get p).tx = (s.ports.get p).tx ++ (l.zip (freeTags (s.ports.get p))).map (fun e =>
          .fetch e.2 ((getRing s p r).base + e.1.1) e.1.2 (s.ports.get p).cfg.ido))) ∧
    ((getRing s p r).state = .running → Ends (.ringFetchRetry p r) s [.ports, .rings] (fun t =>
      (getRing t p r).retry = (getRing s p r).retry.drop (freeTags (s.ports.get p)).length ∧
      (t.ports.get p).tx = (s.ports.get p).tx ++ ((getRing s p r).retry.zip (freeTags (s.ports.get p))).map (fun e =>
        .fetch e.2 ((getRing s p r).base + e.1.1) e.1.2 (s.ports.get p).cfg.ido)))

/-- Ring resets (R142 to R146): each outstanding entry gets its record, ABORTED where a hold had kept no other status
for it; RESET keeps the doorbell, RESET_DISCARD returns it to the accepted position, DELETE leaves no ring; they are
refused where there is no ring. Completes: RING_RESET, RING_RESET_DISCARD, RING_DELETE. -/
def Obligations.RingsReset : Prop :=
  ∀ (s : State) (p : PortId) (r : Nat), barOpen s p = true → r < 256 →
    (∀ c ∈ [Instr.ringReset p r, .ringResetDiscard p r, .ringDelete p r],
      ((getRing s p r).state = .none ∨ (s.ports.get p).maySend = false →
        Gives c s (modRing p r (fun x => { x with cmdRefused := true }) s)) ∧
      ((getRing s p r).state = .running ∨ (getRing s p r).state = .stopped ∨ (getRing s p r).state = .faulted →
        (s.ports.get p).maySend = true →
        Ends c s holdParts (fun t =>
          (∀ e ∈ (getRing s p r).out, ∀ b,
            b = recordBytes e (resetStatus ((getRing s p r).snapshot.getD []) e) →
            Tlp.record ((getRing s p r).base + e.pos.off + 4) (b.drop 4) ∈ (t.ports.get p).tx ∧
            Tlp.record ((getRing s p r).base + e.pos.off) (b.take 4) ∈ (t.ports.get p).tx) ∧
          (t.ports.get p).ringResets = (s.ports.get p).ringResets + 1 ∧
          ((getRing s p r).state ≠ .stopped → ∀ d ∈ t.ce.cmds, ¬(d.port = p ∧ d.ring = r)) ∧
          (c = .ringDelete p r → getRing t p r = Ring.reset) ∧
          (c ≠ .ringDelete p r → (getRing t p r).state = .running ∧ (getRing t p r).out = [] ∧
            (getRing t p r).fault = 0 ∧ (getRing t p r).acc = (getRing s p r).acc ∧
            (getRing t p r).db = if c = .ringReset p r then (getRing s p r).db else (getRing s p r).acc))))

/-- Notices (R140, R141, R161): the oldest notice goes into the oldest waiting notice slot of the lowest ring that takes
it, and the slot's record follows; one that asks for an acknowledgement and has none is queued again. Model's readings
in it: log entry 167. Completes: NOTICE_DELIVER, NOTICE_REPEAT_EXPIRY. -/
def Obligations.NoticesGoOut : Prop :=
  ∀ (s : State) (p : PortId),
    (∀ n rest r e, (s.ports.get p).notices = n :: rest → (s.ports.get p).maySend = true →
      (ringsOf s p).findSome? (fun x => if !(n.code == 0x2104 && n.subject == p.val + x * 256)
        then (getRing s p x).noticeSlot.map (fun e => (x, e)) else none) = some (r, e) →
      Ends (.noticeDeliver p) s [.ports, .rings] (fun t =>
        Tlp.record ((getRing s p r).base + e.pos.off + 32) (noticeBody n (s.ports.get p).lost (e.len - 64)) ∈
          (t.ports.get p).tx ∧
        Tlp.record ((getRing s p r).base + e.pos.off) ((recordBytes e
          ⟨stSuccess, (noticeBody n (s.ports.get p).lost (e.len - 64)).length, 0⟩).take 4) ∈ (t.ports.get p).tx ∧
        e ∉ (getRing t p r).out ∧ (n.sev = 2 → ∃ u ∈ (t.ports.get p).unacked, u.seq = n.seq))) ∧
    (∀ n, (s.ports.get p).unacked.find? (fun u => u.seq == n.seq) = some n → cfgNoticeRepeat s ≠ 0 →
      (s.ports.get p).notices.length < 1024 →
      Ends (.noticeRepeatExpiry p n.seq) s [.ports] (fun t => n ∈ (t.ports.get p).notices))

/-- The checks of a command (R148, R162 to R164): the first check that fails ends it with that check's status, before it
changes anything else. Model's readings in it: log entry 33. Completes: READ, WRITE, ATOMIC_WRITE, FLUSH, DISCARD, ECHO,
VOLUME_QUERY, NOTICE_ACK, INVALID_OPCODE. -/
def Obligations.CommandChecks : Prop :=
  ∀ (s : State) (p : PortId) (tag : Nat) (c : Cmd) (e : OutEntry) (st : Nat), Decodable p tag c e s →
    s.ce.locks.length < lockMax → s.ce.decodeWaits = false → checkCmd s p c.entry = some st →
    (∀ (i : Instr) (op : Nat), (i, op) ∈ [(Instr.read p tag, 1), (.write p tag, 2), (.atomicWrite p tag, 3), (.flush p tag, 4),
        (.discard p tag, 5), (.echo p tag, 8), (.volumeQuery p tag, 0x10), (.noticeAck p tag, 0x11)] →
      opcodeOf c.entry = op →
      Ends i s [.ports, .rings, .ce, .qm, .cooper] (Completed p tag c.ring e ⟨st, 0, 0⟩ s)) ∧
    (opDefined (opcodeOf c.entry) = false → st = stInvalidOpcode ∧
      Ends (.invalidOpcode p tag) s [.ports, .rings, .ce, .qm, .cooper] (Completed p tag c.ring e ⟨st, 0, 0⟩ s))

/-- READ, DISCARD and the grant of a lock (R153, R157, R169, R206): blocks that nothing holds read as zeros; a read
completes with its number of blocks, a discard with none and with its record; a discard that stalled completes once no
earlier lock conflicts. Map pages that either needs are resident. Completes: READ, DISCARD, LOCK_GRANT, LOCK_TABLE_FREE.
-/
def Obligations.ReadAndDiscard : Prop :=
  ∀ (s : State) (p : PortId) (tag : Nat) (c : Cmd) (e : OutEntry),
    (Decodable p tag c e s → s.ce.locks.length < lockMax → s.ce.decodeWaits = false → checkCmd s p c.entry = none →
      s.ce.locks.any (fun k => k.conflicts (lockOf c)) = false →
      (∀ vol, opcodeOf c.entry = 1 → getVol s (volField c.entry) = some vol →
        (∀ g ∈ pagesTouched vol (lbaField c.entry) (nblkField c.entry),
          mapReady s (volField c.entry) (g / max 1 vol.extentPages) (g % max 1 vol.extentPages) = true ∧
          pageLayers s (volField c.entry) vol g = []) →
        vol.state ≠ .offline → Ends (.read p tag) s [.ports, .rings, .ce, .tabs, .etu, .jr, .qm, .cooper, .drv, .cache, .mc, .vault] (fun t =>
          Completed p tag c.ring e ⟨if c.recovered then stRecovered else stSuccess, nblkField c.entry, 0⟩ s t ∧
          ((writeBuffers p (descs c.entry) (zeros (nblkField c.entry * vol.bs)) s).ports.get p).tx <+:
            (t.ports.get p).tx)) ∧
      (opcodeOf c.entry = 5 →
        (∀ vol, getVol s (volField c.entry) = some vol →
          discardMissing s (volField c.entry) vol (lbaField c.entry) (nblk64Field c.entry) = []) →
        Ends (.discard p tag) s discardParts (fun t => Completed p tag c.ring e ⟨stSuccess, 0, 0⟩ s t ∧
          (getVol s (volField c.entry) ≠ none → ∃ q xs,
            ⟨q, .discard (volField c.entry) xs (lbaField c.entry) (nblk64Field c.entry)⟩ ∈ t.jr.toDrives)))) ∧
    (Waiting p tag c e s → (s.ports.get p).maySend = true → mayGrant [] s.ce.locks p tag = true → opcodeOf c.entry = 5 →
      (∀ vol, getVol s c.vol = some vol → discardMissing s c.vol vol c.lo c.n = []) →
      Ends (.lockGrant p tag) s discardParts (Completed p tag c.ring e ⟨stSuccess, 0, 0⟩ s)) ∧
    (s.ce.locks.length < lockMax →
      Gives .lockTableFree s (modCe (fun k => { k with decodeWaits := false }) s))

/-- WRITE, ATOMIC_WRITE and their steps SLOT_RESERVE, WRITE_DATA_END and WRITE_THROUGH_COMMIT complete (R154, R165,
R169, R180, R221, R362, R363): a write that passes its checks holds its lock, reserves its space, takes a slot for each
page and reads its data, at once or when slots are free; in write-back mode the last byte commits it: its slots are
DIRTY under the sequence of its WRITE_COMMIT record, and it completes with that sequence; under FUA or write-through it
is staged, and commits when the drives hold the map records that name it. Model's readings in it: log entries 47, 57.
Completes: WRITE, ATOMIC_WRITE, SLOT_RESERVE, WRITE_DATA_END, WRITE_THROUGH_COMMIT. -/
def Obligations.WritesCommit : Prop :=
  ∀ (s : State) (p : PortId) (tag : Nat) (c : Cmd) (e : OutEntry) (vol : Volume),
    (∀ (i : Instr) (op : Nat), (i, op) ∈ [(Instr.write p tag, 2), (.atomicWrite p tag, 3)] → Decodable p tag c e s →
      opcodeOf c.entry = op → s.ce.locks.length < lockMax → s.ce.decodeWaits = false → checkCmd s p c.entry = none →
      getVol s (volField c.entry) = some vol → s.ce.locks.any (fun k => k.conflicts (lockOf c)) = false →
      (checkSpace s (volField c.entry) vol (lbaField c.entry) (nblkField c.entry)).1 = none →
      slotsFor s (pagesTouched vol (lbaField c.entry) (nblkField c.entry)).length = true → keySpent s vol = false →
      Ends i s [.ports, .rings, .ce, .qm, .cache] (fun t =>
        (∃ d, findCmd t p tag = some d ∧ d.stage = .fetching ∧ d.vol = volField c.entry ∧ d.lo = lbaField c.entry ∧
          d.n = nblkField c.entry) ∧
        (∃ l ∈ t.ce.locks, l.port = p ∧ l.tag = tag ∧ l.held = true ∧ l.exclusive = true) ∧
        t.qm.reserved = s.qm.reserved + (checkSpace s (volField c.entry) vol (lbaField c.entry) (nblkField c.entry)).2 ∧
        t.jr = s.jr)) ∧
    (Waiting p tag c e s → c.stage = .slots → opcodeOf c.entry = 2 ∨ opcodeOf c.entry = 3 →
      (s.ports.get p).maySend = true → getVol s c.vol = some vol →
      slotsFor s (pagesTouched vol c.lo c.n).length = true → keySpent s vol = false →
      Ends (.slotReserve p tag) s [.ports, .rings, .ce, .cache] (fun t =>
        ∃ d, findCmd t p tag = some d ∧ d.stage = .fetching)) ∧
    (∀ reqTag data r off, Waiting p tag c e s → Tab.at? reqTag (s.ports.get p).reqs = some r → r.kind = .data tag off →
      lastRead s p reqTag = true → c.stage = .fetching → opcodeOf c.entry = 2 ∨ opcodeOf c.entry = 3 →
      isFua c.entry = false → writeBack s = true → ringFull s = false → getVol s c.vol = some vol →
      dataWhole vol { c with data := Tab.put off (fit r.len data) c.data } = true →
      Ends (.writeDataEnd p reqTag data) s [.ports, .rings, .ce, .jr, .dur, .qm, .cooper, .cache] (fun t =>
        Completed p tag c.ring e ⟨stSuccess, 0, s.jr.last + 1⟩ s t ∧ t.jr.last = s.jr.last + 1 ∧
        t.ce.commits = s.ce.commits + 1 ∧
        (Tab.Sorted s.cache.slots → ((slotsOf s p tag).map (fun x => x.2.page)).Nodup →
          ∀ x ∈ slotsOf s p tag, ∃ y, Tab.at? x.1 t.cache.slots = some y ∧ y.state = .dirty ∧ y.page = x.2.page ∧
            y.jseq = s.jr.last + 1 ∧ (vol.emul = false →
              y.data = (pageOf vol { c with data := Tab.put off (fit r.len data) c.data } x.2.page).2)))) ∧
    (∀ reqTag data r off, Waiting p tag c e s → Tab.at? reqTag (s.ports.get p).reqs = some r → r.kind = .data tag off →
      lastRead s p reqTag = true → c.stage = .fetching → opcodeOf c.entry = 2 ∨ opcodeOf c.entry = 3 →
      isFua c.entry = true ∨ writeBack s = false → stageBlocked s c = false → getVol s c.vol = some vol →
      dataWhole vol { c with data := Tab.put off (fit r.len data) c.data } = true →
      Ends (.writeDataEnd p reqTag data) s [.ports, .rings, .ce, .cache] (fun t =>
        (∃ d, findCmd t p tag = some d ∧ d.stage = .staged) ∧ t.jr = s.jr ∧ t.ce.locks = s.ce.locks)) ∧
    (Waiting p tag c e s → c.stage = .staged → getVol s c.vol = some vol → ringFull s = false →
      (∀ x ∈ slotsOf s p tag, x.2.jseq ≠ 0 ∧ recordsOnDrives s x.2.jseq = true) →
      Ends (.writeThroughCommit p tag) s (cancelParts ++ [.rings])
        (Completed p tag c.ring e ⟨stSuccess, 0, s.jr.last + 1⟩ s))

/-- FLUSH, ECHO, VOLUME_QUERY and NOTICE_ACK (R156, R158 to R160): a FLUSH ends with the number of its volumes once its
data is clean and the records that name it are on the drives; an ECHO of no bytes ends at once; a query writes 64 bytes
and ends with the volume's state and capacity; an acknowledgement ends the notice it names, else with NOT_FOUND. Model's
readings in it: log entry 142. Completes: FLUSH, ECHO, VOLUME_QUERY, NOTICE_ACK, FLUSH_COMPLETE. -/
def Obligations.OtherCommands : Prop :=
  ∀ (s : State) (p : PortId) (tag : Nat) (c : Cmd) (e : OutEntry),
    (Decodable p tag c e s → checkCmd s p c.entry = none →
      (opcodeOf c.entry = 4 → Ends (.flush p tag) s [.ports, .ce] (fun t =>
        ∃ d, findCmd t p tag = some d ∧ d.stage = .flushing ∧ d.vols = flushVolumes s p c.entry)) ∧
      (opcodeOf c.entry = 8 → nbytesField c.entry = 0 →
        Ends (.echo p tag) s [.ports, .rings, .ce, .qm, .cooper] (Completed p tag c.ring e ⟨stSuccess, 0, 0⟩ s)) ∧
      (opcodeOf c.entry = 8 → nbytesField c.entry ≠ 0 → Ends (.echo p tag) s [.ports, .rings, .ce] (fun t =>
        ∃ d, findCmd t p tag = some d ∧ d.stage = .fetching)) ∧
      (∀ vol, opcodeOf c.entry = 0x10 → getVol s (volField c.entry) = some vol →
        Ends (.volumeQuery p tag) s [.ports, .rings, .ce, .qm, .cooper] (fun t =>
          Completed p tag c.ring e ⟨stSuccess, vol.state.code, vol.capacity⟩ s t ∧
          ((writeHost p (descAt c.entry 0).1 (volumeInfo s p (volField c.entry) vol) s).ports.get p).tx <+:
            (t.ports.get p).tx)) ∧
      (opcodeOf c.entry = 0x11 → Ends (.noticeAck p tag) s [.ports, .rings, .ce, .qm, .cooper] (fun t =>
        ((s.ports.get p).unacked.any (fun n => n.seq == lbaField c.entry) = true →
          Completed p tag c.ring e ⟨stSuccess, 0, lbaField c.entry⟩ s t ∧
          ∀ n ∈ (t.ports.get p).unacked, n.seq ≠ lbaField c.entry) ∧
        ((s.ports.get p).unacked.any (fun n => n.seq == lbaField c.entry) = false →
          Completed p tag c.ring e ⟨stNotFound, 0, 0⟩ s t)))) ∧
    (Waiting p tag c e s → c.stage = .flushing → (flushDirty s c).any (cannotDestage s) = true →
      Ends (.flushComplete p tag) s [.ports, .rings, .ce, .qm, .cooper] (Completed p tag c.ring e ⟨stOffline, 0, 0⟩ s)) ∧
    (Waiting p tag c e s → c.stage = .flushing → flushDirty s c = [] →
      (drivePending s).all (fun r => decide ((if c.lo = 0 then s.jr.last else c.lo) < r.seq)) = true →
      Ends (.flushComplete p tag) s [.ports, .rings, .ce, .qm, .cooper]
        (Completed p tag c.ring e ⟨stSuccess, c.vols.length, 0⟩ s))

/-- Volumes (R185 to R188, R226): VOL_CREATE makes the volume its block describes on free segments and is refused for a
number in use; VOL_GROW extends it; VOL_DELETE removes it unless a port may reach it or a command names it; VOL_VCFLAGS
and VOL_CLASS change their field alone. The other volumes stay as they are. The drives of a new group (R262, R263,
R265): one for each member, all in service and of one tier, each with a free chunk, no two in one failure domain.
Model's readings in it: log entries 23, 88, 89. Completes: VOL_CREATE, VOL_GROW, VOL_DELETE, VOL_VCFLAGS_WRITE,
VOL_CLASS_WRITE. -/
def Obligations.VolumesAndGroups : Prop :=
  (∀ (s : State) (ch : Channel) (b : Bytes) (v : Nat),
    (Carries ch 1 0x3002 s → v = field b 0 2 → b.length = 32 → 4096 > v → schemeOk b = true →
      capacityOk (blockVolume b) (field b 8 8) = true → field b 2 1 + field b 3 1 ≤ (domainsHeld s).length →
      (∀ segs, getVol s v = none → takeSegments s (segmentsFor (blockVolume b) (field b 8 8)) = some segs →
        ((blockVolume b).encrypted = true → keyFree s (field b 16 4) = true) →
        Ends (.volCreate ch (onWire ch 0x3002 1 b)) s [.tabs, .jr, .dict] (fun t =>
          t.dict.last = some (stSuccess, none) ∧ (∃ q, ⟨q, .volumeCreate b⟩ ∈ t.jr.toDrives) ∧
          (∃ x, getVol t v = some x ∧ x.segments = segs ∧
            ((blockVolume b).encrypted = false ∨ xtsSkip s v (blockVolume b) 0 = false →
              t.jr.last = s.jr.last + 1 ∧ x.apart = { (blockVolume b).apart with segments := segs }) ∧
            ((blockVolume b).encrypted = true → xtsSkip s v (blockVolume b) 0 = true →
              0 < x.xgCur ∧ ∃ q, ⟨q, .xgenOpen v x.xgCur⟩ ∈ t.jr.toDrives)) ∧
          ∀ w, w ≠ v → (getVol t w).map Volume.apart = (getVol s w).map Volume.apart)) ∧
      (getVol s v ≠ none → Gives (.volCreate ch (onWire ch 0x3002 1 b)) s (answered stValue none s))) ∧
    (Carries ch 1 0x3002 s → ∀ vol segs, v = field b 0 2 → b.length = 16 → getVol s v = some vol →
      vol.capacity ≤ field b 8 8 → capacityOk vol (field b 8 8) = true →
      takeSegments s (segmentsFor vol (field b 8 8) - vol.segments.length) = some segs →
      Ends (.volGrow ch (onWire ch 0x3002 2 b)) s [.tabs, .jr, .dict] (fun t =>
        t.dict.last = some (stSuccess, none) ∧
        (∃ x, getVol t v = some x ∧
          x.apart = { vol.apart with capacity := field b 8 8, segments := vol.segments ++ segs }) ∧
        ∀ w, w ≠ v → (getVol t w).map Volume.apart = (getVol s w).map Volume.apart)) ∧
    (Carries ch 1 0x3002 s → v < 4096 →
      (getVol s v = none → Gives (.volDelete ch (putNum (bigEnd ch) 2 v)) s (answered stNotFound none s)) ∧
      (getVol s v ≠ none → (∃ p, accessCode s p v ≠ 0) →
        Gives (.volDelete ch (putNum (bigEnd ch) 2 v)) s (answered stBusy none s)) ∧
      (getVol s v ≠ none → (∀ p, accessCode s p v = 0) →
        (∀ c ∈ s.ce.cmds, (hasVolume c.entry = true → volField c.entry ≠ v) ∧ v ∉ c.vols) →
        Ends (.volDelete ch (putNum (bigEnd ch) 2 v)) s [.tabs, .etu, .jr, .dur, .qm, .cooper, .cache, .vault, .lock,
            .dict] (fun t =>
          t.dict.last = some (stSuccess, none) ∧ getVol t v = none ∧ (∃ q, ⟨q, .volumeDelete v⟩ ∈ t.jr.toDrives) ∧
          ∀ w, w ≠ v → (getVol t w).map (fun x => (x.k, x.m, x.capacity, x.segments)) =
            (getVol s w).map (fun x => (x.k, x.m, x.capacity, x.segments))))) ∧
    (Carries ch 1 0x3003 s → ∀ vol n, selNum s ch 0x3001 1 = v → getVol s v = some vol →
      (n < 256 → n % 2 = vol.vcflags % 2 →
        Gives (.volVcflagsWrite ch (putNum (bigEnd ch) 1 n)) s (answered stSuccess none
          (modVol v (fun x => { x with vcflags := n % 4, cls := vol.cls }) (journal (.volumeSet v (n % 4) vol.cls) s)))) ∧
      (n < 256 → n % 2 ≠ vol.vcflags % 2 →
        Gives (.volVcflagsWrite ch (putNum (bigEnd ch) 1 n)) s (answered stValue none s)) ∧
      (n < 16 → Gives (.volClassWrite ch (putNum (bigEnd ch) 1 n)) s (answered stSuccess none
        (modVol v (fun x => { x with vcflags := vol.vcflags, cls := n }) (journal (.volumeSet v vol.vcflags n) s)))))) ∧
  (∀ (s : State) (g n : Nat) (dense tier : Bool) (ds : List Nat), pickGroup s g n dense = some (ds, tier) →
    ds.length = n ∧ (ds.map (domainOf s)).Nodup ∧
    ∀ d ∈ ds, d ∈ inService s ∧ denseOf s d = tier ∧ (freeChunk s d).isSome = true)

/-- Destage to faces and logs (R195 to R197, R200, R202, R208, R273): a page of an extent in NONE opens a face on a new
group; a page that the log already holds joins the pack of the open log extent; a bench that is next goes into flight
with its parities, its dirty slots destaging, when the cache holds all of it or its hold has run out. Model's readings
in it: log entries 54, 162. Completes: PAGE_DESTAGE, FACE_BENCH_WRITE, FACE_HOLD_EXPIRY, LOG_BENCH_WRITE,
LOG_HOLD_EXPIRY. -/
def Obligations.DestageWrites : Prop :=
  ∀ (s : State) (v : Nat) (vol : Volume), dataRuns s = true → getVol s v = some vol → cipherReady s v vol = true →
    keySpent s vol = false →
    (∀ page x p e g u s1 y, x = page / max 1 vol.extentPages → p = page % max 1 vol.extentPages →
      dirtySlotOf s v vol x p = some e → e.2.state = .dirty → (getExt s v x).state = .none → pmEntry s v x p = none →
      mapReady s v x p = true → faceCount s < cfgFacesMax s → u = lookUp v vol [page] s →
      allocGroup v .face 1 x (newTier u (vol.k + vol.m)) u = (some g, s1) → getGroup s1 g = some y →
      Gives (.pageDestage v page) s (touchExt v x (modExt v x (fun e => { e with state := .face, group := some g })
        (journal (.faceOpen v y.gattr y.k y.m x g (y.members.map (·.chunk))) s1)))) ∧
    (∀ page x p e o ix, x = page / max 1 vol.extentPages → p = page % max 1 vol.extentPages →
      dirtySlotOf s v vol x p = some e → e.2.atomic = false → (getExt s v x).state ≠ .merging →
      pmEntry s v x p = some o → mapReady s v x p = true → missingBlocks s v x p vol e.2 = false →
      vol.openLog = some ix → 1 + promised s v vol ≤ logLeft s v ix → (packOf s v).pages.length < packMax vol.k →
      Gives (.pageDestage v page) s
        (packPage v x p (if vol.emul then e.2.bmask else fullMask) e.1 (lookUp v vol [page] s))) ∧
    (∀ x g grp, (getExt s v x).state = .face → (getExt s v x).group = some g → getGroup s g = some grp →
      nextBench s g < benchesPerGroup → groupWritable s grp = true →
      faceFree s g (benchSlots s v vol x (nextBench s g)) = true →
      (∀ c ∈ [Instr.faceBenchWrite v x, .faceHoldExpiry v x],
        (c = .faceBenchWrite v x → benchWhole s v vol x (nextBench s g) = true) →
        (c = .faceHoldExpiry v x → faceWaiting s v vol x ≠ []) →
        Ends c s [.free, .tabs, .etu, .jr, .dur, .qm, .cooper, .drv, .cache, .lock] (fun t =>
          ∃ f, t.etu.inflight = s.etu.inflight ++ [f] ∧ f.kind = .face ∧ f.group = g ∧ f.bench = nextBench s g ∧
            f.volume = v ∧ f.extent = x ∧ f.onMedia = false ∧
            f.data = encodeBench vol ((List.range vol.k).map
              (faceSett (benchSlots s v vol x (nextBench s g)) vol.k (nextBench s g))) ∧
            f.pages.map (fun q => (q.page, q.wc)) = (benchSlots s v vol x (nextBench s g)).map (fun q => (q.1, q.2.1)) ∧
            ∀ q ∈ f.pages, ∀ y, Tab.at? q.wc s.cache.slots = some y → y.state = .dirty →
              ∃ z, Tab.at? q.wc t.cache.slots = some z ∧ z.state = .destaging ∧ z.data = y.data))) ∧
    (∀ ix l grp, vol.openLog = some ix → getLog s ix = some l → getGroup s l.group = some grp →
      packSlots s v vol (packOf s v).pages ≠ [] → nextBench s l.group < benchesPerGroup → groupWritable s grp = true →
      (∀ c ∈ [Instr.logBenchWrite v, .logHoldExpiry v],
        (c = .logBenchWrite v → packMax vol.k ≤ (packOf s v).pages.length) →
        Ends c s [.free, .tabs, .etu, .jr, .dur, .qm, .cooper, .drv, .cache, .lock] (fun t =>
          (packOf t v).pages = [] ∧
          ∃ f, t.etu.inflight = s.etu.inflight ++ [f] ∧ f.kind = .log ∧ f.group = l.group ∧ f.logIx = ix ∧
            f.bench = nextBench s l.group ∧ f.pages = packSlots s v vol (packOf s v).pages ∧ f.onMedia = false)))

/-- What reaches the drives (R208, R209, R211, R220): a face bench all of whose setts are written becomes visible with a
FACE_ADVANCE record, the face's FILL moves past it and its slots are clean; a failed member of a group being written
takes a replacement chunk under a MEMBER_REPLACE record; the map records that wait go to the vault's journal. Model's
readings in it: log entries 25, 163. Completes: BENCH_ON_MEDIA, MEMBER_REPLACE, JOURNAL_FLUSH_EXPIRY. -/
def Obligations.BenchesReachMedia : Prop :=
  ∀ s : State, dataRuns s = true →
    (∀ f vol grp, s.etu.inflight = [f] → f.kind = .face → benchWritten s f.group f.bench = true → unitsOf s f = [] →
      getVol s f.volume = some vol → getGroup s f.group = some grp → (∀ c ∈ s.ce.cmds, c.stage ≠ .fetching) →
      Ends (.benchOnMedia f.group f.bench) s [.tabs, .etu, .jr, .qm, .cooper, .cache] (fun t =>
        t.etu.inflight = [] ∧
        (∃ q, ⟨q, .faceAdvance f.group f.extent grp.fill (grp.fill + 1) f.volume 0⟩ ∈ t.jr.toDrives) ∧
        (getGroup t f.group).map (·.fill) = some (grp.fill + 1) ∧
        ∀ p ∈ f.pages, ∀ y, Tab.at? p.wc s.cache.slots = some y → y.state = .destaging → y.old = false →
          ∃ z, Tab.at? p.wc t.cache.slots = some z ∧ z.state = .clean ∧ z.data = y.data)) ∧
    (∀ g mem grp m c, getGroup s g = some grp → grp.members[mem]? = some m → groupWritten s grp = true →
      chunkUp s m.chunk = false → pickReplacement true s g grp mem = some c →
      Ends (.memberReplace g mem) s [.free, .tabs, .jr, .dur, .qm, .cooper, .drv, .lock] (fun t =>
        (∃ q, ⟨q, .memberReplace g mem (writeCursor s g grp) m.chunk c⟩ ∈ t.jr.toDrives) ∧
        ((getGroup t g).bind (fun y => y.members[mem]?)) =
          some ⟨c, if writeCursor s g grp = 0 then .ok else .rebuilding⟩)) ∧
    (vaultHeld s = false → s.vault.failed = false → unjournalled s ≠ [] →
      recBytes s.jr.vault + recBytes (unjournalled s) ≤ journalPages * diePage →
      Ends .journalFlushExpiry s [.jr, .dur, .vault, .lock] (fun t =>
        t.jr.vault = s.jr.vault ++ unjournalled s ∧ t.jr.last = s.jr.last ∧ t.jr.ring = s.jr.ring))

/-- Merges (R212, R213, R215): a queued extent gets a target group and a MERGE_START record; each target bench on media
moves the merge on; a merge whose target is all on media ends with the extent CLOSED on the target; one that is
abandoned leaves a MERGE_ABANDON record with its reason. Model's readings in it: log entries 26, 169. Completes:
BENCH_ON_MEDIA, MERGE_START, MERGE_DONE, MERGE_ABANDON. -/
def Obligations.Merges : Prop :=
  ∀ (s : State) (v x : Nat) (vol : Volume), getVol s v = some vol →
    (∀ r g s1 y i, serving s = true → (getExt s v x).queued = some r → s.etu.merges.length < cfgMergesMax s →
      (getExt s v x).state ≠ .merging → (getExt s v x).state ≠ .none ∨ (getExt s v x).pmd.isSome = true →
      mergeSourceOk s v x = true → cipherReady s v vol = true → vol.state ≠ .offline → keySpent s vol = false ∨ r = 6 →
      extInFlight s v x = false → extUncommitted s v vol x = false → findMerge s v x = none → extIndex vol x = some i →
      allocGroup v .target 3 x (mergeTier s v x r) s = (some g, s1) → getGroup s1 g = some y →
      Ends (.mergeStart v x) s [.free, .tabs, .etu, .jr, .dur, .qm, .cooper, .drv, .cache, .lock] (fun t =>
        (∃ m ∈ t.etu.merges, m.volume = v ∧ m.extent = x ∧ m.target = g ∧ m.reason = r ∧ m.progress = 0) ∧
        (getExt t v x).state = .merging ∧ (getExt t v x).queued = none ∧
        ∃ q, ⟨q, .mergeStart x g v r y.gattr (y.members.map (·.chunk))⟩ ∈ t.jr.toDrives)) ∧
    (∀ f, dataRuns s = true → f ∈ s.etu.inflight → f.kind = .target → f.volume = v → f.extent = x →
      s.etu.inflight.find? (fun h => h.group == f.group && h.bench == f.bench) = some f →
      benchWritten s f.group f.bench = true → ∀ m, findMerge s v x = some m →
      Ends (.benchOnMedia f.group f.bench) s [.free, .tabs, .etu, .jr, .dur, .qm, .cooper, .drv, .cache, .lock] (fun t =>
        (findMerge t v x).map (·.progress) = some (m.progress + 1))) ∧
    (∀ m i n, serving s = true → findMerge s v x = some m → mergeComplete s m = true → vol.state ≠ .offline →
      extIndex vol x = some i →
      Ends (.mergeDone v x n) s [.tabs, .etu, .jr, .dur, .qm, .cooper, .vault, .lock] (fun t =>
        (getExt t v x).state = .closed ∧ (getExt t v x).group = some m.target ∧ m ∉ t.etu.merges ∧
        t.etu.merged = s.etu.merged + 1 ∧
        ∃ q, ⟨q, .mergeDone x m.target ((getExt s v x).group.getD 0xFFFFFFFF) v⟩ ∈ t.jr.toDrives)) ∧
    (∀ m reason, findMerge s v x = some m → 1 ≤ reason → reason ≤ 5 →
      Ends (.mergeAbandon v x reason) s [.tabs, .etu, .jr, .qm, .cooper, .cache] (fun t =>
        findMerge t v x = none ∧ t.etu.abandoned = s.etu.abandoned + 1 ∧
        ∃ q, ⟨q, .mergeAbandon x m.target v reason⟩ ∈ t.jr.toDrives))

/-- Checkpoints and the drive journal (R235 to R239): an interval's end, or CKPT_NOW, asks for a checkpoint; a
checkpoint takes the next number and covers every record so far: its image is on its way to the drives chosen, for the
slot of the older retained one, and both retained ones stay until its copies and labels are on media; a segment takes
the records that wait, in order, with the next SEG_SEQ. Model's readings in it: log entries 56, 90, 91, 145, 171.
Completes: CHECKPOINT, CKPT_INTERVAL_EXPIRY, CKPT_NOW, DJ_SEGMENT_SEAL, DJ_FLUSH_EXPIRY. -/
def Obligations.CheckpointsAndSegments : Prop :=
  ∀ s : State,
    (serving s = true → Gives .ckptIntervalExpiry s { s with dur := { s.dur with requested := true } }) ∧
    (∀ ch, Carries ch 1 0x3021 s → Gives (.ckptNow ch [1]) s
      (answered stSuccess none { s with dur := { s.dur with requested := true } })) ∧
    (ckptRuns s = true → s.dur.requested = true → s.dur.taking = none → inService s ≠ [] → ∀ first,
      Ends (.checkpoint first) s [.dur, .qm, .drv, .vault, .lock] (fun t =>
        t.dur.requested = false ∧ t.dur.nextCkpt = s.dur.nextCkpt + 1 ∧ t.dur.ckpt0 = s.dur.ckpt0 ∧
        t.dur.ckpt1 = s.dur.ckpt1 ∧
        (∃ k, t.dur.taking = some k ∧ k.labels = false ∧ k.image.tables = s.tabs ∧
          k.image.desc.id = s.dur.nextCkpt ∧ k.image.desc.covers = s.jr.last ∧ k.image.desc.epoch = s.dur.epoch ∧
          k.image.desc.slot = (if s.dur.ckpt0.id ≤ s.dur.ckpt1.id then 0 else 1) ∧
          k.image.desc.drives = ckptDrives s first) ∧
        ∀ d ∈ ckptDrives s first, Sent t d (.checkpoint s.dur.nextCkpt))) ∧
    (serving s = true → segmentDrives s ≠ [] → s.jr.toDrives ≠ [] →
      (∀ c ∈ [Instr.djFlushExpiry, .djSegmentSeal],
        (c = .djSegmentSeal → 3560 * 1024 ≤ recBytes s.jr.toDrives ∨ sealNeeded s = true) →
        Ends c s [.free, .jr, .dur, .qm, .drv, .lock] (fun t =>
          ∃ g : Segment, t.dur.record.segments = s.dur.record.segments ++ [g] ∧ g.seq = s.dur.segSeq + 1 ∧ t.dur.segSeq = g.seq ∧
            g.epoch = s.dur.epoch ∧ g.records = segmentRecords 0 s.jr.toDrives ∧
            g.records ++ t.jr.toDrives = s.jr.toDrives ∧ g.copies = segmentDrives s ∧
            (∀ n ∈ dirtyExtents s, n ∈ g.exposure) ∧ (∀ n ∈ s.dur.exposure, n ∈ g.exposure) ∧
            (∀ r, g.records.head? = some r → g.firstJseq = r.seq) ∧
            (∀ r, g.records.getLast? = some r → g.lastJseq = r.seq) ∧ g.media = [] ∧
            ∀ d ∈ g.copies, Sent t d (.segment g.seq))))

/-- Loss reports and import (R248 to R254): LOSS_ACK accepts the report whose epoch it names; SCAN of a foreign array
whose key is here ends SCANNED with an open report for the epoch after its last, and touches no table; COMMIT makes the
array this module's under a higher epoch and takes a checkpoint, with which it is done; CANCEL before it leaves nothing;
DISCARD_LOCAL, on a STALE module alone, empties it. Model's readings in it: log entries 92, 93, 95, 137, 168. Completes:
LOSS_ACK, IMPORT_SCAN, IMPORT_COMMIT, IMPORT_CANCEL, DISCARD_LOCAL. -/
def Obligations.LossAndImport : Prop :=
  ∀ (s : State) (ch : Channel),
    (∀ n, Carries ch 1 0x3024 s → n < 2 ^ 64 →
      (∀ r, s.dur.report = some r → n = r.epoch → Gives (.lossAck ch (putNum (bigEnd ch) 8 n)) s
        (answered stSuccess none { s with dur := { s.dur with report := some { r with accepted := true } } })) ∧
      (∀ r, s.dur.report = some r → n ≠ r.epoch →
        Gives (.lossAck ch (putNum (bigEnd ch) 8 n)) s (answered stValue none s)) ∧
      (s.dur.report = none → Gives (.lossAck ch (putNum (bigEnd ch) 8 n)) s (answered stNotFound none s))) ∧
    (Carries ch 2 0x3025 s →
      (∀ (i : ScanInputs) l ls k e r, s.dur.importState ≠ .scanning → s.dur.importState ≠ .committing → s.tabs.vols = [] →
        (s.lock.metaPending.orElse (fun _ => s.lock.metaKey)) = some k → scanLabels s i.drives = l :: ls →
        k.arrayId = l.arrayId → i.newerOk = true → e = (l :: ls).foldl (fun m x => max m x.epoch) 0 →
        r = (if s.dur.mediaArray = l.arrayId ∧ s.dur.epoch = e then s.dur.record else foreignRecord (drawNat s).1) →
        r.images ≠ [] →
        Ends (.importScan ch i) s [.free, .dur, .lock, .dict] (fun t =>
          t.dict.last = some (stSuccess, none) ∧ t.dur.importState = .scanned ∧ t.dur.scan.isSome = true ∧
          t.dur.importDrives = (l :: ls).length ∧ ∃ y, t.dur.report = some y ∧ y.cause = 3 ∧ y.accepted = false ∧
            y.source = e ∧ y.epoch = e + 1)) ∧
      (∀ i, s.dur.importState = .idle → s.lock.metaPending = none → s.lock.metaKey = none →
        Gives (.importScan ch i) s (answered stKeyUnavailable none s)) ∧
      (∀ r, s.dur.scan = some r → s.dur.importState = .scanned →
        Ends (.importCommit ch) s [.free, .tabs, .etu, .jr, .dur, .qm, .cooper, .drv, .cache, .vault, .lock,
            .dict] (fun t =>
          t.dict.last = some (stSuccess, none) ∧
          (t.dur.importState = .committing ∧ t.dur.taking ≠ none ∨ t.dur.importState = .done) ∧ t.dur.arrayId = r.arrayId ∧
          t.dur.epoch = r.epoch + 1 ∧ t.dur.scan = none ∧ t.lock.metaPending = none ∧
          t.dur.report.map (fun x => (x.epoch, x.cause, x.entries)) =
            some (r.report.epoch, r.report.cause, r.report.entries))) ∧
      (s.dur.scan = none ∨ s.dur.importState ≠ .scanned → Gives (.importCommit ch) s (answered stBusy none s)) ∧
      (s.dur.importState ≠ .committing → s.dur.importState ≠ .done →
        (s.dur.scan = none →
          Gives (.importCancel ch) s (answered stSuccess none (modDur (fun d => { d with importState := .idle }) s))) ∧
        (s.dur.scan ≠ none → Ends (.importCancel ch) s [.dur, .dict] (fun t => t.dict.last = some (stSuccess, none) ∧
          t.dur.importState = .idle ∧ t.dur.scan = none ∧ t.dur.report = none ∧ t.dur.arrayId = s.dur.arrayId ∧
          t.dur.epoch = s.dur.epoch ∧ t.dur.record = s.dur.record))) ∧
      (s.dur.path = .stale → s.dur.importState ≠ .scanning → s.dur.importState ≠ .committing →
        Ends (.discardLocal ch) s [.tabs, .etu, .jr, .dur, .qm, .cooper, .cache, .dump, .vault, .lock, .dict] (fun t =>
          t.dict.last = some (stSuccess, none) ∧ t.tabs = Tables.empty ∧ t.jr = Journal.reset ∧
          t.dur.arrayId = zeros 16 ∧ t.dur.path = .empty ∧ t.lock.metaKey = none ∧ t.dump.image = none)) ∧
      (s.dur.path ≠ .stale → Gives (.discardLocal ch) s (answered stBusy none s)))

/-- Shares, tiers and dispatch (R269 to R272, R278 to R283, R338): shares go out in order under BG_CAP; FAST_LIMIT
follows its curve, and MIGRATE merges run while FAST_USED exceeds it; a checkpoint is asked for when free chunks run
low; a window begins anew; the operation that is next goes out to a drive that may take one: of foreground work alone,
or of background work alone, that of lowest finish tag, and a background one with a part of its share left before
foreground that waits. Model's readings in it: log entries 62, 63, 64, 170. Completes: BG_SHARE_TICK, DRIVE_WINDOW_TICK,
FAST_LIMIT_TICK, DRIVE_DISPATCH, FREE_CHUNKS_LOW, TALLY_DECAY_EPOCH. -/
def Obligations.SharesAndDispatch : Prop :=
  ∀ s : State,
    (serving s = true → freeChunks s < cfgMergesMax s * 28 → 0 < spoilChunks s →
      (∀ u, s.qm.lastLowCkpt = some u → u + 30000000000 ≤ s.clk.uptime) →
      Gives .freeChunksLow s { s with
        dur := { s.dur with requested := true }, qm := { s.qm with lastLowCkpt := some s.clk.uptime } }) ∧
    (serving s = true → Ends .fastLimitTick s [.qm, .tabs] (fun t =>
      t.qm.fastLimit = fastLimitNow s ∧ (fastLimitNow s < fastUsed s → t.qm.migrating = true) ∧
      (fastUsed s ≤ fastLimitNow s - cfgMigrateHystPm s * fastCapacity s / 1000 → t.qm.migrating = false))) ∧
    (dataRuns s = true → Ends .bgShareTick s [.qm, .tabs] (fun t =>
      t.qm.shares.length = 5 ∧ sumNat t.qm.shares ≤ cfgBgCap s ∧ t.qm.curveOut.length = 7 ∧
      ∀ id, id < 7 → (id = 2 → rebuildGroups s ≠ []) →
        t.qm.curveOut.getD id 0 = (curveOf s id).at (curveInput s id))) ∧
    Gives .driveWindowTick s { s with qm := { s.qm with
      windowStart := s.clk.now / 10000000 * 10000000,
      queue := s.qm.queue.map (fun e => { e with held := false }),
      dispatchers := s.qm.dispatchers.map (fun e => (e.1, { e.2 with used := [] })) } } ∧
    (∀ d v o, getDrive s d = some v → driveUp s d = true → v.rcv.quiesced = false →
      groupHeld s (v.path.getD 0 0).toNat = false → v.ops.length < cfgDriveQdepth s v.proto → allOps s < 131072 →
      nextQueued s (getDispatcher s d) = some o →
      Ends (.driveDispatch d) s [.qm, .drv] (fun t =>
        t.drv.trace = s.drv.trace ++ [.issue d o.op] ∧ (getDrive t d).map (·.ops) = some (v.ops ++ [o.op]) ∧
        (o.flow.isForeground = true → (getDispatcher t d).vtime = o.finish) ∧
        (getDispatcher t d).queue = (getDispatcher s d).queue.filter (fun x => x.op.id != o.op.id))) ∧
    (∀ (q : Dispatcher) o, o ∈ q.queue → (∀ x ∈ q.queue, x.flow.isMetadata = false) →
      (((∀ x ∈ q.queue, x.flow.isBackground = false) ∨ (∀ x ∈ q.queue, x.flow.isForeground = false)) ∧
        (∀ x ∈ q.queue, x ≠ o → o.finish < x.finish)) ∨
      (2 ≤ q.queue.length ∧ shareLeft s q o = true ∧ (q.queue.erase o).all (fun x => x.flow.isForeground) = true) →
      nextQueued s q = some o) ∧
    Gives .tallyDecayEpoch s { s with qm := { s.qm with decay := s.qm.decay + 1 } }

/-- The settings of Quarrymaster (R260, R261, R278, R481): a curve that keeps its layout is stored and one that does not
is refused; DRIVE_DOMAIN and DRIVE_TIER change the selected drive. Lane groups and recovery tables (R321, R322, R326,
R340, R345): a GROUP_CFG value is stored and the group retrains, unless a field is refused or a drive in service hangs
on it; lanes that are lost take the group out of service and its drives UNREACHABLE; a table that keeps its layout is
loaded for its class. Completes: CURVE_WRITE, DRIVE_DOMAIN_WRITE, DRIVE_TIER_WRITE, GROUP_CFG_WRITE, GROUP_LANES_LOST,
RECOVERY_TABLE_WRITE. -/
def Obligations.DriveSettings : Prop :=
  (∀ (s : State) (ch : Channel),
    (∀ sub b, Carries ch 1 0x380A s → 1 ≤ sub → sub ≤ 7 → b.length = 64 →
      (curveOk (sub - 1) b = true → Gives (.curveWrite ch sub (onWire ch 0x380A 1 b)) s
        (answered stSuccess none (storeAt true (objKey 0 0x380A sub) (.bytes (curveKept (sub - 1) b)) s))) ∧
      (curveOk (sub - 1) b = false → Gives (.curveWrite ch sub (onWire ch 0x380A 1 b)) s (answered stValue none s))) ∧
    (∀ d n, Carries ch 1 0x3803 s → selNum s ch 0x3802 1 = d →
      (getDrive s d = none → n < 1024 →
        Gives (.driveDomainWrite ch (putNum (bigEnd ch) 2 n)) s (answered stNotFound none s)) ∧
      (getDrive s d ≠ none → n < 1024 →
        Ends (.driveDomainWrite ch (putNum (bigEnd ch) 2 n)) s [.free, .tabs, .qm, .drv, .lock, .dict] (fun t =>
          t.dict.last = some (stSuccess, none) ∧ domainOf t d = n)) ∧
      (getDrive s d ≠ none → n < 2 → Ends (.driveTierWrite ch [BitVec.ofNat 8 n]) s [.drv, .dict] (fun t =>
        t.dict.last = some (stSuccess, none) ∧ (getDrive t d).map (·.dense) = some (n == 1))))) ∧
  (∀ (s : State),
    (∀ ch sub n, Carries ch 1 0x4800 s → 1 ≤ sub → sub ≤ 24 → n < 2 ^ 32 →
      (groupCfgOk n = false →
        Gives (.groupCfgWrite ch sub (putNum (bigEnd ch) 4 n)) s (answered stValue none s)) ∧
      (groupCfgOk n = true → (∀ e ∈ s.drv.drives, (e.2.path.getD 0 0).toNat ≠ sub - 1) →
        Gives (.groupCfgWrite ch sub (putNum (bigEnd ch) 4 n)) s (answered stSuccess none
          (storeAt true (objKey 0 0x4800 sub) (.num (n % 1024)) (retrainGroup (sub - 1) n s)))) ∧
      (groupCfgOk n = true → (∃ e ∈ s.drv.drives, (e.2.path.getD 0 0).toNat = sub - 1 ∧ e.2.state = .online) →
        Gives (.groupCfgWrite ch sub (putNum (bigEnd ch) 4 n)) s (answered stBusy none s))) ∧
    (∀ g : Fin 24, serving s = true → s.drv.groupState.length = 24 →
      Ends (.groupLanesLost g) s (.pw :: recoveryParts) (fun t =>
        t.drv.groupState.getD g.val 0 = 3 ∧ g.val ∈ t.pw.groupsFailed ∧
        ∀ d v, getDrive s d = some v → (v.path.getD 0 0).toNat = g.val → driveUp s d = true →
          (getDrive t d).map (·.state) = some .unreachable)) ∧
    (∀ ch sub b, Carries ch 1 0x4810 s → 1 ≤ sub → sub ≤ 8 → b.length = 2048 →
      (recTableOk (sub - 1) b = true → Gives (.recoveryTableWrite ch sub (onWire ch 0x4810 1 b)) s (answered stSuccess none
        (storeAt true (objKey 0 0x4810 sub) (.bytes b) (loadTable (sub - 1) (recTableOf b) s)))) ∧
      (recTableOk (sub - 1) b = false → Gives (.recoveryTableWrite ch sub (onWire ch 0x4810 1 b)) s (answered stValue none s))))

/-- Map pages and rebuilds (R274, R276, R284, R285, R310): a page that is missing is read into a pool slot, and is
resident when the read is done; a dirty one is written back and is clean; the members on a failed drive are MISSING and
their groups queued; the group that is next gets a replacement chunk under a MEMBER_REPLACE record. Model's readings in
it: log entry 63. Completes: MAP_PAGE_FETCH, MAP_FETCH_DONE, MAP_WRITE_BACK, DRIVE_FAILED_QUEUE, REBUILD_START. -/
def Obligations.MapPagesAndRebuilds : Prop :=
  ∀ s : State,
    (∀ n i s1, dataRuns s = true → (Tab.at? n s.tabs.mapPages).isSome = true → (getRes s n).resident = false →
      (getRes s n).fetching = false → takePool s = some (i, s1) →
      Ends (.mapPageFetch n) s [.qm, .vault, .lock] (fun t =>
        t.qm.mapMisses = s.qm.mapMisses + 1 ∧ (getRes t n).fetching = true ∧ (getRes t n).slot = i)) ∧
    (∀ n, (getRes s n).fetching = true → vaultHeld s = false →
      Ends (.mapFetchDone n) s (.free :: discardParts) (fun t => (getRes t n).fetching = false ∧
        ((∀ c ∈ s.ce.cmds, c.stage ≠ .lookup) → (getRes t n).resident = true))) ∧
    (∀ n, dataRuns s = true → storeRuns s = true → (getRes s n).resident = true → (getRes s n).dirty = true →
      Ends (.mapWriteBack n) s [.qm, .vault, .lock] (fun t => (getRes t n).resident = true ∧ (getRes t n).dirty = false)) ∧
    (∀ d v, getDrive s d = some v → v.state = .failed →
      Ends (.driveFailedQueue d) s [.tabs, .jr, .qm, .cooper] (fun t =>
        ∀ (g : Nat) (grp : Group) (mem : Nat) (m : Member), getGroup s g = some grp → grp.state ≠ .spoil → grp.state ≠ .free → grp.members[mem]? = some m →
          chunkDrive s m.chunk = some d →
          ((getGroup t g).bind (fun y => y.members[mem]?)).map Member.state = some .missing ∧
          (m.state ≠ .missing → t.qm.queue.any (fun e => e.group == g) = true))) ∧
    (∀ g grp mem c, serving s = true → nextRebuild s = some g → (rebuilding s).length < cfgRebuildsMax s →
      getGroup s g = some grp → missingMembers grp = [mem] → relocateMembers s grp = [] →
      pickReplacement true s g grp mem = some c →
      Ends (.rebuildStart g) s [.tabs, .jr, .dur, .qm, .cooper, .drv, .lock] (fun t =>
        ((getGroup t g).bind (fun y => y.members[mem]?)) = some ⟨c, .rebuilding⟩ ∧
        (∃ q, ⟨q, .memberReplace g mem grp.fill ((grp.chunk? mem).getD 0) c⟩ ∈ t.jr.toDrives) ∧
        (∀ x ∈ t.tabs.repair, ¬(x.group = g ∧ x.member = mem)) ∧
        t.qm.queue.any (fun e => e.group == g) = false))

/-- The Assayer's outcomes (R294, R299 to R304, R308): the setts of a bench are deciphered, and wait while they cannot
be; a good bench is counted; one that differs is read again, marked so; one that cannot be recovered fails the READ that
asked for it; after the second read a difference that has gone is counted as transient, a located sett enters the repair
table, and one that cannot be located poisons the bench. Model's readings in it: log entries 70, 76, 161. Completes:
BENCH_READ_DONE, MISMATCH_REREAD. -/
def Obligations.BenchOutcomes : Prop :=
  ∀ (s : State) (g b : Nat) (grp : Group) (r : BenchRead) (read setts : List SettRead), dataRuns s = true →
    getGroup s g = some grp → setts = openSetts s grp b read →
    (groupReady s grp = false → ∀ c ∈ [Instr.benchReadDone g b read, .mismatchReread g b read], Gives c s s) ∧
    (groupReady s grp = true →
    (s.cooper.reads.find? (fun x => x.group == g && x.bench == b && !x.again) = some r →
      (∀ data decoded sure compared, judge s g grp r setts = .good data decoded sure compared →
        Ends (.benchReadDone g b read) s passParts (fun t =>
          t.cooper.verified = s.cooper.verified + b2n compared ∧
          t.cooper.decoded = s.cooper.decoded +
            b2n (benchDecoded s grp r (dedup (r.failed ++ failedSetts setts)) decoded compared))) ∧
      (judge s g grp r setts = .mismatch →
        Ends (.benchReadDone g b read) s [.free, .ports, .tabs, .qm, .cooper, .drv, .lock] (fun t =>
          ∃ x ∈ t.cooper.reads, x.group = g ∧ x.bench = b ∧ x.again = true ∧ x.reader = r.reader)) ∧
      (∀ (p : PortId) tag c e, judge s g grp r setts = .unrecoverable → r.reader = .host p.val tag → Waiting p tag c e s →
        Ends (.benchReadDone g b read) s [.free, .ports, .rings, .ce, .tabs, .qm, .cooper, .drv, .lock] (fun t =>
          ∃ st, (st = stOffline ∨ st = stUnrecoverable) ∧ Completed p tag c.ring e ⟨st, 0, 0⟩ s t))) ∧
    (s.cooper.reads.find? (fun x => x.group == g && x.bench == b && x.again) = some r →
      (∀ data decoded sure, judge s g grp { r with whole := true } setts = .good data decoded sure true →
        Ends (.mismatchReread g b read) s passParts (fun t =>
          t.cooper.transient = s.cooper.transient + 1 ∧ t.cooper.verified = s.cooper.verified + 1)) ∧
      (∀ failed e, failed = dedup (r.failed ++ failedSetts setts) →
        e = ((List.range grp.size).filter (settErased s g grp b failed)).length →
        judge s g grp { r with whole := true } setts = .mismatch →
        (∀ pos, 2 ≤ grp.m - e → locate grp.k (settsRead s g grp b failed setts) settBytes = some pos →
          s.tabs.repair.length < 65536 →
          Ends (.mismatchReread g b read) s passParts (fun t =>
            t.cooper.located = s.cooper.located + 1 ∧
            t.tabs.repair.any (fun x => x.group == g && x.bench == b && x.member == settMember grp.size b pos) = true)) ∧
        (grp.m - e < 2 → s.tabs.poison.length < 65536 →
          Ends (.mismatchReread g b read) s passParts (fun t =>
            t.cooper.unlocated = s.cooper.unlocated + 1 ∧ poisoned t g b = true)))))

/-- Rebuild, relocation, scrub and decay (R306, R308 to R313, R316): a rebuild pass writes the sett of each member that
needs the bench and moves on, or poisons the bench when fewer than k setts can be read; a member whose rebuild is on
media is OK; a relocation copies a sett that was read and goes on, leaves a bench that cannot be read to a rebuild pass,
and ends, with every bench on media, with the old chunk RETIRED; a MISSING member that is back is STALE until its group
is scrubbed first; a group found good is SCRUBBED now; tallies halve. Model's readings in it: log entries 77, 78, 79,
80, 161. Completes: REBUILD_BENCH, REBUILD_COMPLETE, RELOCATION_COPY, STALE_MEMBER_RETURN, SCRUB_GROUP, ERR_DECAY_SWEEP.
-/
def Obligations.RebuildAndScrub : Prop :=
  ∀ (s : State) (g : Nat) (grp : Group), serving s = true → getGroup s g = some grp →
    (∀ b vol read setts, setts = openSetts s grp b read → getVol s grp.volume = some vol → cipherReady s grp.volume vol = true → g ∈ rebuilding s →
      rebuildsAt s g b ≠ [] → failedSetts read = [] →
      (∀ x ∈ s.cooper.reads, x.group = g → x.bench = b → x.reader ≠ .rebuild) →
      (cfgRebuildVerify s = 0 → grp.k ≤ (settsRead s g grp b [] setts).length →
        (∀ q ∈ rebuildsAt s g b, ((grp.chunk? q.member).bind (chunkDrive s)).isSome = true) →
        Ends (.rebuildBench g b read) s [.qm, .cooper, .drv, .lock] (fun t =>
          t.cooper.settsRebuilt = s.cooper.settsRebuilt + (rebuildsAt s g b).length ∧
          ∀ q ∈ rebuildsAt s g b, ∃ x ∈ t.cooper.rebuilds, x.group = g ∧ x.member = q.member ∧ x.progress = b + 1)) ∧
      ((settsRead s g grp b [] setts).length < grp.k →
        (∀ m ∈ presentMembers s g grp b, setts.any (fun x => x.position == memberPos grp.size b m) = true) →
        s.tabs.poison.length < 65536 →
        Ends (.rebuildBench g b read) s [.tabs, .qm, .cooper, .drv, .lock] (fun t => poisoned t g b = true))) ∧
    (∀ mem r m, findRebuild s g mem = some r → grp.members[mem]? = some m →
      (r.copy = false → r.cursor ≤ rebuiltTo s r →
        Ends (.rebuildComplete g mem) s [.tabs, .jr, .cooper] (fun t =>
          (getGroup t g).bind (fun y => y.members[mem]?) = some ⟨m.chunk, .ok⟩ ∧ findRebuild t g mem = none ∧
          t.cooper.rebuildsDone = s.cooper.rebuildsDone + 1)) ∧
      (∀ vol, r.copy = true → getVol s grp.volume = some vol → cipherReady s grp.volume vol = true →
        (getChunk s m.chunk).hdrPending = false → g ∈ rebuilding s →
        (r.cursor ≤ r.progress → r.cursor ≤ rebuiltTo s r → ∀ rs, Ends (.relocationCopy g ⟨mem, rs⟩) s [.tabs, .jr, .cooper] (fun t =>
          (getGroup t g).bind (fun y => y.members[mem]?) = some ⟨m.chunk, .ok⟩ ∧ findRebuild t g mem = none ∧
          ((getChunk s r.oldChunk).state = .allocated → (getChunk s r.oldChunk).relocate = true →
            (getChunk t r.oldChunk).state = .retired))) ∧
        (r.progress + 1 < r.cursor → r.decode = false → repairEntry s g r.progress mem = false →
          (chunkDrive s m.chunk).isSome = true →
          (∀ x data, SettResult.bytes x = some data → Ends (.relocationCopy g ⟨mem, [x]⟩) s [.qm, .cooper, .drv, .lock] (fun t =>
            (findRebuild t g mem).map (·.progress) = some (r.progress + 1))) ∧
          Ends (.relocationCopy g ⟨mem, [.failed]⟩) s [.free, .tabs, .qm, .cooper, .drv] (fun t =>
            (findRebuild t g mem).map (fun y => (y.progress, y.decode)) = some (r.progress, true))))) ∧
    (∀ mem m, grp.holds = true → grp.members[mem]? = some m → m.state = .missing → chunkUp s m.chunk = true →
      (g, mem) ∉ s.cooper.noReturn →
      Ends (.staleMemberReturn g mem) s [.tabs, .jr, .qm, .cooper] (fun t =>
        (getGroup t g).bind (fun y => y.members[mem]?) = some ⟨m.chunk, .stale⟩ ∧ g ∈ t.cooper.scrubFirst ∧
        t.qm.queue.any (fun e => e.group == g) = true)) ∧
    (∀ benches, nextScrub s = some g → s.cooper.scrubGroup = none → s.cooper.scrubBad = 0 →
      scrubWhole s g grp benches = true →
      (∀ e ∈ benches.zip (List.range benches.length), failedSetts e.1 = [] ∧
        ∃ d x y z, judge s g grp ⟨g, e.2, true, [], .scrub, false, []⟩ (openSetts s grp e.2 e.1) = .good d x y z) →
      Ends (.scrubGroup benches) s [.free, .ports, .tabs, .jr, .qm, .cooper, .drv, .lock] (fun t =>
        (Tab.atD t.tabs.scrub g (0, 0)).1 = bitsOf s.clk.now 61 30 ∧
        t.cooper.scrubbed = s.cooper.scrubbed + benches.length)) ∧
    Gives .errDecaySweep s { s with tabs := { s.tabs with
      chunks := s.tabs.chunks.map (fun e => (e.1, { e.2 with errTally := e.2.errTally / 2 })) } }

/-- Drives found and lost (R330 to R336, R350, R550): a device whose GUID is not known takes its number, with the state
its answer and label give, or the number that its label names from a drive that it outranks; a silent device is
identified again and, when it answers, handled as newly found; a BLANK drive that goes leaves its number; a broadcast
primitive or a switch port change does the same to each drive it names. Model's readings in it: log entries 28, 141.
Completes: DRIVE_FOUND, DRIVE_GONE, BROADCAST_CHANGE, SWITCH_PORT_CHANGE, IDENTIFY_RETRY. -/
def Obligations.DrivesFound : Prop :=
  ∀ s : State, enumerating s = true →
    (∀ (i : DriveInfo) n l, groupHeld s (i.path.getD 0 0).toNat = false → silentOn s i.path = none →
      s.drv.drives.find? (fun e => i.answered && e.2.guid == fit 16 i.guid && !decide (e.1 ∈ s.drv.silent)) = none →
      outranked s i = none → numberFor s i = some (n, l) →
      Ends (.driveFound i) s [.free, .tabs, .drv] (fun t => Placed i n l t ∧
        t.drv.groupState = s.drv.groupState.set (i.path.getD 0 0).toNat 2)) ∧
    (∀ (i : DriveInfo) n w, groupHeld s (i.path.getD 0 0).toNat = false → silentOn s i.path = none → i.answered = true →
      s.drv.drives.find? (fun e => e.2.guid == fit 16 i.guid && !decide (e.1 ∈ s.drv.silent)) = none →
      outranked s i = some (n, w) →
      Ends (.driveFound i) s [.free, .tabs, .drv] (fun t =>
        (getDrive t n).map (·.guid) = some (fit 16 i.guid) ∧
        ∀ m x, m ≠ n → getDrive s m = none → getDrive t m = some x → x.guid = w.guid ∧ x.state = .foreign)) ∧
    (∀ d (i : DriveInfo), groupHeld s (i.path.getD 0 0).toNat = false → d ∈ s.drv.silent →
      (i.answered = false → Ends (.identifyRetry d i) s [.drv] (fun t =>
        ∃ op, op.what = .identify ∧ t.drv.trace = s.drv.trace ++ [.issue d op])) ∧
      (∀ n l, i.answered = true → outranked (dropDrive d s) i = none → numberFor (dropDrive d s) i = some (n, l) →
        Ends (.identifyRetry d i) s [.free, .tabs, .qm, .drv, .dict] (fun t => Placed i n l t ∧
          ∃ op, op.what = .identify ∧ .issue d op ∈ t.drv.trace))) ∧
    (∀ d v, getDrive s d = some v →
      (v.state = .blank → heldChunks s d = 0 →
        Ends (.driveGone d) s [.drv, .qm, .dict] (fun t => getDrive t d = none)) ∧
      (v.state = .online ∨ v.state = .evacuating ∨ v.state = .unreachable →
        Gives (.driveGone d) s (driveEventMatch d 6 (modDrive d (fun x => { x with present := false }) s)))) ∧
    (∀ (g : Fin 24) found lost, groupHeld s g.val = false → bitsOf (cfgGroupCfg s g.val) 1 0 = 2 →
      Gives (.broadcastChange g found lost) s
        (found.foldl (fun s i => findDrive i s) (lost.foldl (fun s d => loseDrive d s) s))) ∧
    (∀ (g : Fin 24) (i : DriveInfo) d, groupHeld s g.val = false → bitsOf (cfgGroupCfg s g.val) 1 0 = 1 →
      Gives (.switchPortChange g (some i) none) s (findDrive i s) ∧
      Gives (.switchPortChange g none (some d)) s (loseDrive d s))

/-- Adoption, removal and metadata of drives (R256, R336, R337, R347 to R349): ADOPT sends a BLANK or FOREIGN drive to
ADOPTING with a chunk span of its own, and creates the array where there is none; its writes done, it is ONLINE, or
INCOMPATIBLE after a failed one; REMOVE marks every ALLOCATED chunk RELOCATE; an emptied drive is REMOVE_READY with no
span left; FAIL and the loss wait lead to FAILED. A header copy A on media is followed by copy B, and with both on media
the chunk may be used (R230, R233). Model's readings in it: log entries 67, 140, 181. Completes: DRIVE_ADOPT,
ADOPT_DONE, DRIVE_REMOVE, DRIVE_CANCEL_REMOVE, DRIVE_FAIL, EVACUATION_DONE, DRIVE_LOSS_WAIT_EXPIRY, METADATA_ON_MEDIA.
-/
def Obligations.AdoptionAndRemoval : Prop :=
  ∀ (s : State) (d : Nat) (v : Drive), getDrive s d = some v →
    (∀ ch, (∃ c, ch = some c ∧ Carries c 2 0x4803 s ∧ selNum s c 0x3802 1 = d) ∨ (ch = none ∧ autoAdopts s d = true) →
      v.state = .blank ∨ v.state = .foreign → v.present = true →
      ∀ b, spanStart (leaveSpan d s) (chunkCount v.capacity) = some b →
      Ends (.driveAdopt ch d) s [.free, .tabs, .dur, .qm, .drv, .lock, .dict] (fun t =>
        (ch.isSome = true → t.dict.last = some (stSuccess, none)) ∧ (getDrive t d).map (·.state) = some .adopting ∧
        Tab.at? d t.tabs.spans = some ⟨b, chunkCount v.capacity, false⟩ ∧
        (s.dur.arrayId = zeros 16 → t.dur.epoch = 1 ∧ t.lock.metaKey.isSome = true) ∧
        (s.dur.arrayId ≠ zeros 16 → t.dur = { s.dur with headers := t.dur.headers }) ∧
        Sent t d .zeroArea ∧ Sent t d (.headerTable false))) ∧
    (v.state = .adopting → ∀ ok, Ends (.adoptDone d ok) s [.free, .tabs, .dur, .qm, .drv, .lock] (fun t =>
      (getDrive t d).map (·.state) = some (if ok then DState.online else .incompatible) ∧
      (getDrive t d).map (·.ops) = some [])) ∧
    (∀ ch, Carries ch 1 0x4803 s → selNum s ch 0x3802 1 = d →
      (v.state = .online → Ends (.driveRemove ch) s [.free, .tabs, .qm, .drv, .dict] (fun t =>
        t.dict.last = some (stSuccess, none) ∧ (getDrive t d).map (·.state) = some .evacuating ∧
        ∀ p c x, Tab.at? d s.tabs.spans = some p → p.base ≤ c → c < p.base + p.count →
          Tab.at? c s.tabs.chunks = some x → x.state = .allocated → (getChunk t c).relocate = true)) ∧
      (v.state ≠ .online → Gives (.driveRemove ch) s (answered stBusy none s)) ∧
      (v.state = .evacuating → v.why = .remove → Ends (.driveCancelRemove ch) s [.free, .tabs, .qm, .drv, .dict] (fun t =>
        t.dict.last = some (stSuccess, none) ∧ (getDrive t d).map (·.state) = some .online)) ∧
      (driveUp s d = true → Ends (.driveFail ch) s (.dict :: recoveryParts) (fun t =>
        t.dict.last = some (stSuccess, none) ∧ (getDrive t d).map (·.state) = some .failed ∧
        v.guid ∈ t.drv.failedGuids)) ∧
      (driveUp s d = false → Gives (.driveFail ch) s (answered stBusy none s))) ∧
    (v.state = .evacuating → heldChunks s d = 0 → Ends (.evacuationDone d) s [.free, .tabs, .drv] (fun t =>
      (getDrive t d).map (·.state) = some .removeReady ∧ Tab.at? d t.tabs.spans = none)) ∧
    (v.state = .unreachable → Ends (.driveLossWaitExpiry d) s [.free, .drv] (fun t =>
      (getDrive t d).map (·.state) = some .failed ∧ (getDrive t d).map (·.why) = some .lossWait)) ∧
    (∀ c b blk o, liveOp s d o.id = some o → o.what = .header c b blk → (getChunk s c).hdrPending = true →
      (∀ x ∈ v.ops, x ≠ o → x.ended = true ∨ ∀ blk', x.what ≠ .header c b blk') →
      Ends (.metadataOnMedia d (some c) b) s [.ports, .tabs, .etu, .jr, .dur, .qm, .cooper, .drv, .cache, .lock] (fun t =>
        (b = false → Sent t d (.header c true (headerBlock s d c))) ∧
        (b = true → (getChunk s c).state = .allocated → s.etu.merges = [] → s.dur.taking = none →
          (getChunk t c).hdrPending = false))) ∧
    (∀ b l o, liveOp s d o.id = some o → o.what = .label b l → Quiet s d →
      (∀ x ∈ v.ops, x ≠ o → x.ended = true ∨ ∀ l', x.what ≠ .label b l') →
      Gives (.metadataOnMedia d none b) s (dropOp d o.id s))

/-- The recovery engine (R341 to R344): whichever event occurs, the first row of the drive's table for its state is
taken: its next state, its timer and its actions; with no row the state stays. Model's readings in it: log entries 29,
66. Completes: DRIVE_CMD_OK, DRIVE_CMD_TIMEOUT, DRIVE_READ_MEDIA, DRIVE_WRITE_FAIL, DRIVE_TRANSPORT, DRIVE_RECOVERED,
DRIVE_LINK_DOWN, DRIVE_LINK_UP, DRIVE_RESET_DONE, DRIVE_RESET_FAILED, RECOVERY_TIMER_EXPIRY, HEALTH_CRITICAL. -/
def Obligations.RecoveryEngine : Prop :=
  ∀ (s : State) (c : Instr) (d ev op : Nat) (v : Drive) (o : DriveOp) (path : Bytes), getDrive s d = some v →
    (c, ev) ∈ [(Instr.driveTransport d none, 4), (.driveLinkDown d, 6), (.driveLinkUp d path, 7),
        (.driveResetDone d, 8), (.driveResetFailed d, 9), (.healthCritical d, 12)] ∨
      (v.rcv.timer ≠ 0 ∧ (c, ev) = (.recoveryTimerExpiry d, 10)) ∨
      (liveOp s d op = some o ∧
        ((c, ev) ∈ [(Instr.driveCmdTimeout d op, 1), (.driveTransport d (some op), 4), (.driveRecovered d op, 5)] ∨
        (v.rcv.state ≠ 0 ∧ (c, ev) = (.driveCmdOk d op, 0)) ∨ (o.isRead = true ∧ (c, ev) = (.driveReadMedia d op, 2)) ∨
        (o.isRead = false ∧ (c, ev) = (.driveWriteFail d op, 3)))) →
    (∀ n r, matchRow v.rcv.table v.rcv.state ev = some (n, r) →
      (r.limit = 0 ∨ Tab.atD v.rcv.counts n 0 + 1 ≤ r.limit →
        Ends c s recoveryParts (fun t => ∃ w, getDrive t d = some w ∧
          w.rcv.state = (if r.next = 0xFF then v.rcv.state else r.next) ∧
          (r.timer ≠ 0 → w.rcv.timer = r.timer) ∧
          (r.timer = 0 → r.next ≠ 0xFF → r.next ≠ v.rcv.state → w.rcv.timer = 0) ∧
          (r.actions.testBit 0 = true → r.actions.testBit 6 = false → w.rcv.quiesced = true) ∧
          (r.actions.testBit 6 = true → w.rcv.quiesced = false) ∧
          (r.actions.testBit 4 = true → .act d .resetDevice ∈ t.drv.trace) ∧
          (r.actions.testBit 5 = true → .act d .resetLink ∈ t.drv.trace) ∧
          (r.actions.testBit 9 = true → r.actions.testBit 10 = false → driveUp s d = true → w.state = .unreachable) ∧
          (r.actions.testBit 10 = true → r.actions.testBit 9 = false → driveUp s d = true → w.state = .failed))) ∧
      (r.limit ≠ 0 → r.limit < Tab.atD v.rcv.counts n 0 + 1 → r.past ≠ 0 →
        matchRow v.rcv.table r.past 11 = none →
        Ends c s recoveryParts (fun t => ∃ w, getDrive t d = some w ∧ w.rcv.state = r.past ∧ w.rcv.timer = 0))) ∧
    (matchRow v.rcv.table v.rcv.state ev = none →
      Ends c s recoveryParts (fun t => ∃ w, getDrive t d = some w ∧ w.rcv.state = v.rcv.state))

/-- Commands to drives and health (R342 to R344, R351): a completion outside the recovery states frees the tag, and that
of a segment counts its copy as on media; a count is forgotten at its window; a command beyond the hard limit makes a
drive UNREACHABLE; a late completion is counted; a health report is taken over, and a temperature at its threshold
raises an early warning. Completes: DRIVE_CMD_OK, COUNT_WINDOW_EXPIRY, DRIVE_CMD_HARD_LIMIT, DRIVE_LATE_COMPLETION,
HEALTH_POLL_EXPIRY, DRIVE_ASYNC_REPORT. -/
def Obligations.DriveCommandsAndHealth : Prop :=
  ∀ s : State,
    (∀ d op o v, liveOp s d op = some o → getDrive s d = some v → v.rcv.state = 0 → Quiet s d →
      (∀ g b mem data, o.what = .readSett g b mem ∨ o.what = .writeSett g b mem data →
        Gives (.driveCmdOk d op) s (dropOp d op s)) ∧
      (∀ n, o.what = .segment n →
        Gives (.driveCmdOk d op) s (modSegment n (fun x => { x with media := x.media ++ [d] }) (dropOp d op s)))) ∧
    (∀ d row, Gives (.countWindowExpiry d row) s
      (modDrive d (fun v => { v with rcv := { v.rcv with counts := Tab.del v.rcv.counts row } }) s)) ∧
    (∀ d op v o, getDrive s d = some v → v.ops.find? (fun o => o.id == op) = some o → driveUp s d = true →
      Ends (.driveCmdHardLimit d op) s recoveryParts (fun t =>
        (getDrive t d).map (·.state) = some .unreachable)) ∧
    (∀ d op, liveOp s d op = none → op < s.drv.nextOp → Gives (.driveLateCompletion d op) s
      (modDrive d (fun v => { v with late := v.late + 1, ops := v.ops.filter (fun o => o.id != op) }) s)) ∧
    (∀ (r : HealthReport) v, getDrive s r.drive = some v →
      Ends (.driveAsyncReport r) s [.free, .drv] (fun t => ∃ w, getDrive t r.drive = some w ∧ w.temp = r.temp ∧
        w.wear = (if v.rotating then 0 else min 255 r.wear) ∧
        (v.warnings.any (fun x => x.cause == 3) = false →
          w.warnings.any (fun x => x.cause == 3) = (r.overTemp || decide ((cfgEwTemp s : Int) ≤ r.temp))))) ∧
    (∀ reports : List HealthReport, awake s = true → (reports.map (·.drive)).Nodup →
      Ends (.healthPollExpiry reports) s [.free, .drv] (fun t => ∀ r ∈ reports, ∀ v : Drive,
        getDrive s r.drive = some v → ∃ w, getDrive t r.drive = some w ∧ w.temp = r.temp ∧
          (v.warnings.any (fun x => x.cause == 3) = false →
            w.warnings.any (fun x => x.cause == 3) = (r.overTemp || decide ((cfgEwTemp s : Int) ≤ r.temp)))))

/-- Memory errors (R358 to R360): a corrected error is counted, and a stack at its threshold retires; an uncorrectable
one is counted and lights FAULT, and drops a read-cache page or a clean slot, has a clean map page read again or a
running checkpoint repeated, or brings the module reset with the dump. Model's readings in it: log entry 179. Completes:
ECC_CORRECTED, ECC_UNCORRECTABLE. -/
def Obligations.MemoryErrors : Prop :=
  ∀ (s : State) (k : Fin 4), s.cache.stacksOk.toNat.testBit k.val = true → serving s = true →
    s.cache.corrected.length = 4 → s.cache.uncorrected.length = 4 →
    (∀ n, Ends (.eccCorrected k n) s [.free, .cache] (fun t =>
      t.cache.corrected.getD k.val 0 = s.cache.corrected.getD k.val 0 + n ∧
      (cfgEccRetireThreshold s ≤ corrected24 t k.val → t.cache.retiring.toNat.testBit k.val = true))) ∧
    (∀ p a, Ends (.eccUncorrectable p k a) s (.drv :: dumpParts) (fun t =>
      t.cache.uncorrected.getD k.val 0 = s.cache.uncorrected.getD k.val 0 + 1 ∧ FaultEvent.hbmError ∈ t.pw.faults)) ∧
    (∀ a, Ends (.eccUncorrectable .readCache k a) s [.pw, .cache] (fun t => 
      t.cache.rc = s.cache.rc.eraseIdx (rcIndex s a))) ∧
    (∀ a x, Tab.at? (a / 4096) s.cache.slots = some x →
      (x.state = .clean → Ends (.eccUncorrectable .writeCache k a) s [.pw, .cache] (fun t =>
        Tab.at? (a / 4096) t.cache.slots = none)) ∧
      (x.state = .dirty ∨ x.state = .destaging → Ends (.eccUncorrectable .writeCache k a) s dumpParts (fun t =>
        DumpBegun .hbmError s.side.pwrGood t ∧ t.dump.marked = true)) ∧
      (x.state = .fetching ∨ x.state = .staged → Ends (.eccUncorrectable .writeCache k a) s dumpParts
        (DumpBegun .hbmError s.side.pwrGood))) ∧
    (∀ a, a < 2 ^ 32 → Ends (.eccUncorrectable .maps k a) s dumpParts (DumpBegun .hbmError s.side.pwrGood)) ∧
    (∀ a e, 2 ^ 32 ≤ a → s.qm.residency.find? (fun e => e.2.slot == (a - 2 ^ 32) / 65536) = some e →
      (e.2.dirty = true →
        Ends (.eccUncorrectable .maps k a) s dumpParts (DumpBegun .hbmError s.side.pwrGood)) ∧
      (e.2.dirty = false → Ends (.eccUncorrectable .maps k a) s [.pw, .qm, .cache, .vault, .lock] (fun t =>
        (getRes t e.1).resident = false))) ∧
    (∀ a, a < protectedBytes → Ends (.eccUncorrectable .journal k a) s dumpParts (fun t =>
      DumpBegun .hbmError s.side.pwrGood t ∧ t.dump.marked = true)) ∧
    (∀ a x, protectedBytes ≤ a → a < stagingEnd → s.dur.taking = some x → x.labels = false →
      Ends (.eccUncorrectable .journal k a) s [.pw, .dur, .qm, .drv, .cache, .vault, .lock] (fun t =>
        t.dur.taking.map (·.image.desc.id) = some x.image.desc.id ∧ t.pw.state = s.pw.state)) ∧
    (∀ a, stagingEnd ≤ a → Ends (.eccUncorrectable .journal k a) s [.pw, .cache] (fun t => t.pw.state = s.pw.state))

/-- The modes of the write cache and the map cache (R365, R370 to R373): CACHE_MODE 1 makes the cache write-through in
service; a fill that completes leaves its line VALID, or invalid when it was to be; CLEAN changes nothing, INVALIDATE
takes the lines named; a value out of range is refused, and one while an operation runs is answered BUSY. Model's
readings in it: log entries 37, 39, 48, 178. Completes: CACHE_MODE_WRITE, CACHE_MODE_CHANGE, MCACHE_FILL_DONE,
MCACHE_CLEAN, MCACHE_INVALIDATE, MCACHE_CLEAN_INVALIDATE. -/
def Obligations.CacheModes : Prop :=
  ∀ s : State,
    (∀ ch n, Carries ch 1 0x5010 s → n < 2 → Ends (.cacheModeWrite ch [BitVec.ofNat 8 n]) s [.dict] (fun t =>
      t.dict.last = some (stSuccess, none) ∧ cfgCacheMode t = n ∧
      (serving s = true → n = 1 → t.cache.mode = 2 ∧ t.cache.wtCause.testBit 0 = true))) ∧
    Ends .cacheModeChange s [] (fun t => t.cache.mode = cacheState t) ∧
    (∀ line f, s.mc.fills.find? (fun g => g.line == line) = some f → Ends (.mcacheFillDone line) s [.mc] (fun t =>
      (∀ g ∈ t.mc.fills, g.line ≠ line) ∧
      (f.drop = false → ∃ l, Tab.at? f.way t.mc.lines = some l ∧ l.tag = (mcPlace s.mc line).2 ∧ l.state = .valid) ∧
      (f.drop = true → t.mc.busy = t.mc.fills.any (fun g => g.drop)))) ∧
    (∀ (ch : Channel) (b : Bytes) (c : Instr) (op : Nat), Carries ch 1 0x5020 s → b.length = 16 →
      (c = .mcacheClean ch (onWire ch 0x5020 5 b) ∧ op = 1) ∨ (c = .mcacheInvalidate ch (onWire ch 0x5020 5 b) ∧ op = 2) ∨
        (c = .mcacheCleanInvalidate ch (onWire ch 0x5020 5 b) ∧ op = 3) →
      (s.mc.busy = true → Gives c s (answered stBusy none s)) ∧
      (s.mc.busy = false → mcOpOk s (mcacheValue op b) = false → Gives c s (answered stValue none s)) ∧
      (s.mc.busy = false → mcOpOk s (mcacheValue op b) = true →
        (op = 1 → Gives c s (answered stSuccess none s)) ∧
        (op ≠ 1 → Ends c s [.mc, .dict] (fun t => t.dict.last = some (stSuccess, none) ∧
          (field b 1 1 = 2 → t.mc.lines = [] ∧ ∀ f ∈ t.mc.fills, f.drop = true) ∧
          (field b 1 1 = 1 → Tab.at? (field b 4 2 * 16 + field b 6 1) t.mc.lines = none) ∧
          (field b 1 1 = 0 → ∀ i, i < field b 2 2 →
            let p := mcPlace s.mc (field b 8 8 / 128 + i * (if s.mc.mode = 1 then 4 else 1))
            mcWay t.mc p.1 p.2 = none)))))

/-- The store of the vault (R399 to R405): a page goes to the open log block and maps there, or waits when none can be
had; a victim with nothing valid becomes FREE, or leaves use where it is to, one that holds exactly one store block is
switched; folding goes on while the SLC data is above its limit; a stripe whose sets all pass is verified, its empty
sets and its parity becoming FREE or leaving use; a flush of the media journal lets recorded sets be erased. Model's
readings in it: log entry 55. Completes: STORE_WRITE, LOG_BLOCK_COLLECT, FOLD, STRIPE_VERIFY, MEDIA_JOURNAL_FLUSH. -/
def Obligations.StoreWrites : Prop :=
  ∀ s : State, storeRuns s = true →
    (∀ lpn i, lpn < storePages → openLogBlock s = some i → Ends (.storeWrite lpn) s [.vault] (fun t =>
      Tab.at? lpn t.vault.logPages = some (i * slcRows + rowsOf s i) ∧ rowsOf t i = rowsOf s i + 1 ∧
      t.vault.health.bytesWritten = s.vault.health.bytesWritten + diePage)) ∧
    (∀ lpn, lpn < storePages → needLogBlock s = none → lpn ∉ s.vault.writes →
      Gives (.storeWrite lpn) s { s with vault := { s.vault with writes := s.vault.writes ++ [lpn] } }) ∧
    (openLogBlock s = none → logBlocksMax ≤ s.vault.logBlocks.length →
      ∀ i, collectVictim s = some i →
        ((getSet s i).valid = 0 → Ends .logBlockCollect s [.vault] (fun t => i ∉ t.vault.logBlocks ∧
          (i ∈ s.vault.condemned ∨ ratedWear ≤ (getSet s i).wear → setState t i = .retired) ∧
          (i ∉ s.vault.condemned → (getSet s i).wear < ratedWear → setState t i = .free ∧ i ∈ t.vault.pendingErase))) ∧
        (∀ b, (getSet s i).valid ≠ 0 → switchBlock s i = some b → Ends .logBlockCollect s [.vault] (fun t =>
          i ∉ t.vault.logBlocks ∧ ∃ c ∈ t.vault.collects, c.sources = [i] ∧ c.targets = [i] ∧ c.blocks = [b]))) ∧
    Ends .fold s [.vault] (fun t => t.vault.folding =
      (decide (slcLimit s * 2 ^ 30 < slcHeld s) ||
        (s.vault.folding && decide (slcLimit s * 2 ^ 30 * 9 / 10 < slcHeld s)))) ∧
    (∀ x failing, s.vault.stripes.find? (fun y => y.id == x.id && y.closed) = some x →
      (∀ i ∈ x.sets, setState s i = .closed ∧ i ∉ failing ∧ i ≠ x.parity ∧ i ∉ s.vault.condemned ∧
        dieOk s (setDie i) = true) → s.vault.collects = [] →
      Ends (.stripeVerify x.id failing) s [.vault] (fun t =>
        (∀ i ∈ x.sets, (getSet s i).valid ≠ 0 → setState t i = .verified) ∧
        (∀ i, (i = x.parity ∨ (i ∈ x.sets ∧ (getSet s i).valid = 0)) →
          setState t i = (if i ∈ s.vault.condemned ∨ ratedWear ≤ (getSet s i).wear then .retired else .free)) ∧
        ∀ y ∈ t.vault.stripes, y.id ≠ x.id)) ∧
    Gives .mediaJournalFlush s { s with vault := { s.vault with
      flushSeq := s.vault.wseq, flushes := s.vault.flushes + 1
      snapshot := if (s.vault.flushes + 1) % 1024 = 0 then s.vault.wseq else s.vault.snapshot
      erasing := s.vault.erasing ++ s.vault.pendingErase, pendingErase := [] } }

/-- The dump area and the care of the vault (R392, R393, R399, R401, R409 to R411, R417): a used dump set is erased and
armed again with one more wear unit; a read that ends is counted, an erase that ends leaves its set erased and one erase
older, ten in TLC mode, and a program that ends is noted; one that fails its arm check is erased again; a set read above
REWRITE_BITS is rewritten; a lost page of the journal or a checkpoint asks for a checkpoint; failures are counted; a
temperature joins its hour. Model's readings in it: log entries 11, 96. Completes: DUMP_REARM, ARM_CHECK, VAULT_REFRESH,
VAULT_PAGE_LOST, VAULT_OP_FAIL, SLC_CURVE_WRITE, VAULT_TEMP_SAMPLE, VAULT_OPERATION_DONE. -/
def Obligations.VaultCare : Prop :=
  ∀ s : State, serving s = true → s.vault.failed = false →
    (∀ bad, s.vault.rearming = true → s.dump.image = none → Ends (.dumpRearm bad) s [.dur, .vault] (fun t =>
      t.vault.rearming = false ∧ ∀ i ∈ dumpSets s, setState s i = .dumpUsed → bad = [] →
        (getSet s i).wear + 1 < ratedWear → setState t i = .dumpArmed ∧ (getSet t i).wear = (getSet s i).wear + 1)) ∧
    (∀ failing bad, s.dump.image = none → failing.Nodup → Ends (.armCheck failing bad) s [.dur, .vault] (fun t =>
      ∀ i ∈ failing, setState s i = .dumpArmed → i ∈ dumpSets s → bad = [] → inMaint s (0x1D + setDie i % 8) = false →
        setState t i = .dumpArmed ∧ (getSet t i).wear = (getSet s i).wear + 1)) ∧
    (∀ v : SetVerdict, vaultHeld s = false → setState s v.set = .closed ∨ setState s v.set = .verified →
      (v.ok = true → v.worst ≤ cfgRewriteBits s → Ends (.vaultRefresh [v]) s [.vault] (fun t =>
        (getSet t v.set).worst = min 255 v.worst ∧ t.vault.health.rewrites = s.vault.health.rewrites)) ∧
      (v.ok = false ∨ cfgRewriteBits s < v.worst → (∀ c ∈ s.vault.collects, v.set ∉ c.sources) →
        Ends (.vaultRefresh [v]) s [.vault] (fun t => t.vault.health.rewrites = s.vault.health.rewrites + 1))) ∧
    (∀ region lpn, Ends (.vaultPageLost region lpn) s [.dur, .vault] (fun t =>
      t.vault.health.uncorrectable = s.vault.health.uncorrectable + 1 ∧
      (region = .journal ∨ region = .ckpt0 ∨ region = .ckpt1 → t.dur.requested = true) ∧
      (∀ i, region = .map → lpn < storePages → vaultHeld s = false → openLogBlock s = some i →
        Tab.at? lpn t.vault.logPages = some (i * slcRows + rowsOf s i)))) ∧
    (∀ i timeout, setDie i < 64 →
      Ends (.vaultOpFail i .program timeout) s [.dur, .vault] (fun t =>
        t.vault.health.programFails = s.vault.health.programFails + 1) ∧
      Ends (.vaultOpFail i .erase timeout) s [.dur, .vault] (fun t =>
        t.vault.health.eraseFails = s.vault.health.eraseFails + 1) ∧
      Ends (.vaultOpFail i .read timeout) s [.dur, .vault] (fun t =>
        t.vault.health.retryReads = s.vault.health.retryReads + 1 ∧
        Tab.atD t.vault.timeouts (setDie i) 0 = if timeout then Tab.atD s.vault.timeouts (setDie i) 0 + 1 else 0)) ∧
    (∀ i, vaultUp s = true →
      Gives (.vaultOperationDone i .read) s (modHealth (fun h => { h with bytesRead := h.bytesRead + diePage })
        (modVault (fun v => { v with timeouts := Tab.del v.timeouts (setDie i) }) s)) ∧
      (∀ w, w = (getSet s i).wear + (if (getSet s i).mode = 2 then 10 else 1) → i ∈ s.vault.erasing → w < ratedWear →
        Ends (.vaultOperationDone i .erase) s [.vault] (fun t =>
          setState t i = .erased ∧ (getSet t i).wear = w ∧ i ∉ t.vault.erasing)) ∧
      (∀ q, (∀ x ∈ s.vault.stripes, x.parity ≠ i) → s.vault.programs.find? (fun p => p.set == i && !p.own) = some q →
        Gives (.vaultOperationDone i .program) s (modVault (fun v => { v with
          timeouts := Tab.del v.timeouts (setDie i)
          programs := v.programs.map (fun p => if p = q then { p with own := true } else p) }) s))) ∧
    (∀ ch b, Carries ch 1 0x5802 s → b.length = 64 →
      (curveOk 0 b = true → Gives (.slcCurveWrite ch (onWire ch 0x5802 3 b)) s
        (answered stSuccess none (storeAt true (objKey 0 0x5802 3) (.bytes (curveKept 0 b)) s))) ∧
      (curveOk 0 b = false → Gives (.slcCurveWrite ch (onWire ch 0x5802 3 b)) s (answered stValue none s))) ∧
    (∀ peak, Ends (.vaultTempSample peak) s [.vault] (fun t =>
      t.vault.health.tempMax = max s.vault.health.tempMax peak ∧
      t.vault.health.tempHours = s.vault.health.tempHours.modify
        (if peak < 0 then 0 else if 95 ≤ peak then 20 else (peak / 5).toNat + 1) (· + 1)))

/-- Pack and charger (R33, R419 to R426, R438): a sample is decoded; an NTC fault, an overvoltage and the charger's own
causes bring FAULT with RESERVE_OK 0; a pack is inserted and removed, and a dump that is still writing then loses its
source; QUALIFY leads to DONE, FAULT or a charge; a CV hold ends in DONE; a rest window opens, is extended once, and
closes. Model's readings in it: log entry 18. Completes: PACK_SAMPLE, PACK_INSERT, PACK_REMOVE, REST_WINDOW_OPEN,
REST_NOW, REST_WINDOW_END, QUALIFY_END, CV_HOLD_END, CHARGER_FAULT. -/
def Obligations.PackAndCharger : Prop :=
  ∀ s : State,
    (∀ sense, s.pw.state ≠ .off → Ends (.packSample sense) s [.tally] (fun t =>
      t.tally.pack.state = packIdState sense.ident ∧ t.tally.pack.ntcFault = ntcBad sense.ntc ∧
      t.tally.pack.temp = (if ntcBad sense.ntc then s.tally.pack.temp else ntcTemp sense.ntc) ∧
      (packIdState sense.ident ≠ 0 → t.tally.pack.cells = sense.cells ∧ t.tally.pack.mv = sense.pack) ∧
      (packIdState sense.ident ≠ 1 → t.tally.charger.state = .noPack) ∧
      (packIdState sense.ident = 1 → s.tally.charger.state ≠ .fault →
        (ntcBad sense.ntc = true → t.tally.charger.state = .fault ∧ t.tally.charger.fault = 6) ∧
        (ntcBad sense.ntc = false → 4250 < greatestCell sense.cells →
          t.tally.charger.state = .fault ∧ t.tally.charger.fault = 3)))) ∧
    (s.tally.pack.latched = false → Ends .packInsert s [.tally] (fun t =>
      t.tally.pack.state = 1 ∧ t.tally.pack.inserted = s.clk.now ∧ t.tally.pack.latched = true ∧
      (s.tally.gauge.running = true → awake s = true →
        t.tally.gauge.u0 = 5 ∧ t.tally.gauge.capLearned = 0 ∧ t.tally.learn.due = true))) ∧
    (s.tally.pack.latched = true → Ends .packRemove s [.pw, .tally, .dump] (fun t =>
      t.tally.pack.state = 0 ∧ t.tally.pack.inserted = 0 ∧ t.tally.pack.latched = false ∧
      t.tally.charger.state = .noPack ∧ t.tally.gauge.reserveOk = false ∧ t.tally.gauge.energyLow = 0 ∧
      (s.pw.state ≠ .dump → t.dump = s.dump) ∧
      (s.pw.state = .dump → s.side.dumpAct = true → s.dump.dumped = false → t.dump.sourceLost = true))) ∧
    (s.tally.charger.state = .qualify → awake s = true → Ends .qualifyEnd s [.tally] (fun t =>
      (4100 ≤ leastCell s.tally.pack.cells → t.tally.charger.state = .done) ∧
      (leastCell s.tally.pack.cells < 2500 → s.tally.pack.state = 1 →
        t.tally.charger.state = .fault ∧ t.tally.charger.fault = 4) ∧
      (2500 ≤ leastCell s.tally.pack.cells → leastCell s.tally.pack.cells < 4100 →
        t.tally.charger.state = if leastCell s.tally.pack.cells < 3000 then .precharge else .cc))) ∧
    (s.tally.charger.state = .cv → awake s = true → Ends .cvHoldEnd s [.tally] (fun t => t.tally.charger.state = .done)) ∧
    (∀ cause, 1 ≤ cause → cause ≤ 7 → awake s = true → s.tally.pack.state = 1 → s.tally.charger.state ≠ .fault →
      Ends (.chargerFault cause) s [.tally] (fun t => t.tally.charger.state = .fault ∧ t.tally.charger.fault = cause ∧
        t.tally.gauge.reserveOk = false ∧ t.tally.gauge.energyLow = 0)) ∧
    (coreRuns s = true → s.tally.gauge.refTime = 0 ∨ s.tally.gauge.refTime + 20 * hourNs ≤ s.clk.now →
      restMayOpen s = true → Ends .restWindowOpen s [.tally] (fun t => t.tally.charger.restOpen = true)) ∧
    (s.tally.charger.restOpen = true →
      (s.tally.charger.extended = false → s.tally.gauge.refTime < s.tally.charger.restSince →
        Gives .restWindowEnd s { s with tally := { s.tally with
          charger := { s.tally.charger with extended := true } } }) ∧
      (s.tally.charger.extended = true → Ends .restWindowEnd s [.tally] (fun t =>
        t.tally.charger.restOpen = false))) ∧
    (∀ ch n, Carries ch 1 0x6002 s → n < 2 → Ends (.restNow ch [BitVec.ofNat 8 n]) s [.tally, .dict] (fun t =>
      t.dict.last = some (stSuccess, none) ∧
      t.tally.charger.restOpen = ((n == 1 && restMayOpen s) || s.tally.charger.restOpen)))

/-- The estimator (R430 to R437, R443 to R445): an update takes a rest reference where one can be had and the rules of
R430 otherwise; after 72 h the estimate is stale and the reserve not held; the estimator starts from the newest slot of
the pack that is fitted; a slot write goes to the older of the two slots. Model's readings in it: log entries 19, 20.
Completes: ESTIMATE_UPDATE, ESTIMATE_STALE, NV_SLOT_WRITE, NV_SLOT_PERIOD_EXPIRY, ESTIMATOR_START. -/
def Obligations.Estimator : Prop :=
  ∀ s : State, coreRuns s = true →
    (s.tally.gauge.running = true → s.tally.pack.state = 1 →
      Ends .estimateUpdate s [.tally] (fun t =>
        (restHolds s = false → t.tally.gauge.e = nextEstimate s ∧ t.tally.gauge.u = uncertainty s) ∧
        (restHolds s = true → t.tally.gauge.refTime = s.clk.now ∧ t.tally.gauge.stale = false ∧
          t.tally.gauge.e = socFromOcv (ocvAt s (packTempC s)) (leastCell s.tally.pack.cells))) ∧
      (s.tally.gauge.stale = false → Ends .estimateStale s [.tally] (fun t =>
        t.tally.gauge.stale = true ∧ t.tally.gauge.reserveOk = false ∧ t.tally.gauge.r = socLow s.tally.gauge))) ∧
    (s.tally.gauge.running = false → Ends .estimatorStart s [.tally] (fun t => t.tally.gauge.running = true ∧
      (∀ n, newestSlot s.tally = some n → s.tally.pack.latched = true → s.tally.pack.inserted = n.inserted →
        t.tally.gauge.capLearned = n.capLearned ∧ t.tally.gauge.rScale = n.rScale ∧ t.tally.gauge.refTime = n.refTime ∧
        (n.learnActive = true → t.tally.learn.lost = true ∧ t.tally.learn.due = true)) ∧
      (newestSlot s.tally = none → s.tally.pack.state = 1 →
        t.tally.gauge.u0 = 5 ∧ t.tally.gauge.capLearned = 0 ∧ t.tally.learn.due = true))) ∧
    (s.tally.gauge.running = true → ∀ c, c = .nvSlotWrite ∨ (c = .nvSlotPeriodExpiry ∧
        (s.tally.lastSlot = 0 ∨ s.tally.lastSlot + 60 * secNs ≤ s.clk.uptime)) →
      Ends c s [.tally] (fun t => if slotZeroNext s.tally
        then t.tally.slot0 = slotNow s (s.tally.slot1.seq + 1) ∧ t.tally.slot1 = s.tally.slot1
        else t.tally.slot1 = slotNow s (s.tally.slot0.seq + 1) ∧ t.tally.slot0 = s.tally.slot0)) ∧
    (s.tally.gauge.running = true → s.tally.lastSlot ≠ 0 → s.clk.uptime < s.tally.lastSlot + 60 * secNs →
      Gives .nvSlotPeriodExpiry s { s with tally := { s.tally with slotDue := true } })

/-- The learn cycle (R439 to R442): it starts where R439 allows it, by a write or by itself; its discharge is the state
LEARN, its rest follows in SERVICE, or THROTTLE where a sensor stands at a level; a discharge ended on voltage, between
20 and 55 Wh, teaches the capacity, any other is INVALID; abandoned, it leaves LEARN and LEARN_DUE stays set; a dump
does not abandon it. The pack tables (R427, R428): a value that keeps the layout is stored and sets TABLE_CHANGED; any
other is refused. Model's readings in it: log entries 21, 53, 59, 140. Completes: LEARN_START, LEARN_STOP,
LEARN_DISCHARGE_BEGIN, LEARN_DISCHARGE_END, LEARN_RESULT, LEARN_ABANDON, OCV_TABLE_WRITE, RES_TABLE_WRITE. -/
def Obligations.LearnCycle : Prop :=
  (∀ s : State,
    (∀ ch, (∃ c, ch = some c ∧ Carries c 1 0x6004 s) ∨ (ch = none ∧ coreRuns s = true ∧ cfgLearnAuto s = 1 ∧
        learnDue s = true) →
      learnMayStart s = true → Ends (.learnStart ch) s [.tally, .dict] (fun t =>
        t.tally.learn.state = .preparing ∧ t.tally.learn.active = true ∧ t.tally.learn.started = s.clk.uptime)) ∧
    (∀ ch, Carries ch 1 0x6004 s →
      (learnMayStart s = false → Gives (.learnStart (some ch)) s (answered stBusy none s)) ∧
      (learnRunning s = false → Gives (.learnStop ch) s (answered stBusy none s))) ∧
    (s.pw.state = .dump → Gives .learnAbandon s s) ∧
    (∀ c, learnRunning s = true → s.pw.state ≠ .dump → c = .learnAbandon ∨ (∃ ch, Carries ch 1 0x6004 s ∧ c = .learnStop ch) →
      Ends c s [.pw, .tally, .dict] (fun t => t.tally.learn.state = .abandoned ∧ t.tally.learn.active = false ∧
        t.tally.learn.due = true ∧
        t.pw.state = if s.pw.state = .learn then (if sensorsHot s then .throttle else .service) else s.pw.state)) ∧
    (s.tally.learn.state = .preparing → s.pw.state = .service → dirtySlots s = [] →
      Ends .learnDischargeBegin s [.pw, .tally] (fun t => t.pw.state = .learn ∧ t.tally.learn.state = .discharging ∧
        t.tally.learn.step2 = s.clk.uptime ∧ t.tally.charger.state = .learn)) ∧
    (s.tally.learn.state = .discharging → s.pw.state = .learn → ∀ v, Ends (.learnDischargeEnd v) s [.pw, .tally] (fun t =>
      t.pw.state = (if sensorsHot s then .throttle else .service) ∧ t.tally.learn.state = .resting ∧ t.tally.learn.onVoltage = v ∧
      t.tally.charger.state = .rest)) ∧
    (s.tally.learn.state = .resting → coreRuns s = true → Ends .learnResult s [.tally] (fun t =>
      let e := socFromOcv (ocvAt s (packTempC s)) (leastCell s.tally.pack.cells)
      t.tally.charger.state = .qualify ∧ t.tally.learn.active = false ∧
      (if s.tally.learn.onVoltage = true ∧ e ≤ 20 ∧ 20 ≤ learnQ s e ∧ learnQ s e ≤ 55
       then t.tally.learn.state = .done ∧ t.tally.gauge.capLearned = (learnQ s e * 1000).floor.toNat ∧
        t.tally.gauge.learnCount = s.tally.gauge.learnCount + 1
       else t.tally.learn.state = .invalid ∧ t.tally.learn.due = true)))) ∧
  (∀ (s : State) (ch : Channel) (b : Bytes), Carries ch 2 0x6006 s →
    (b.length = 352 →
      (ocvTableOk b = true → Gives (.ocvTableWrite ch (onWire ch 0x6006 1 b)) s
        (answered stSuccess none (tableChanged (storeAt true (objKey 0 0x6006 1) (.bytes b) s)))) ∧
      (ocvTableOk b = false → Gives (.ocvTableWrite ch (onWire ch 0x6006 1 b)) s (answered stValue none s))) ∧
    (b.length = 544 →
      (resTableOk s b = true → Gives (.resTableWrite ch (onWire ch 0x6006 2 b)) s
        (answered stSuccess none (tableChanged (storeAt true (objKey 0 0x6006 2) (.bytes b) s)))) ∧
      (resTableOk s b = false → Gives (.resTableWrite ch (onWire ch 0x6006 2 b)) s (answered stValue none s))) ∧
    (b.length ≠ 352 → Gives (.ocvTableWrite ch b) s (answered stType none s)) ∧
    (b.length ≠ 544 → Gives (.resTableWrite ch b) s (answered stType none s)))

/-- Keys (R451 to R455, R474): a blob whose header is malformed, whose parent is absent or that does not unwrap is
refused by name; one that is accepted joins the keys, and the store when it is to persist, and is measured in MR4; an
exportable key is read out wrapped under a CUSTODIAN_KEK. Model's readings in it: log entries 40, 41, 81, 82, 83.
Completes: KEY_LOAD, KEY_EXPORT. -/
def Obligations.Keys : Prop :=
  ∀ (s : State) (ch : Channel), Carries ch 2 0x6801 s →
    (∀ b : Bytes, b.length = 104 →
      (blobHeaderOk b = false → Gives (.keyLoad ch (onWire ch 0x6801 1 b)) s (answered stValue none s)) ∧
      (blobHeaderOk b = true → s.lock.drbg ≠ 2 → s.lock.engineOk = true →
        (blobParent s ch b = none → Gives (.keyLoad ch (onWire ch 0x6801 1 b)) s (answered stKeyUnavailable none s)) ∧
        (∀ parent, blobParent s ch b = some parent →
          match Config.unwrap (field b 6 1) parent (b.drop 32) with
          | none => Gives (.keyLoad ch (onWire ch 0x6801 1 b)) s (answered stUnwrapFailed none s)
          | some plain => ∀ k, k = blobKey b plain → attrOk b plain = true → allZero k.value = false →
            (k.kind = 2 → allZero s.dur.arrayId = true) → (heldKeys s).any (sameKey k) = false → (∀ x ∈ s.lock.keys ++ s.lock.metaKey.toList, x.id ≠ k.id) →
            storeFull s k.kind = false →
            Ends (.keyLoad ch (onWire ch 0x6801 1 b)) s [.lock, .dict] (fun t => t.dict.last = some (stSuccess, none) ∧
              (k.kind = 2 → t.lock.metaPending = some k ∧ t.lock.keys = s.lock.keys) ∧
              (k.kind ≠ 2 → t.lock.keys = s.lock.keys ++ [k] ∧ (bit k.flags 0 = true → k ∈ t.lock.store)) ∧
              t.lock.mrs = s.lock.mrs.set 4
                (Config.sha512 (s.lock.mrs.getD 4 [] ++ Config.sha512 (keyMeasure k))))))) ∧
    (∀ sel, sel = selBytes s ch 0x6801 3 (zeros 8) →
      (∀ k kek, (s.lock.keys ++ s.lock.metaKey.toList).find? (fun k => k.id == field sel 0 4) = some k →
        getKey s (field sel 4 4) = some kek → kek.kind = 1 →
        (s.lock.metaKey = some k ∨ bit k.flags 1 = true → Ends (.keyExport ch) s [.dict] (fun t =>
          t.dict.last = some (stSuccess, some (.bytes (exportBlob k kek))))) ∧
        (s.lock.metaKey ≠ some k → bit k.flags 1 = false →
          Gives (.keyExport ch) s (answered stAccessDenied none s))) ∧
      (getKey s (field sel 4 4) = none → Gives (.keyExport ch) s (answered stAccessDenied none s)))

/-- KEY_DESTROY (R456): it is refused with BUSY for MK while an array is held, for a VOLUME_KEY bound to a volume and
for a CUSTODIAN_KEK that is the parent of a loaded key; any other key is gone, from SRAM and from the key store, when it
completes. A number of no key is NOT_FOUND. Completes: KEY_DESTROY. -/
def Obligations.KeyDestroy : Prop :=
  ∀ (s : State) (ch : Channel) (n : Nat), Carries ch 2 0x6801 s → n < 2 ^ 32 →
    ((∀ k ∈ heldKeys s, k.id ≠ n) →
      Gives (.keyDestroy ch (putNum (bigEnd ch) 4 n)) s (answered stNotFound none s)) ∧
    (∀ k, (heldKeys s).find? (fun x => x.id == n) = some k →
      ∀ used : Prop, used = ((k.kind = 2 ∧ s.lock.metaKey = some k ∧ allZero s.dur.arrayId = false) ∨
        (k.kind = 3 ∧ ∃ e ∈ s.tabs.vols, e.2.encrypted = true ∧ e.2.keyId = n) ∨
        (k.kind = 1 ∧ ∃ x ∈ heldKeys s, x.kind ≠ 1 ∧ x.parent = n)) →
      (used → Gives (.keyDestroy ch (putNum (bigEnd ch) 4 n)) s (answered stBusy none s)) ∧
      (¬used → Ends (.keyDestroy ch (putNum (bigEnd ch) 4 n)) s [.lock, .dict] (fun t =>
        t.dict.last = some (stSuccess, none) ∧ (∀ x ∈ heldKeys t, x.id ≠ n) ∧ ∀ x ∈ t.lock.store, x.id ≠ n)))

/-- Generations and known-answer tests (R462 to R470): a roll opens the next generation, one further where its keys are
equal, and is refused at its limit; a third DRBG failure stands; the tests note their time when every lane and the key
engine pass, and take out of use what failed, with FAULT lit. Cooper's known-answer tests (R317, R318): a run that
passes, at once or when repeated, is noted with its time; a second failure sends the module to DUMP, with Cooper failed;
a failure at the interval waits for its repetition. Model's readings in it: log entry 41. Completes: KAT_RUN,
KAT_INTERVAL_EXPIRY, KAT_REPEAT, XGEN_ROLL, DRBG_HEALTH_FAIL, LOCK_KAT_RUN, LOCK_KAT_INTERVAL_EXPIRY. -/
def Obligations.GenerationsAndTests : Prop :=
  (∀ s : State,
    (∀ ch n, Carries ch 2 0x6802 s → n < 2 ^ 16 →
      (getVol s n = none → Gives (.xgenRoll ch (putNum (bigEnd ch) 2 n)) s (answered stNotFound none s)) ∧
      (∀ vol, getVol s n = some vol →
        (vol.encrypted = false → Gives (.xgenRoll ch (putNum (bigEnd ch) 2 n)) s (answered stNotFound none s)) ∧
        (vol.encrypted = true → rollAllowed vol = false →
          Gives (.xgenRoll ch (putNum (bigEnd ch) 2 n)) s (answered stKeyLimit none s)) ∧
        (vol.encrypted = true → rollAllowed vol = true → ∀ g, g = (if xtsSkip s n vol (vol.xgCur + 1) = true ∧
            vol.xgCur + 1 < 255 then vol.xgCur + 2 else vol.xgCur + 1) →
          Ends (.xgenRoll ch (putNum (bigEnd ch) 2 n)) s [.tabs, .jr, .dict] (fun t =>
            t.dict.last = some (stSuccess, none) ∧ (∃ w, getVol t n = some w ∧ w.xgCur = g ∧ w.xgUnits = 0) ∧
            ∃ q, ⟨q, .xgenOpen n g⟩ ∈ t.jr.toDrives)))) ∧
    (awake s = true → s.lock.drbg = 1 → Gives .drbgHealthFail s { s with lock := { s.lock with drbg := 2 } }) ∧
    (∀ lanes engine,
      let bad := (dedup lanes).filter (fun n => decide (n < 48) && s.lock.lanesOk.toNat.testBit n)
      let passes (t : State) : Prop := t.lock.katResult = 1 ∧ t.lock.katLastPass = s.clk.now ∧
        t.lock.lanesOk = s.lock.lanesOk ∧ t.lock.engineOk = s.lock.engineOk ∧ FaultEvent.lockKat ∉ t.pw.faults
      let fails (t : State) : Prop := t.lock.katResult = 2 ∧ t.lock.engineOk = (s.lock.engineOk && !engine) ∧
        (∀ i, i < 48 → t.lock.lanesOk.toNat.testBit i = (s.lock.lanesOk.toNat.testBit i && !decide (i ∈ lanes))) ∧
        FaultEvent.lockKat ∈ t.pw.faults
      (serving s = true →
        (bad = [] → engine = false → Ends (.lockKatIntervalExpiry lanes engine) s [.pw, .lock] passes) ∧
        (bad ≠ [] ∨ engine = true → Ends (.lockKatIntervalExpiry lanes engine) s [.pw, .lock] fails)) ∧
      (∀ ch, Carries ch 1 0x6805 s →
        (s.pw.state = .dump → Gives (.lockKatRun ch [1] lanes engine) s (answered stBusy none s)) ∧
        (s.pw.state ≠ .dump → s.pw.state ≠ .standby →
          (bad = [] → engine = false → Ends (.lockKatRun ch [1] lanes engine) s [.pw, .lock, .dict] (fun t =>
            t.dict.last = some (stSuccess, none) ∧ passes t)) ∧
          (bad ≠ [] ∨ engine = true → Ends (.lockKatRun ch [1] lanes engine) s [.pw, .lock, .dict] (fun t =>
            t.dict.last = some (stSelftest, none) ∧ fails t)))))) ∧
  (∀ s : State,
    let passed : State := { s with cooper := { s.cooper with
      katResult := 1, katLastPass := s.clk.now, katPending := false } }
    (∀ ch v, Carries ch 1 0x4001 s → s.pw.state ≠ .standby → s.pw.state ≠ .dump →
      ((v : KatVerdict).first = true ∨ v.second = true → Gives (.katRun ch [1] v) s (answered stSuccess none passed)) ∧
      (v.first = false → v.second = false → Ends (.katRun ch [1] v) s (dumpParts ++ [.dict]) (fun t =>
        DumpBegun .coderKat s.side.pwrGood t ∧ t.cooper.failed = true ∧ t.cooper.katResult = 2 ∧
        t.dict.last = some (stSelftest, none)))) ∧
    (∀ ch v, Carries ch 1 0x4001 s → s.pw.state = .dump → Gives (.katRun ch [1] v) s (answered stBusy none s)) ∧
    (∀ v : KatVerdict, serving s = true →
      (v.first = true → Gives (.katIntervalExpiry v) s passed) ∧
      (v.first = false → Gives (.katIntervalExpiry v) s
        { s with cooper := { s.cooper with katPending := true } }) ∧
      (s.cooper.katPending = true → v.second = true → Gives (.katRepeat v) s passed) ∧
      (s.cooper.katPending = true → v.second = false → Ends (.katRepeat v) s dumpParts (fun t =>
        DumpBegun .coderKat s.side.pwrGood t ∧ t.cooper.failed = true ∧ t.cooper.katResult = 2))))

/-- Images, measurements and quotes (R471 to R477): the rollback fuses only rise, to what the running image and the
other one allow; an update goes through BEGIN, its pieces in order, and VERIFY under the checks of R472; MR_EXTEND
extends MR7; a nonce is kept for its channel, and the quote over it is signed. Model's readings in it: log entries 41,
69, 86. Completes: ROLLBACK_COMMIT, FW_UPDATE_BEGIN, FW_UPDATE_DATA, FW_UPDATE_VERIFY, FW_UPDATE_CANCEL, MR_EXTEND,
QUOTE_NONCE, QUOTE_SIGNED. -/
def Obligations.ImagesAndQuotes : Prop :=
  ∀ (s : State) (ch : Channel),
    (Carries ch 2 0x6806 s →
      (∀ n, n < 256 →
        (n < s.lock.fuses → Gives (.rollbackCommit ch [BitVec.ofNat 8 n]) s (answered stValue none s)) ∧
        (n = s.lock.fuses → Gives (.rollbackCommit ch [BitVec.ofNat 8 n]) s (answered stSuccess none s)) ∧
        (s.lock.fuses < n → imageSvn (imageSlot s s.pw.bootImage) < n →
          Gives (.rollbackCommit ch [BitVec.ofNat 8 n]) s (answered stRollback none s)) ∧
        (s.lock.fuses < n → n ≤ imageSvn (imageSlot s s.pw.bootImage) → Gives (.rollbackCommit ch [BitVec.ofNat 8 n]) s
          (if imageCheck s (imageSlot s (otherSlot s)) = none ∧ imageSvn (imageSlot s (otherSlot s)) < n
           then answered stBusy none s
           else answered stSuccess none { s with lock := { s.lock with fuses := n } }))) ∧
      (updating s = false ∨ s.lock.fwOwner = some (chanKey ch) → Ends (.fwUpdateBegin ch) s [.lock, .dict] (fun t =>
        t.dict.last = some (stSuccess, none) ∧ t.lock.fwState = .receiving ∧ t.lock.fwData = [] ∧
        t.lock.fwOwner = some (chanKey ch) ∧ (imageSlot t (otherSlot t)).present = false)) ∧
      (updating s = true → s.lock.fwOwner ≠ some (chanKey ch) →
        Gives (.fwUpdateBegin ch) s (answered stBusy none s)) ∧
      (∀ b : Bytes, b.length = 4096 →
        (s.lock.fwState = .receiving → s.lock.fwOwner = some (chanKey ch) → s.lock.fwData.length + 4096 ≤ imageMax →
          Ends (.fwUpdateData ch b) s [.lock, .dict] (fun t =>
            t.dict.last = some (stSuccess, none) ∧ t.lock.fwData = s.lock.fwData ++ b)) ∧
        (s.lock.fwState ≠ .receiving → Gives (.fwUpdateData ch b) s (answered stBusy none s))) ∧
      (s.lock.fwState = .receiving → s.lock.fwOwner = some (chanKey ch) → Gives (.fwUpdateVerify ch) s
        (match imageCheck s (imageSlot s (otherSlot s)) with
         | none => answered stSuccess none { s with lock := { s.lock with fwState := .verified } }
         | some c => answered (if c = 5 then stRollback else stSignature) none
            { s with lock := { s.lock with fwState := .failed } })) ∧
      (s.lock.fwOwner = some (chanKey ch) → Ends (.fwUpdateCancel ch) s [.lock, .dict] (fun t =>
        t.dict.last = some (stSuccess, none) ∧ t.lock.fwState = .idle ∧ t.lock.fwOwner = none ∧
        (imageSlot t (otherSlot t)).present = false))) ∧
    (∀ b : Bytes, Carries ch 2 0x6807 s → b.length = 64 → Ends (.mrExtend ch b) s [.lock, .dict] (fun t =>
      t.dict.last = some (stSuccess, none) ∧
      t.lock.mrs = s.lock.mrs.set 7 (Config.sha512 (s.lock.mrs.getD 7 [] ++ Config.sha512 b)))) ∧
    (∀ b : Bytes, Carries ch 0 0x6807 s → b.length = 64 → Ends (.quoteNonce ch b) s [.lock, .dict] (fun t =>
      t.dict.last = some (stSuccess, none) ∧ findQuote t (chanKey ch) = some ⟨chanKey ch, b, none⟩)) ∧
    (∀ q body sig, findQuote s (chanKey ch) = some q → awake s = true → q.quote = none →
      body = (if 4 ≤ chanKey ch then swapFields quoteWidths (quoteBody s q.nonce) else quoteBody s q.nonce) →
      sig = Config.rsaSign s.lock.drbgRequests body →
      Ends (.quoteSigned ch) s [.lock] (fun t =>
        findQuote t (chanKey ch) = some { q with quote := some (body ++ fit 512 sig) }))

/-- The checks of the dictionary in their order (R480, R481, R487): an object that is not defined, one that may not be
read or written so, a role too small, an object not available, a wrong length, a value out of range; a read that passes
answers the object's value, a write of an object that only holds a value keeps it, a DESCRIBE answers its row; without a
session the answer is SESSION_EXPIRED. Model's readings in it: log entries 121, 122, 124, 125, 135. Completes:
DICT_READ, DICT_WRITE, DICT_DESCRIBE. -/
def Obligations.DictionaryChecks : Prop :=
  ∀ (s : State) (ch : Channel) (index sub : Nat), dictRuns s = true →
    (∀ id, ch = .rxmp id → chanSession s ch = none →
      Gives (.dictRead ch index sub) s (answered stExpired none s) ∧
      (∀ b, Gives (.dictWrite ch index sub b) s (answered stExpired none s)) ∧
      Gives (.dictDescribe ch index sub) s (answered stExpired none s)) ∧
    (∀ x, chanSession s ch = some x → x.setup = false →
      (defRow index sub = none →
        Gives (.dictRead ch index sub) s (answered stNotFound none s) ∧
        (∀ b, Gives (.dictWrite ch index sub b) s (answered stNotFound none s)) ∧
        Gives (.dictDescribe ch index sub) s (answered stNotFound none s)) ∧
      (∀ r, defRow index sub = some r →
        Gives (.dictDescribe ch index sub) s (answered stSuccess (some (.bytes (describeBytes (bigEnd ch) r))) s) ∧
        (r.access = 3 → Gives (.dictRead ch index sub) s (answered stWriteOnly none s)) ∧
        (r.access ≠ 3 → x.role < r.role → r.access ≠ 2 →
          Gives (.dictRead ch index sub) s (answered stAccessDenied none s)) ∧
        (r.access = 2 ∨ (r.access = 1 ∧ r.role ≤ x.role) →
          (available s index = false → Gives (.dictRead ch index sub) s (answered stBusy none s)) ∧
          (available s index = true → sub ≠ 0 → Gives (.dictRead ch index sub) s
            (let y := readValue r ch index sub s
             answered y.1.1 (if y.1.1 = stSuccess then some y.1.2 else none) y.2)) ∧
          (available s index = true → sub = 0 → Gives (.dictRead ch index sub) s
            (answered stSuccess (some r.dflt) s))) ∧
        (∀ b : Bytes,
          (r.access = 1 → Gives (.dictWrite ch index sub b) s (answered stReadOnly none s)) ∧
          (r.access ≠ 1 → x.role < r.role → Gives (.dictWrite ch index sub b) s (answered stAccessDenied none s)) ∧
          (r.access ≠ 1 → r.role ≤ x.role →
            (available s index = false → Gives (.dictWrite ch index sub b) s (answered stBusy none s)) ∧
            (available s index = true →
              (lengthOk r b = false → Gives (.dictWrite ch index sub b) s (answered stType none s)) ∧
              (lengthOk r b = true → ∀ v, v = decodeVal (bigEnd ch) r b →
                (rangeOk r v = false → Gives (.dictWrite ch index sub b) s (answered stValue none s)) ∧
                (rangeOk r v = true →
                  (match v with
                    | .num n => writeNum none none r ch index sub n s
                    | .bytes c => writeOct r ch index sub c s) = none →
                  Gives (.dictWrite ch index sub b) s
                    (answered stSuccess none (keepValue r ch index sub v s)))))))))

/-- Opening a session over the network (R489 to R492): an OPEN is answered by a CHALLENGE and waits for its PROVE; one
too many from an address is dropped, one beyond the limits rejected with BUSY; a PROVE that shows the credential opens
the session with the role asked for; any other is rejected with AUTH_FAILED and counted, and the fifth locks the NAME.
Model's readings in it: log entries 41, 58, 127, 128, 144. Completes: OPEN, PROVE, OPEN_FLOOD_DROP. -/
def Obligations.SessionOpens : Prop :=
  ∀ (s : State) (source m : Bytes), netUp s = true → malformed true m = false →
    (msgType m = 1 →
      (flooded s source = true →
        Gives (.openMsg none source m) s { s with sess := { s.sess with openDropped := s.sess.openDropped + 1 } } ∧
        Gives (.openFloodDrop source) s { s with sess := { s.sess with openDropped := s.sess.openDropped + 1 } }) ∧
      (flooded s source = false → 32 ≤ rxmpOpen s ∨ 64 ≤ s.sess.pending.length →
        Ends (.openMsg none source m) s [.sess] (fun t =>
          t.sess.net = s.sess.net ++ [plainMsg true 8 (msgSession true m) stBusy 0 (msgSeq true m) []] ∧
          t.sess.rejected = s.sess.rejected + 1 ∧ t.sess.pending = s.sess.pending)) ∧
      (flooded s source = false → rxmpOpen s < 32 → s.sess.pending.length < 64 →
        Ends (.openMsg none source m) s [.lock, .sess] (fun t => ∃ x : PendingSession,
          t.sess.pending = s.sess.pending ++ [x] ∧ x.id = freeSession s ∧ x.port = none ∧
          x.name = slice (msgBody m) 0 32 ∧ x.role = field (msgBody m) 32 1 ∧ x.cnonce = slice (msgBody m) 40 32 ∧
          t.sess.net = s.sess.net ++
            [plainMsg true 2 x.id 0 0 0 (x.snonce ++ challengeTail true s x.name)]))) ∧
    (msgType m = 3 → ∀ id seq, id = msgSession true m → seq = msgSeq true m →
      (s.sess.pending.find? (fun x => x.id == id && x.port == none) = none →
        Ends (.proveMsg none source m) s [.sess] (fun t =>
          t.sess.net = s.sess.net ++ [plainMsg true 8 id stExpired 0 seq []] ∧
          t.sess.rejected = s.sess.rejected + 1)) ∧
      (∀ x, s.sess.pending.find? (fun x => x.id == id && x.port == none) = some x →
        match provenCred true s x (msgBody m) with
        | none => Ends (.proveMsg none source m) s [.sess] (fun t =>
          t.sess.net = s.sess.net ++ [plainMsg true 8 id stAuthFailed 0 seq []] ∧
          t.sess.authFailures = s.sess.authFailures + 1 ∧ t.sess.sessions = s.sess.sessions ∧
          t.sess.pending = s.sess.pending.filter (fun y => y.id != id) ∧
          (4 ≤ (s.sess.fails.filter (fun f => decide (s.clk.uptime < f.2 + 60 * secNs) && f.1 == x.name)).length →
            x.name ∈ t.sess.locked))
        | some c => rxmpOpen s < 32 → Ends (.proveMsg none source m) s [.sess] (fun t => ∃ n : Session,
          t.sess.sessions = s.sess.sessions ++ [n] ∧ n.id = x.id ∧ n.port = none ∧ n.role = x.role ∧
          n.slot = c.slot ∧ n.setup = c.setup ∧ n.last = 0 ∧
          t.sess.pending = s.sess.pending.filter (fun y => y.id != id) ∧
          t.sess.net = s.sess.net ++ [sealedMsg true n.mak 4 x.id 0 0 0
            (fit 64 (Config.hmac512 c.k (proofText true "YE-RXMP-M" x)) ++
              putNum true 4 (cfgSessionLifetime s) ++ zeros 4)])))

/-- Messages in a session over the network (R484, R486, R488, R493, R495): a malformed one, and one with a wrong MAC, go
without an answer; the next SEQ is executed and its reply kept; the last SEQ gets the kept reply again; any other is
answered SEQUENCE_ERROR; a CLOSE is answered and ends the session. Model's readings in it: log entries 41, 115.
Completes: REQUEST, CLOSE, MALFORMED_MESSAGE, MAC_INVALID_DROP. -/
def Obligations.SessionMessages : Prop :=
  ∀ (s : State) (m : Bytes), netUp s = true →
    (malformed true m = true → Gives (.malformedMessage m) s s) ∧
    (malformed true m = false → ∀ c, (c = .request none m ∧ msgType m = 5) ∨ (c = .closeMsg none m ∧ msgType m = 7) →
      (namedSession none s (msgSession true m) = none → Ends c s [.sess] (fun t =>
        t.sess.net = s.sess.net ++ [plainMsg true 8 (msgSession true m) stExpired 0 (msgSeq true m) []] ∧
        t.sess.rejected = s.sess.rejected + 1)) ∧
      (∀ x, namedSession none s (msgSession true m) = some x →
        (if macOk x.mak m = false then ∀ d, d = c ∨ d = .macInvalidDrop m →
          Gives d s { s with sess := { s.sess with macInvalid := s.sess.macInvalid + 1 } }
        else
          (msgSeq true m ≠ x.last + 1 → ∀ reply, msgSeq true m = x.last → x.cached = some reply →
            Gives c s { s with sess := { s.sess with net := s.sess.net ++ [reply] } }) ∧
          (msgSeq true m ≠ x.last + 1 → msgSeq true m ≠ x.last → Gives c s { s with sess := { s.sess with
            net := s.sess.net ++ [sealedMsg true x.mak 6 x.id stSequence 0 (msgSeq true m) []] } }) ∧
          (msgSeq true m = x.last + 1 →
            (c = .closeMsg none m → Ends c s [.ports, .lock, .sess, .dict] (fun t =>
              (∀ y ∈ t.sess.sessions, y.id ≠ x.id) ∧
              t.sess.net = s.sess.net ++ [sealedMsg true x.mak 6 x.id stSuccess 0 (msgSeq true m) []])) ∧
            (c = .request none m → ∀ r reply, r = runRequest (.rxmp x.id) (some x) m s →
              reply = sealedMsg true x.mak 6 x.id r.1.1 r.1.2.1 (msgSeq true m) r.1.2.2 →
              Gives c s (sendNet (some reply, keepReply x.id (msgSeq true m) reply r.2)))))))

/-- Sessions, credentials and their ends (R491 to R497): a lifetime or an idle limit that is up, and SESSION_CLOSE, end
the session; a challenge lapses, a NAME is free again; CRED_LOAD puts a credential into its slot, and a Custodian's
removes the factory's; CRED_DELETE ends the sessions opened with the credential, and keeps the last Custodian's. Model's
readings in it: log entries 41, 126. Completes: SESSION_LIFETIME_EXPIRY, SESSION_IDLE_EXPIRY, CHALLENGE_EXPIRY,
NAME_LOCKOUT_EXPIRY, SESSION_CLOSE, CRED_LOAD, CRED_DELETE. -/
def Obligations.SessionsAndCredentials : Prop :=
  ∀ s : State,
    (∀ id c, c = .sessionLifetimeExpiry id ∨ c = .sessionIdleExpiry id →
      Ends c s [.ports, .lock, .sess, .dict] (fun t =>
        t.sess.sessions = s.sess.sessions.filter (fun x => x.id != id) ∧
        ∀ p, (t.ports.get p).mailbox.session ≠ some id)) ∧
    (∀ id, Gives (.challengeExpiry id) s
      { s with sess := { s.sess with pending := s.sess.pending.filter (fun x => x.id != id) } }) ∧
    (∀ name, Gives (.nameLockoutExpiry name) s
      { s with sess := { s.sess with locked := s.sess.locked.filter (fun n => n != fit 32 name) } }) ∧
    (∀ ch n, Carries ch 2 0x1020 s → n < 2 ^ 32 →
      ((∀ x ∈ s.sess.sessions, x.id ≠ n) →
        Gives (.sessionClose ch (putNum (bigEnd ch) 4 n)) s (answered stNotFound none s)) ∧
      ((∃ x ∈ s.sess.sessions, x.id = n) →
        Ends (.sessionClose ch (putNum (bigEnd ch) 4 n)) s [.ports, .lock, .sess, .dict] (fun t =>
          t.dict.last = some (stSuccess, none) ∧ ∀ x ∈ t.sess.sessions, x.id ≠ n))) ∧
    (∀ ch b, Carries ch 2 0x1030 s → b.length = 96 →
      (credOk b = false → Gives (.credLoad ch (onWire ch 0x1030 3 b)) s (answered stValue none s)) ∧
      (credOk b = true →
        ((∃ c ∈ s.sess.creds, c.name = slice b 24 32 ∧ c.slot ≠ field b 0 1) →
          Gives (.credLoad ch (onWire ch 0x1030 3 b)) s (answered stValue none s)) ∧
        ((∀ c ∈ s.sess.creds, c.name = slice b 24 32 → c.slot = field b 0 1) → ∀ x, chanSession s ch = some x →
          match Config.unwrap 0 x.swk (slice b 56 40) with
          | none => Gives (.credLoad ch (onWire ch 0x1030 3 b)) s (answered stUnwrapFailed none s)
          | some k => (∀ c ∈ s.sess.creds, c.setup = true → c.slot = 0) →
            Ends (.credLoad ch (onWire ch 0x1030 3 b)) s [.ports, .lock, .sess, .dict] (fun t => t.dict.last = some (stSuccess, none) ∧
              (∃ c ∈ t.sess.creds, c.slot = field b 0 1 ∧ c.role = field b 1 1 ∧ c.kind = field b 2 1 ∧
                c.name = slice b 24 32 ∧ c.k = fit 32 k) ∧
              (field b 1 1 = 2 → ∀ c ∈ t.sess.creds, c.setup = false))))) ∧
    (∀ ch n, Carries ch 2 0x1030 s → n < 16 →
      (s.sess.creds.find? (fun c => c.slot == n) = none →
        Gives (.credDelete ch [BitVec.ofNat 8 n]) s (answered stNotFound none s)) ∧
      (∀ c, s.sess.creds.find? (fun c => c.slot == n) = some c →
        (c.role = 2 → (s.sess.creds.filter (fun x => x.role == 2)).length ≤ 1 →
          Gives (.credDelete ch [BitVec.ofNat 8 n]) s (answered stBusy none s)) ∧
        (c.role ≠ 2 ∨ 2 ≤ (s.sess.creds.filter (fun x => x.role == 2)).length →
          Ends (.credDelete ch [BitVec.ofNat 8 n]) s [.ports, .lock, .sess, .dict] (fun t =>
            t.dict.last = some (stSuccess, none) ∧ (∀ x ∈ t.sess.creds, x.slot ≠ n) ∧
            ∀ x ∈ t.sess.sessions, x.slot ≠ n))))

/-- The mailbox of a port (R499 to R503): GO in a busy mailbox sets OVERRUN; during a management restart the answer is
BUSY; an idle one becomes BUSY, and a message that is malformed is answered INVALID_FIELD; a request without a session
is refused where MB_ANON_READ is 0; the response makes the mailbox DONE, unless its port was reset. Model's readings in
it: log entries 129, 130, 131. Completes: MB_GO, MB_RESPONSE_DONE, MB_ANON_REQUEST, MB_PORT_RESET. -/
def Obligations.Mailboxes : Prop :=
  ∀ (s : State) (p : PortId) (b : Mailbox), b = (s.ports.get p).mailbox →
    (∀ v : BitVec 32, mailboxUp s p = true → bit v.toNat 0 = true →
      (b.busy = true → Gives (.mbGo p v) s (modMailbox p (fun x => { x with overrun := true }) s)) ∧
      (b.busy = false → s.pw.mgmtRestarting = true → Ends (.mbGo p v) s [.ports] (fun t =>
        (t.ports.get p).mailbox.done = true ∧ (t.ports.get p).mailbox.overrun = false ∧
        (t.ports.get p).mailbox.response = restartReply (mailboxMessage b))) ∧
      (b.busy = false → s.pw.mgmtRestarting = false → malformed false (mailboxMessage b) = true →
        Ends (.mbGo p v) s [.ports, .sess] (fun t => (t.ports.get p).mailbox.busy = true ∧
          (t.ports.get p).mailbox.done = false ∧ (t.ports.get p).mailbox.overrun = false ∧
          (t.ports.get p).mailbox.reply = plainMsg false 8 (msgSession false (mailboxMessage b)) stInvalidField 0
            (msgSeq false (mailboxMessage b)) [])) ∧
      (b.busy = false → s.pw.mgmtRestarting = false → ∀ x, x = handleMsg (some p) [] (mailboxMessage b)
          (modMailbox p (fun y => { y with overrun := false, busy := true, done := false, discard := false }) s) →
        Gives (.mbGo p v) s (modMailbox p (fun y => { y with reply := x.1.getD [] }) x.2))) ∧
    (∀ m, mailboxUp s p = true → b.busy = false → s.pw.mgmtRestarting = false → malformed false m = false →
      msgType m = 5 → msgSession false m = 0 → allZero (m.drop (m.length - 32)) = true → cfgMbAnonRead s p.val = 0 →
      Ends (.mbAnonRequest p m) s [.ports, .sess] (fun t => (t.ports.get p).mailbox.busy = true ∧
        (t.ports.get p).mailbox.reply = plainMsg false 8 0 stAccessDenied 0 (msgSeq false m) [])) ∧
    (∀ m, mailboxUp s p = true → b.busy = true → malformed false m = false → msgType m = 5 → msgSession false m = 0 →
      allZero (m.drop (m.length - 32)) = true →
      Gives (.mbAnonRequest p m) s (modMailbox p (fun x => { x with overrun := true }) s)) ∧
    (b.busy = true →
      (b.discard = false → s.pw.mgmtRestarting = false → Gives (.mbResponseDone p) s (modMailbox p (fun x =>
        { x with busy := false, done := true, doneCount := (x.doneCount + 1) % 65536, response := x.reply
                 reply := [] }) s)) ∧
      (b.discard = true → ∀ c, c = .mbResponseDone p ∨ c = .mbPortReset p →
        Gives c s (modMailbox p (fun _ => Mailbox.reset) s)))

/-- The management paths (R504 to R508): a link that comes up with its self-test passed is SYNCING, then STANDBY or,
where its path holds the right or the holder carries nothing, ACTIVE; a link that is lost gives the right to the other
path when that is ready; the right is switched by a write unless the contacts hold it. Model's readings in it: log entry
136. Completes: PATH_LINK_UP, PATH_SYNC_DONE, PATH_LINK_LOSS, PATH_SWITCH, PATH_ENABLE_WRITE. -/
def Obligations.ManagementPaths : Prop :=
  ∀ (s : State) (b : Bool),
    (∀ ch n, s.side.pathHold = true → Carries ch 1 0x7004 s → n < 2 →
      Gives (.pathSwitch ch [BitVec.ofNat 8 n]) s (answered stBusy none s)) ∧
    (s.side.pathHold = false →
    (∀ rate, pathsRun s = true → (s.paths.path b).state = .down → pathEnabled s b = true → 1 ≤ rate →
      rate ≤ cfgPathRateMax s (b2n b) →
      Gives (.pathLinkUp b rate true) s
        { s with paths := s.paths.setPath b { state := .syncing, link := rate, testOk := true } } ∧
      Ends (.pathLinkUp b rate false) s [.free, .paths, .test] (fun t =>
        (t.paths.path b).state = .failed ∧ (t.paths.path b).testOk = false)) ∧
    (pathsRun s = true → (s.paths.path b).state = .syncing → Ends (.pathSyncDone b) s [.paths] (fun t =>
      (s.paths.right = b → t.paths.right = b ∧ (t.paths.path b).state = .active) ∧
      (s.paths.right ≠ b → (s.paths.path (!b)).isDown = true →
        t.paths.right = b ∧ (t.paths.path b).state = .active ∧ t.paths.failovers = s.paths.failovers + 1) ∧
      (s.paths.right ≠ b → (s.paths.path (!b)).state = .active →
        t.paths.right = s.paths.right ∧ (t.paths.path b).state = .standby))) ∧
    (pathsRun s = true → (s.paths.path b).link ≠ 0 → (s.paths.path b).state ≠ .failed →
      inMaint s (pathInterface (!b)) = false → Ends (.pathLinkLoss b) s [.paths] (fun t =>
        (t.paths.path b).state = .down ∧ (t.paths.path b).link = 0 ∧
        (s.paths.right = b → (s.paths.path (!b)).state = .standby → t.paths.right = (!b) ∧
          (t.paths.path (!b)).state = .active ∧ t.paths.failovers = s.paths.failovers + 1) ∧
        (s.paths.right = b → (s.paths.path (!b)).isDown = true → t.paths.right = b))) ∧
    (∀ ch, Carries ch 1 0x7004 s → s.paths.right = b →
      ((s.paths.path (!b)).state = .standby → Ends (.pathSwitch ch [1]) s [.paths, .dict] (fun t =>
        t.dict.last = some (stSuccess, none) ∧ t.paths.right = (!b) ∧ (t.paths.path (!b)).state = .active ∧
        t.paths.failovers = s.paths.failovers + 1)) ∧
      ((s.paths.path (!b)).state ≠ .standby → Gives (.pathSwitch ch [1]) s (answered stBusy none s)) ∧
      Gives (.pathSwitch ch [0]) s (answered stSuccess none s)) ∧
    (∀ ch, Carries ch 1 0x7002 s → s.paths.right = b →
      ((s.paths.path (!b)).state ≠ .standby →
        Gives (.pathEnableWrite ch (b2n b + 1) [0]) s (answered stBusy none s)) ∧
      ((s.paths.path (!b)).state = .standby → Ends (.pathEnableWrite ch (b2n b + 1) [0]) s [.paths, .dict] (fun t =>
        t.dict.last = some (stSuccess, none) ∧ cfgPathEnable t (b2n b) = 0 ∧ t.paths.right = (!b) ∧
        (t.paths.path b).state = .failed ∧ (t.paths.path (!b)).state = .active))))

/-- Addresses, the device clock and PTP (R51, R509 to R511): the active path takes the address it is given where
ADDR_MODE allows it; CLOCK_SET steps the clock forward and never back; a master is announced, an offset above the
threshold steps the clock and any other steers its rate, locked after 16 s within 1 µs; without announcements the clock
holds over. Model's readings in it: log entries 112, 113. Completes: CLOCK_SET, PTP_MESSAGE, PTP_ANNOUNCE_TIMEOUT,
LOCATE_WRITE, ADDRESS_AUTOCONFIG. -/
def Obligations.AddressesAndClock : Prop :=
  ∀ s : State,
    (pathsRun s = true → (s.paths.path s.paths.right).state = .active →
      (∀ a, bit (cfgAddrMode s) 0 = true → Gives (.addressAutoconfig (.routerAdvertisement a)) s
        { s with paths := { s.paths with slaac := some (fit 16 a) } }) ∧
      (∀ a, bit (cfgAddrMode s) 1 = true → Gives (.addressAutoconfig (.dhcpLease a)) s
        { s with paths := { s.paths with dhcp := some (fit 4 a) } }) ∧
      Gives (.addressAutoconfig .leaseExpired) s { s with paths := { s.paths with dhcp := none } }) ∧
    (∀ ch n, Carries ch 1 0x1010 s → n < 2 ^ 64 →
      (n < s.clk.now → Gives (.clockSet ch (putNum (bigEnd ch) 8 n)) s (answered stValue none s)) ∧
      (s.clk.now ≤ n → Ends (.clockSet ch (putNum (bigEnd ch) 8 n)) s [.clk, .paths, .dict] (fun t =>
        t.dict.last = some (stSuccess, none) ∧ t.clk = { s.clk with now := n } ∧
        t.paths.source = if s.paths.source = 0 then 1 else s.paths.source))) ∧
    (ptpRuns s = true →
      (∀ a, Gives (.ptpMessage (.announce a)) s { s with paths := { s.paths with
        master := fit 8 a, source := if s.paths.source = 3 then 3 else 2 } }) ∧
      (∀ o m, m = .sync o ∨ m = .followUp o ∨ m = .delayResp o →
        (o < 0 → (cfgPtpStepThreshold s : Int) < -o → Ends (.ptpMessage m) s [.clk, .paths] (fun t =>
          t.clk.now = s.clk.now + (-o).toNat ∧ t.paths.source = 2)) ∧
        ((0 ≤ o ∨ -o ≤ (cfgPtpStepThreshold s : Int)) → Ends (.ptpMessage m) s [.free, .clk, .paths] (fun t =>
          t.clk.now = s.clk.now ∧ t.paths.offset = o ∧ (0 < o → t.paths.freq ≤ 0) ∧
          -500000 ≤ t.paths.freq ∧ t.paths.freq ≤ 500000 ∧ t.clk.incr = clockIncr t.paths.freq ∧
          (t.paths.source = 3 ↔ (-1000 ≤ o ∧ o ≤ 1000 ∧
            s.paths.lockedSince.getD s.clk.uptime + 16000000000 ≤ s.clk.uptime)))))) ∧
    Gives .ptpAnnounceTimeout s { s with paths := { s.paths with
      source := if s.paths.source = 2 ∨ s.paths.source = 3 then 4 else s.paths.source, lockedSince := none } } ∧
    (∀ ch n, Carries ch 1 0x7030 s → n < 2 → Gives (.locateWrite ch [BitVec.ofNat 8 n]) s
      (answered stSuccess none (storeAt false (objKey 0 0x7030 1) (.num n) s)))

/-- Events (R516 to R527, R532): an event with a token takes the next SEQ, stands in the ring with its time, and yields
a notice at every port that receives one; one without a token is counted as suppressed and takes no SEQ; nothing else
changes. The ledger (R522, R523, R530, R531): a flush writes the unflushed records to the region, at its time, for its
causes and when it is asked for; a clear empties the region; a read answers the records from the SEQ selected, or
NOT_FOUND. Model's readings in it: log entries 14, 16, 60. Completes: LEDGER_FLUSH_EXPIRY, LEDGER_FLUSH, FLUSH_NOW,
LEDGER_CLEAR, LEDGER_READ. -/
def Obligations.LedgerRecordsAndCommands : Prop :=
  (∀ (s : State) (code sev subject : Nat) (detail : Bytes),
    OnlyChanges [] s (event code sev subject detail s) ∧
    (s.led.mounted = true → s.led.full = false → s.vault.failed = false → detail.length ≤ 984 →
      ledFits s.led (ledLen detail) = true → ledRoom s.led (ledLen detail) = true →
      tokenUnit ≤ bucketLevel s code → limitRate s code ≠ 0 →
      let t := event code sev subject detail s
      t.led.nextSeq = s.led.nextSeq + 1 ∧
      (∃ e ∈ t.led.ring, e.2.seq = s.led.nextSeq ∧ e.2.time = s.clk.now ∧ e.2.code = code ∧ e.2.sev = sev ∧
        e.2.subject = subject ∧ e.2.detail = detail) ∧
      ∀ p ∈ noticePorts s code subject, (s.ports.get p).notices.length < noticeMax →
        (⟨s.led.nextSeq, s.clk.now, code, sev, subject, detail⟩ : Notice) ∈ (t.ports.get p).notices) ∧
    (bucketLevel s code < tokenUnit → neverSuppressed code sev = false → limitRate s code ≠ 65535 →
      let t := event code sev subject detail s
      t.led.nextSeq = s.led.nextSeq ∧ t.led.ring = s.led.ring ∧ t.ports = s.ports ∧
      t.led.suppressedTotal = s.led.suppressedTotal + 1)) ∧
  (∀ s : State,
    (∀ c, s.led.mounted = true → s.vault.failed = false → flushMayRun s = true →
      c = .ledgerFlushExpiry ∨ (c = .ledgerFlush ∧
        (4 * 2 ^ 20 ≤ unflushedBytes s ∨ (unflushed s).any (fun r => r.sev == 2) = true)) ∨
        (∃ ch, Carries ch 1 0x7801 s ∧ c = .flushNow ch [1]) →
      Ends c s [.vault, .lock, .dict] (fun t => t.led.region.map (·.2) = s.led.region.map (·.2) ++ unflushed s ∧
        t.led.lastFlush = s.clk.now ∧
        t.led.flushed = ((unflushed s).getLast?.map (·.seq)).getD s.led.flushed)) ∧
    (∀ ch, Carries ch 2 0x7804 s →
      (s.pw.state = .dump → Gives (.ledgerClear ch [1]) s (answered stBusy none s)) ∧
      (s.pw.state ≠ .dump → s.pw.state ≠ .standby → Ends (.ledgerClear ch [1]) s [.vault, .lock, .dict] (fun t =>
        t.dict.last = some (stSuccess, none) ∧ t.led.region = [] ∧ t.led.lastClear = s.clk.now))) ∧
    (∀ ch, Carries ch 0 0x7802 s →
      (ledgerReadFrom s (selNum s ch 0x7802 1) = none →
        Gives (.ledgerRead ch) s (answered stNotFound none s)) ∧
      (∀ b, ledgerReadFrom s (selNum s ch 0x7802 1) = some b →
        Gives (.ledgerRead ch) s (answered stSuccess (some (.bytes b)) s))))

/-- MAINTENANCE (R537 to R539): an interface that is none is refused, one that may not enter is BUSY; one that enters
waits, a port held, a path FAILED; one that leaves, or a vault channel after 10 s, is out of it, a port waiting for its
link and in service again unless a test of it failed. Model's readings in it: log entry 116. Completes: MAINT_ENTER,
MAINT_LEAVE, VAULT_MAINT_EXPIRY. -/
def Obligations.Maintenance : Prop :=
  ∀ (s : State),
    (∀ ch i, Carries ch 1 0x7C00 s → i < 256 →
      (ifaceOf i = none ∨ i = 0x27 → Gives (.maintEnter ch i) s (answered stValue none s) ∧
        Gives (.maintLeave ch i) s (answered stValue none s)) ∧
      (∀ f, ifaceOf i = some f → i ≠ 0x27 →
        (maintRefused s f = true → Gives (.maintEnter ch i) s (answered stBusy none s)) ∧
        (maintRefused s f = false → inMaint s i = false →
          Ends (.maintEnter ch i) s (holdParts ++ [.paths, .test, .dict]) (fun t =>
            t.dict.last = some (stSuccess, none) ∧ inMaint t i = true ∧
            (∀ p, f = .port p → (t.ports.get p).maint = true ∧ HeldBy p s t) ∧
            (∀ b, f = .path b → (t.paths.path b).state = .failed))) ∧
        (inMaint s i = true → testOn s i = false → (∀ e ∈ s.test.bad, e.1 ≠ i) →
          Ends (.maintLeave ch i) s [.pw, .ports, .drv, .paths, .test, .dict] (fun t =>
            t.dict.last = some (stSuccess, none) ∧ inMaint t i = false ∧
            (∀ p, f = .port p → (t.ports.get p).maint = false ∧ (t.ports.get p).link.up = false ∧
              p.val ∉ t.pw.portsFailed) ∧
            (∀ b, f = .path b → (t.paths.path b).state = .down) ∧
            (∀ g, f = .group g → g ∉ t.pw.groupsFailed))) ∧
        (inMaint s i = true → testOn s i = false → (∃ e ∈ s.test.bad, e.1 = i) →
          Ends (.maintLeave ch i) s (.pw :: .ports :: .vault :: .paths :: .test :: .dict :: recoveryParts) (fun t =>
            inMaint t i = false ∧
            (∀ p, f = .port p → p.val ∈ t.pw.portsFailed) ∧ (∀ g, f = .group g → g ∈ t.pw.groupsFailed) ∧
            (∀ c, f = .channel c → t.vault.failed = true) ∧
            (∀ b, f = .path b → (t.paths.path b).state = .failed))))) ∧
    (∀ n, s.test.maint.find? (fun n => decide (0x1D ≤ n) && decide (n ≤ 0x24)) = some n →
      Ends .vaultMaintExpiry s [.free, .vault, .test] (fun t =>
        inMaint t n = false ∧ (testOn s n = true → t.test.running = none ∧ t.test.state = .aborted)))

/-- Tests (R536, R540 to R546): a request out of range is refused, one that may not run now is BUSY, any other runs and
is counted; TEST_STOP aborts it; it passes on its first or second attempt, or fails, counted, with FAULT lit; the
charger returns through QUALIFY or enters FAULT with cause 7; a patrol read notes its end. Model's readings in it: log
entries 74, 75, 117. Completes: TEST_REQUEST, TEST_STOP, TEST_END, PATROL_READ, CHARGER_SELFTEST. -/
def Obligations.Tests : Prop :=
  ∀ s : State,
    (∀ (ch : Channel) (b : Bytes) own, Carries ch 1 0x7C01 s → b.length = 16 →
      own = (match ch with
        | .mailbox p => some p
        | _ => none) →
      (ifaceOf (field b 0 1) = none → Gives (.testRequest ch (onWire ch 0x7C01 1 b)) s (answered stValue none s)) ∧
      (∀ f, ifaceOf (field b 0 1) = some f →
        (requestOk s f b = false → Gives (.testRequest ch (onWire ch 0x7C01 1 b)) s (answered stValue none s)) ∧
        (requestOk s f b = true →
          (requestBusy s own (field b 0 1) f (field b 1 1) = true →
            Gives (.testRequest ch (onWire ch 0x7C01 1 b)) s (answered stBusy none s)) ∧
          (requestBusy s own (field b 0 1) f (field b 1 1) = false → Ends (.testRequest ch (onWire ch 0x7C01 1 b)) s [.test, .dict] (fun t =>
            t.dict.last = some (stSuccess, none) ∧ t.test.state = .running ∧ t.test.runs = s.test.runs + 1 ∧
            ∃ r, t.test.running = some r ∧ r.interface = field b 0 1 ∧ r.depth = field b 1 1 ∧ r.start = s.clk.now ∧
              r.duration = (if field b 4 4 = 0 then 10000 else field b 4 4)))))) ∧
    (∀ ch, Carries ch 1 0x7C01 s →
      (s.test.running = none → Gives (.testStop ch [1]) s (answered stSuccess none s)) ∧
      (s.test.running ≠ none → Ends (.testStop ch [1]) s [.free, .test, .dict] (fun t =>
        t.dict.last = some (stSuccess, none) ∧ t.test.running = none ∧ t.test.state = .aborted))) ∧
    (∀ (r : TestReq) (v w : TestVerdict), s.test.running = some r → r.interface ≠ 0x27 →
      (attemptOk r v = true ∨ attemptOk r w = true → Ends (.testEnd v w) s [.pw, .ports, .drv, .paths, .test] (fun t =>
        t.test.running = none ∧ t.test.state = .done ∧ t.test.fails = s.test.fails ∧
        FaultEvent.selftest (selftestKey r.interface r.depth) ∉ t.pw.faults)) ∧
      (attemptOk r v = false → attemptOk r w = false → Ends (.testEnd v w) s [.pw, .test] (fun t =>
        t.test.running = none ∧ t.test.state = .done ∧ t.test.fails = s.test.fails + 1 ∧
        FaultEvent.selftest (selftestKey r.interface r.depth) ∈ t.pw.faults ∧
        (r.interface, r.depth) ∈ t.test.bad))) ∧
    (∀ (r : TestReq) a b, s.test.running = some r → r.interface = 0x27 →
      Ends (.chargerSelftest a b) s [.free, .pw, .tally, .test] (fun t =>
        t.test.running = none ∧ t.test.state = .done ∧
        ((a || b) = true → s.tally.pack.state = 1 → t.tally.charger.state = .qualify) ∧
        ((a || b) = false → s.tally.pack.state = 1 → s.tally.charger.state ≠ .fault →
          t.tally.charger.state = .fault ∧ t.tally.charger.fault = 7))) ∧
    (∀ stop, serving s = true → cfgPatrolInterval s ≠ 0 →
      Gives (.patrolRead stop) s { s with test := { s.test with patrolLast := stop } })
end

