-- ==== Sys2Proof/Laws/Settle.lean ====
section
/-! SUPPORT. What recording an event and settling can change, said once: an event the ledger and the notice queues,
settling what `State.apart` leaves out; and that a settled state is what settling answers. -/

namespace Sys2Proof.Machine

/-! ### Events -/

/-- `t` differs from `s` in the ledger, mounted as it was, and the notice queues at most. -/
def Recorded (s t : State) : Prop :=
  t = { s with led := t.led, ports := t.ports } ∧ t.ports.apart = s.ports.apart ∧ t.led.mounted = s.led.mounted

theorem Recorded.rfl {s : State} : Recorded s s := ⟨Eq.refl s, Eq.refl _, Eq.refl _⟩

theorem Recorded.trans {s t u : State} (h : Recorded s t) (k : Recorded t u) : Recorded s u := by
  obtain ⟨h1, h2, h3⟩ := h
  obtain ⟨k1, k2, k3⟩ := k
  refine ⟨?_, k2.trans h2, k3.trans h3⟩
  rw [k1, h1]

theorem Recorded.withLed (l : Ledger) (s : State) (h : l.mounted = s.led.mounted) : Recorded s { s with led := l } :=
  ⟨Eq.refl _, Eq.refl _, h⟩

theorem queueNotice_apart (n : Notice) (q : Port) : (queueNotice n q).apart = q.apart := by
  unfold queueNotice; split <;> rfl

/-- A change of one port that keeps it apart from its notice queue keeps all four so. -/
theorem ports_set_apart (ps : Ports) (p : PortId) (v : Port) (h : v.apart = (ps.get p).apart) :
    (ps.set p v).apart = ps.apart := by
  unfold Ports.get at h
  unfold Ports.set Ports.apart
  by_cases h0 : p = 0
  · simp_all
  by_cases h1 : p = 1
  · simp_all
  by_cases h2 : p = 2 <;> simp_all

theorem sendNotices_recorded (n : Notice) (s : State) : Recorded s (sendNotices n s) := by
  unfold sendNotices
  generalize noticePorts s n.code n.subject = l
  induction l generalizing s with
  | nil => exact .rfl
  | cons p t ih =>
    have h : Recorded s (modPort p (queueNotice n) s) :=
      ⟨Eq.refl _, ports_set_apart _ _ _ (queueNotice_apart n _), Eq.refl _⟩
    exact h.trans (ih _)

theorem ledFullNotice_recorded (s : State) : Recorded s (ledFullNotice s) :=
  (Recorded.withLed _ s (Eq.refl _)).trans (sendNotices_recorded _ _)

theorem takeSeq_mounted (l : Ledger) : (takeSeq l).2.mounted = l.mounted := by unfold takeSeq; rfl

theorem ledStore_mounted (failed : Bool) (r : LedRec) (l : Ledger) : (ledStore failed r l).1.mounted = l.mounted := by
  unfold ledStore
  cases failed <;> dsimp only <;> repeat' split
  all_goals first
    | rfl
    | (unfold ledPut ledAdvance; dsimp only; split <;> rfl)

theorem ledSequence_recorded (r : LedRec) (s : State) : Recorded s (ledSequence r s) := by
  unfold ledSequence
  simp only
  have h := (ledStore_mounted s.vault.failed { r with seq := (takeSeq s.led).1, notice := noticeQueued s r.code r.subject }
    (takeSeq s.led).2).trans (takeSeq_mounted s.led)
  split
  · exact ((Recorded.withLed _ s h).trans (sendNotices_recorded _ _)).trans (ledFullNotice_recorded _)
  · exact (Recorded.withLed _ s h).trans (sendNotices_recorded _ _)

theorem ledPass_recorded (code sev subject : Nat) (d : Bytes) (s : State) :
    Recorded s (ledPass code sev subject d s) := by
  unfold ledPass
  simp only
  split
  · exact (Recorded.withLed _ s (Eq.refl _)).trans (ledSequence_recorded _ _)
  · split <;> exact (Recorded.withLed _ s (Eq.refl _)).trans (Recorded.withLed _ _ (Eq.refl _))

/-- An event changes the ledger and the notice queues at most. -/
theorem event_recorded (code sev subject : Nat) (d : Bytes) (s : State) :
    Recorded s (event code sev subject d s) := by
  unfold event
  simp only
  split
  · exact (Recorded.withLed _ s (Eq.refl _)).trans (ledPass_recorded _ _ _ _ _)
  · exact (Recorded.withLed _ s (Eq.refl _)).trans (Recorded.withLed _ _ (Eq.refl _))

/-- States that differ by recorded events agree apart from them. -/
theorem Recorded.apart {s t : State} (h : Recorded s t) : t.apart = s.apart := by
  obtain ⟨h1, h2, _⟩ := h
  rw [h1]
  unfold State.apart
  simp only [h2]

@[simp] theorem event_apart (code sev subject : Nat) (d : Bytes) (s : State) :
    (event code sev subject d s).apart = s.apart := (event_recorded _ _ _ _ _).apart

/-! ### What an event leaves as it was, by the part read -/

theorem Recorded.portState {s t : State} (h : Recorded s t) (p : PortId) :
    (t.ports.get p).state = (s.ports.get p).state := by
  have e := h.2.1
  unfold Ports.apart at e
  injection e with e0 e1 e2 e3
  have f : ∀ a b : Port, a.apart = b.apart → a.state = b.state := fun a b k =>
    show a.apart.state = b.apart.state from congrArg Port.state k
  unfold Ports.get
  split
  · exact f _ _ e0
  split
  · exact f _ _ e1
  split
  · exact f _ _ e2
  · exact f _ _ e3

/-- A value that is computed from neither the ledger nor the notice queues is the same behind an event. -/
theorem Recorded.same {α : Type} {s t : State} (h : Recorded s t) (f : State → α)
    (hf : ∀ (u : State) (l : Ledger) (q : Ports), q.apart = u.ports.apart → f { u with led := l, ports := q } = f u) :
    f t = f s := by
  rw [h.1]; exact hf s _ _ h.2.1

/-! ### Settling -/

theorem volTake_apart (v : Nat) (st : VState) (loss : Bool) (s : State) : (volTake v st loss s).apart = s.apart := by
  unfold volTake
  split
  · rfl
  · split
    · rfl
    · rw [event_apart]
      simp only [modVol, modTabs, State.apart, Tables.apart, Tab.mod, List.map_map]
      congr 2
      apply List.map_congr_left
      intro e _
      simp only [Function.comp]
      split <;> rfl

theorem volStep_apart (s : State) (v : Nat) (t : State) : (volStep s v t).apart = t.apart := by
  unfold volStep
  split
  · rw [volTake_apart]
  · rfl

theorem volumesSettle_apart (s : State) : (volumesSettle s).apart = s.apart := by
  unfold volumesSettle
  split
  · have h : ∀ (l : List Nat) (t : State), (l.foldl (fun t v => volStep s v t) t).apart = t.apart := by
      intro l
      induction l with
      | nil => intro t; rfl
      | cons e l ih => intro t; rw [List.foldl_cons, ih, volStep_apart]
    exact h _ _
  · rfl

theorem vaultSettle_apart (s : State) : (vaultSettle s).apart = s.apart := by
  unfold vaultSettle
  simp only
  split
  · rfl
  · rw [event_apart]; rfl

theorem cacheSettle_apart (s : State) : (cacheSettle s).apart = s.apart := by
  unfold cacheSettle
  simp only
  split
  · rfl
  · rw [event_apart]; rfl

theorem degradedSettle_apart (s : State) : (degradedSettle s).apart = s.apart := by
  unfold degradedSettle
  simp only
  split
  · rfl
  · split
    · rfl
    · rw [event_apart]; rfl

theorem rateSettle_apart (s : State) : (rateSettle s).apart = s.apart := by
  unfold rateSettle
  simp only
  split <;> rfl

theorem statusSettle_apart (s : State) : (statusSettle s).apart = s.apart := by
  unfold statusSettle
  simp only
  split <;> rfl

/-- Settling changes nothing but what `State.apart` leaves out. -/
@[simp] theorem settle_apart (s : State) : (settle s).apart = s.apart := by
  unfold settle
  rw [statusSettle_apart, rateSettle_apart, degradedSettle_apart, cacheSettle_apart, vaultSettle_apart,
    volumesSettle_apart]

end Sys2Proof.Machine
end

