-- ==== Sys2Proof/Laws/State.lean ====
section
/-! SUPPORT. Field by field, what each named update of the state (`modPw`, `modPort`, …) leaves in every field of
`State`: its own field changed, every other as it was. A proof cites these by `simp` and unfolds no record update. -/

namespace Sys2Proof.Machine

section
variable (f : Power → Power) (s : State)
@[simp] theorem modPw_pending : (modPw f s).pending = s.pending := rfl
@[simp] theorem modPw_free : (modPw f s).free = s.free := rfl
@[simp] theorem modPw_pw : (modPw f s).pw = f s.pw := rfl
@[simp] theorem modPw_clk : (modPw f s).clk = s.clk := rfl
@[simp] theorem modPw_side : (modPw f s).side = s.side := rfl
@[simp] theorem modPw_ports : (modPw f s).ports = s.ports := rfl
@[simp] theorem modPw_rings : (modPw f s).rings = s.rings := rfl
@[simp] theorem modPw_ce : (modPw f s).ce = s.ce := rfl
@[simp] theorem modPw_led : (modPw f s).led = s.led := rfl
@[simp] theorem modPw_tabs : (modPw f s).tabs = s.tabs := rfl
@[simp] theorem modPw_etu : (modPw f s).etu = s.etu := rfl
@[simp] theorem modPw_jr : (modPw f s).jr = s.jr := rfl
@[simp] theorem modPw_dur : (modPw f s).dur = s.dur := rfl
@[simp] theorem modPw_qm : (modPw f s).qm = s.qm := rfl
@[simp] theorem modPw_cooper : (modPw f s).cooper = s.cooper := rfl
@[simp] theorem modPw_drv : (modPw f s).drv = s.drv := rfl
@[simp] theorem modPw_cache : (modPw f s).cache = s.cache := rfl
@[simp] theorem modPw_mc : (modPw f s).mc = s.mc := rfl
@[simp] theorem modPw_dump : (modPw f s).dump = s.dump := rfl
@[simp] theorem modPw_vault : (modPw f s).vault = s.vault := rfl
@[simp] theorem modPw_tally : (modPw f s).tally = s.tally := rfl
@[simp] theorem modPw_lock : (modPw f s).lock = s.lock := rfl
@[simp] theorem modPw_sess : (modPw f s).sess = s.sess := rfl
@[simp] theorem modPw_paths : (modPw f s).paths = s.paths := rfl
@[simp] theorem modPw_dict : (modPw f s).dict = s.dict := rfl
@[simp] theorem modPw_test : (modPw f s).test = s.test := rfl
end

section
variable (f : Sideband → Sideband) (s : State)
@[simp] theorem modSide_pending : (modSide f s).pending = s.pending := rfl
@[simp] theorem modSide_free : (modSide f s).free = s.free := rfl
@[simp] theorem modSide_pw : (modSide f s).pw = s.pw := rfl
@[simp] theorem modSide_clk : (modSide f s).clk = s.clk := rfl
@[simp] theorem modSide_side : (modSide f s).side = f s.side := rfl
@[simp] theorem modSide_ports : (modSide f s).ports = s.ports := rfl
@[simp] theorem modSide_rings : (modSide f s).rings = s.rings := rfl
@[simp] theorem modSide_ce : (modSide f s).ce = s.ce := rfl
@[simp] theorem modSide_led : (modSide f s).led = s.led := rfl
@[simp] theorem modSide_tabs : (modSide f s).tabs = s.tabs := rfl
@[simp] theorem modSide_etu : (modSide f s).etu = s.etu := rfl
@[simp] theorem modSide_jr : (modSide f s).jr = s.jr := rfl
@[simp] theorem modSide_dur : (modSide f s).dur = s.dur := rfl
@[simp] theorem modSide_qm : (modSide f s).qm = s.qm := rfl
@[simp] theorem modSide_cooper : (modSide f s).cooper = s.cooper := rfl
@[simp] theorem modSide_drv : (modSide f s).drv = s.drv := rfl
@[simp] theorem modSide_cache : (modSide f s).cache = s.cache := rfl
@[simp] theorem modSide_mc : (modSide f s).mc = s.mc := rfl
@[simp] theorem modSide_dump : (modSide f s).dump = s.dump := rfl
@[simp] theorem modSide_vault : (modSide f s).vault = s.vault := rfl
@[simp] theorem modSide_tally : (modSide f s).tally = s.tally := rfl
@[simp] theorem modSide_lock : (modSide f s).lock = s.lock := rfl
@[simp] theorem modSide_sess : (modSide f s).sess = s.sess := rfl
@[simp] theorem modSide_paths : (modSide f s).paths = s.paths := rfl
@[simp] theorem modSide_dict : (modSide f s).dict = s.dict := rfl
@[simp] theorem modSide_test : (modSide f s).test = s.test := rfl
end

section
variable (f : DumpState → DumpState) (s : State)
@[simp] theorem modDump_pending : (modDump f s).pending = s.pending := rfl
@[simp] theorem modDump_free : (modDump f s).free = s.free := rfl
@[simp] theorem modDump_pw : (modDump f s).pw = s.pw := rfl
@[simp] theorem modDump_clk : (modDump f s).clk = s.clk := rfl
@[simp] theorem modDump_side : (modDump f s).side = s.side := rfl
@[simp] theorem modDump_ports : (modDump f s).ports = s.ports := rfl
@[simp] theorem modDump_rings : (modDump f s).rings = s.rings := rfl
@[simp] theorem modDump_ce : (modDump f s).ce = s.ce := rfl
@[simp] theorem modDump_led : (modDump f s).led = s.led := rfl
@[simp] theorem modDump_tabs : (modDump f s).tabs = s.tabs := rfl
@[simp] theorem modDump_etu : (modDump f s).etu = s.etu := rfl
@[simp] theorem modDump_jr : (modDump f s).jr = s.jr := rfl
@[simp] theorem modDump_dur : (modDump f s).dur = s.dur := rfl
@[simp] theorem modDump_qm : (modDump f s).qm = s.qm := rfl
@[simp] theorem modDump_cooper : (modDump f s).cooper = s.cooper := rfl
@[simp] theorem modDump_drv : (modDump f s).drv = s.drv := rfl
@[simp] theorem modDump_cache : (modDump f s).cache = s.cache := rfl
@[simp] theorem modDump_mc : (modDump f s).mc = s.mc := rfl
@[simp] theorem modDump_dump : (modDump f s).dump = f s.dump := rfl
@[simp] theorem modDump_vault : (modDump f s).vault = s.vault := rfl
@[simp] theorem modDump_tally : (modDump f s).tally = s.tally := rfl
@[simp] theorem modDump_lock : (modDump f s).lock = s.lock := rfl
@[simp] theorem modDump_sess : (modDump f s).sess = s.sess := rfl
@[simp] theorem modDump_paths : (modDump f s).paths = s.paths := rfl
@[simp] theorem modDump_dict : (modDump f s).dict = s.dict := rfl
@[simp] theorem modDump_test : (modDump f s).test = s.test := rfl
end

section
variable (p : PortId) (f : Port → Port) (s : State)
@[simp] theorem modPort_pending : (modPort p f s).pending = s.pending := rfl
@[simp] theorem modPort_free : (modPort p f s).free = s.free := rfl
@[simp] theorem modPort_pw : (modPort p f s).pw = s.pw := rfl
@[simp] theorem modPort_clk : (modPort p f s).clk = s.clk := rfl
@[simp] theorem modPort_side : (modPort p f s).side = s.side := rfl
@[simp] theorem modPort_ports : (modPort p f s).ports = s.ports.set p (f (s.ports.get p)) := rfl
@[simp] theorem modPort_rings : (modPort p f s).rings = s.rings := rfl
@[simp] theorem modPort_ce : (modPort p f s).ce = s.ce := rfl
@[simp] theorem modPort_led : (modPort p f s).led = s.led := rfl
@[simp] theorem modPort_tabs : (modPort p f s).tabs = s.tabs := rfl
@[simp] theorem modPort_etu : (modPort p f s).etu = s.etu := rfl
@[simp] theorem modPort_jr : (modPort p f s).jr = s.jr := rfl
@[simp] theorem modPort_dur : (modPort p f s).dur = s.dur := rfl
@[simp] theorem modPort_qm : (modPort p f s).qm = s.qm := rfl
@[simp] theorem modPort_cooper : (modPort p f s).cooper = s.cooper := rfl
@[simp] theorem modPort_drv : (modPort p f s).drv = s.drv := rfl
@[simp] theorem modPort_cache : (modPort p f s).cache = s.cache := rfl
@[simp] theorem modPort_mc : (modPort p f s).mc = s.mc := rfl
@[simp] theorem modPort_dump : (modPort p f s).dump = s.dump := rfl
@[simp] theorem modPort_vault : (modPort p f s).vault = s.vault := rfl
@[simp] theorem modPort_tally : (modPort p f s).tally = s.tally := rfl
@[simp] theorem modPort_lock : (modPort p f s).lock = s.lock := rfl
@[simp] theorem modPort_sess : (modPort p f s).sess = s.sess := rfl
@[simp] theorem modPort_paths : (modPort p f s).paths = s.paths := rfl
@[simp] theorem modPort_dict : (modPort p f s).dict = s.dict := rfl
@[simp] theorem modPort_test : (modPort p f s).test = s.test := rfl
end

section
variable (p : PortId) (f : Mailbox → Mailbox) (s : State)
@[simp] theorem modMailbox_pending : (modMailbox p f s).pending = s.pending := rfl
@[simp] theorem modMailbox_free : (modMailbox p f s).free = s.free := rfl
@[simp] theorem modMailbox_pw : (modMailbox p f s).pw = s.pw := rfl
@[simp] theorem modMailbox_clk : (modMailbox p f s).clk = s.clk := rfl
@[simp] theorem modMailbox_side : (modMailbox p f s).side = s.side := rfl
@[simp] theorem modMailbox_rings : (modMailbox p f s).rings = s.rings := rfl
@[simp] theorem modMailbox_ce : (modMailbox p f s).ce = s.ce := rfl
@[simp] theorem modMailbox_led : (modMailbox p f s).led = s.led := rfl
@[simp] theorem modMailbox_tabs : (modMailbox p f s).tabs = s.tabs := rfl
@[simp] theorem modMailbox_etu : (modMailbox p f s).etu = s.etu := rfl
@[simp] theorem modMailbox_jr : (modMailbox p f s).jr = s.jr := rfl
@[simp] theorem modMailbox_dur : (modMailbox p f s).dur = s.dur := rfl
@[simp] theorem modMailbox_qm : (modMailbox p f s).qm = s.qm := rfl
@[simp] theorem modMailbox_cooper : (modMailbox p f s).cooper = s.cooper := rfl
@[simp] theorem modMailbox_drv : (modMailbox p f s).drv = s.drv := rfl
@[simp] theorem modMailbox_cache : (modMailbox p f s).cache = s.cache := rfl
@[simp] theorem modMailbox_mc : (modMailbox p f s).mc = s.mc := rfl
@[simp] theorem modMailbox_dump : (modMailbox p f s).dump = s.dump := rfl
@[simp] theorem modMailbox_vault : (modMailbox p f s).vault = s.vault := rfl
@[simp] theorem modMailbox_tally : (modMailbox p f s).tally = s.tally := rfl
@[simp] theorem modMailbox_lock : (modMailbox p f s).lock = s.lock := rfl
@[simp] theorem modMailbox_sess : (modMailbox p f s).sess = s.sess := rfl
@[simp] theorem modMailbox_paths : (modMailbox p f s).paths = s.paths := rfl
@[simp] theorem modMailbox_dict : (modMailbox p f s).dict = s.dict := rfl
@[simp] theorem modMailbox_test : (modMailbox p f s).test = s.test := rfl
end

section
variable (p : PortId) (r : Nat) (f : Ring → Ring) (s : State)
@[simp] theorem modRing_pending : (modRing p r f s).pending = s.pending := rfl
@[simp] theorem modRing_free : (modRing p r f s).free = s.free := rfl
@[simp] theorem modRing_pw : (modRing p r f s).pw = s.pw := rfl
@[simp] theorem modRing_clk : (modRing p r f s).clk = s.clk := rfl
@[simp] theorem modRing_side : (modRing p r f s).side = s.side := rfl
@[simp] theorem modRing_ports : (modRing p r f s).ports = s.ports := rfl
@[simp] theorem modRing_rings : (modRing p r f s).rings =
    Tab.putD s.rings (ringKey p r) (f (getRing s p r)) Ring.reset := rfl
@[simp] theorem modRing_ce : (modRing p r f s).ce = s.ce := rfl
@[simp] theorem modRing_led : (modRing p r f s).led = s.led := rfl
@[simp] theorem modRing_tabs : (modRing p r f s).tabs = s.tabs := rfl
@[simp] theorem modRing_etu : (modRing p r f s).etu = s.etu := rfl
@[simp] theorem modRing_jr : (modRing p r f s).jr = s.jr := rfl
@[simp] theorem modRing_dur : (modRing p r f s).dur = s.dur := rfl
@[simp] theorem modRing_qm : (modRing p r f s).qm = s.qm := rfl
@[simp] theorem modRing_cooper : (modRing p r f s).cooper = s.cooper := rfl
@[simp] theorem modRing_drv : (modRing p r f s).drv = s.drv := rfl
@[simp] theorem modRing_cache : (modRing p r f s).cache = s.cache := rfl
@[simp] theorem modRing_mc : (modRing p r f s).mc = s.mc := rfl
@[simp] theorem modRing_dump : (modRing p r f s).dump = s.dump := rfl
@[simp] theorem modRing_vault : (modRing p r f s).vault = s.vault := rfl
@[simp] theorem modRing_tally : (modRing p r f s).tally = s.tally := rfl
@[simp] theorem modRing_lock : (modRing p r f s).lock = s.lock := rfl
@[simp] theorem modRing_sess : (modRing p r f s).sess = s.sess := rfl
@[simp] theorem modRing_paths : (modRing p r f s).paths = s.paths := rfl
@[simp] theorem modRing_dict : (modRing p r f s).dict = s.dict := rfl
@[simp] theorem modRing_test : (modRing p r f s).test = s.test := rfl
end

section
variable (f : CmdEngine → CmdEngine) (s : State)
@[simp] theorem modCe_pending : (modCe f s).pending = s.pending := rfl
@[simp] theorem modCe_free : (modCe f s).free = s.free := rfl
@[simp] theorem modCe_pw : (modCe f s).pw = s.pw := rfl
@[simp] theorem modCe_clk : (modCe f s).clk = s.clk := rfl
@[simp] theorem modCe_side : (modCe f s).side = s.side := rfl
@[simp] theorem modCe_ports : (modCe f s).ports = s.ports := rfl
@[simp] theorem modCe_rings : (modCe f s).rings = s.rings := rfl
@[simp] theorem modCe_ce : (modCe f s).ce = f s.ce := rfl
@[simp] theorem modCe_led : (modCe f s).led = s.led := rfl
@[simp] theorem modCe_tabs : (modCe f s).tabs = s.tabs := rfl
@[simp] theorem modCe_etu : (modCe f s).etu = s.etu := rfl
@[simp] theorem modCe_jr : (modCe f s).jr = s.jr := rfl
@[simp] theorem modCe_dur : (modCe f s).dur = s.dur := rfl
@[simp] theorem modCe_qm : (modCe f s).qm = s.qm := rfl
@[simp] theorem modCe_cooper : (modCe f s).cooper = s.cooper := rfl
@[simp] theorem modCe_drv : (modCe f s).drv = s.drv := rfl
@[simp] theorem modCe_cache : (modCe f s).cache = s.cache := rfl
@[simp] theorem modCe_mc : (modCe f s).mc = s.mc := rfl
@[simp] theorem modCe_dump : (modCe f s).dump = s.dump := rfl
@[simp] theorem modCe_vault : (modCe f s).vault = s.vault := rfl
@[simp] theorem modCe_tally : (modCe f s).tally = s.tally := rfl
@[simp] theorem modCe_lock : (modCe f s).lock = s.lock := rfl
@[simp] theorem modCe_sess : (modCe f s).sess = s.sess := rfl
@[simp] theorem modCe_paths : (modCe f s).paths = s.paths := rfl
@[simp] theorem modCe_dict : (modCe f s).dict = s.dict := rfl
@[simp] theorem modCe_test : (modCe f s).test = s.test := rfl
end

section
variable (p : PortId) (tag : Nat) (f : Cmd → Cmd) (s : State)
@[simp] theorem modCmd_pending : (modCmd p tag f s).pending = s.pending := rfl
@[simp] theorem modCmd_free : (modCmd p tag f s).free = s.free := rfl
@[simp] theorem modCmd_pw : (modCmd p tag f s).pw = s.pw := rfl
@[simp] theorem modCmd_clk : (modCmd p tag f s).clk = s.clk := rfl
@[simp] theorem modCmd_side : (modCmd p tag f s).side = s.side := rfl
@[simp] theorem modCmd_ports : (modCmd p tag f s).ports = s.ports := rfl
@[simp] theorem modCmd_rings : (modCmd p tag f s).rings = s.rings := rfl
@[simp] theorem modCmd_led : (modCmd p tag f s).led = s.led := rfl
@[simp] theorem modCmd_tabs : (modCmd p tag f s).tabs = s.tabs := rfl
@[simp] theorem modCmd_etu : (modCmd p tag f s).etu = s.etu := rfl
@[simp] theorem modCmd_jr : (modCmd p tag f s).jr = s.jr := rfl
@[simp] theorem modCmd_dur : (modCmd p tag f s).dur = s.dur := rfl
@[simp] theorem modCmd_qm : (modCmd p tag f s).qm = s.qm := rfl
@[simp] theorem modCmd_cooper : (modCmd p tag f s).cooper = s.cooper := rfl
@[simp] theorem modCmd_drv : (modCmd p tag f s).drv = s.drv := rfl
@[simp] theorem modCmd_cache : (modCmd p tag f s).cache = s.cache := rfl
@[simp] theorem modCmd_mc : (modCmd p tag f s).mc = s.mc := rfl
@[simp] theorem modCmd_dump : (modCmd p tag f s).dump = s.dump := rfl
@[simp] theorem modCmd_vault : (modCmd p tag f s).vault = s.vault := rfl
@[simp] theorem modCmd_tally : (modCmd p tag f s).tally = s.tally := rfl
@[simp] theorem modCmd_lock : (modCmd p tag f s).lock = s.lock := rfl
@[simp] theorem modCmd_sess : (modCmd p tag f s).sess = s.sess := rfl
@[simp] theorem modCmd_paths : (modCmd p tag f s).paths = s.paths := rfl
@[simp] theorem modCmd_dict : (modCmd p tag f s).dict = s.dict := rfl
@[simp] theorem modCmd_test : (modCmd p tag f s).test = s.test := rfl
end

section
variable (f : Ledger → Ledger) (s : State)
@[simp] theorem modLed_pending : (modLed f s).pending = s.pending := rfl
@[simp] theorem modLed_free : (modLed f s).free = s.free := rfl
@[simp] theorem modLed_pw : (modLed f s).pw = s.pw := rfl
@[simp] theorem modLed_clk : (modLed f s).clk = s.clk := rfl
@[simp] theorem modLed_side : (modLed f s).side = s.side := rfl
@[simp] theorem modLed_ports : (modLed f s).ports = s.ports := rfl
@[simp] theorem modLed_rings : (modLed f s).rings = s.rings := rfl
@[simp] theorem modLed_ce : (modLed f s).ce = s.ce := rfl
@[simp] theorem modLed_led : (modLed f s).led = f s.led := rfl
@[simp] theorem modLed_tabs : (modLed f s).tabs = s.tabs := rfl
@[simp] theorem modLed_etu : (modLed f s).etu = s.etu := rfl
@[simp] theorem modLed_jr : (modLed f s).jr = s.jr := rfl
@[simp] theorem modLed_dur : (modLed f s).dur = s.dur := rfl
@[simp] theorem modLed_qm : (modLed f s).qm = s.qm := rfl
@[simp] theorem modLed_cooper : (modLed f s).cooper = s.cooper := rfl
@[simp] theorem modLed_drv : (modLed f s).drv = s.drv := rfl
@[simp] theorem modLed_cache : (modLed f s).cache = s.cache := rfl
@[simp] theorem modLed_mc : (modLed f s).mc = s.mc := rfl
@[simp] theorem modLed_dump : (modLed f s).dump = s.dump := rfl
@[simp] theorem modLed_vault : (modLed f s).vault = s.vault := rfl
@[simp] theorem modLed_tally : (modLed f s).tally = s.tally := rfl
@[simp] theorem modLed_lock : (modLed f s).lock = s.lock := rfl
@[simp] theorem modLed_sess : (modLed f s).sess = s.sess := rfl
@[simp] theorem modLed_paths : (modLed f s).paths = s.paths := rfl
@[simp] theorem modLed_dict : (modLed f s).dict = s.dict := rfl
@[simp] theorem modLed_test : (modLed f s).test = s.test := rfl
end

section
variable (f : Tables → Tables) (s : State)
@[simp] theorem modTabs_pending : (modTabs f s).pending = s.pending := rfl
@[simp] theorem modTabs_free : (modTabs f s).free = s.free := rfl
@[simp] theorem modTabs_pw : (modTabs f s).pw = s.pw := rfl
@[simp] theorem modTabs_clk : (modTabs f s).clk = s.clk := rfl
@[simp] theorem modTabs_side : (modTabs f s).side = s.side := rfl
@[simp] theorem modTabs_ports : (modTabs f s).ports = s.ports := rfl
@[simp] theorem modTabs_rings : (modTabs f s).rings = s.rings := rfl
@[simp] theorem modTabs_ce : (modTabs f s).ce = s.ce := rfl
@[simp] theorem modTabs_led : (modTabs f s).led = s.led := rfl
@[simp] theorem modTabs_tabs : (modTabs f s).tabs = f s.tabs := rfl
@[simp] theorem modTabs_etu : (modTabs f s).etu = s.etu := rfl
@[simp] theorem modTabs_jr : (modTabs f s).jr = s.jr := rfl
@[simp] theorem modTabs_dur : (modTabs f s).dur = s.dur := rfl
@[simp] theorem modTabs_qm : (modTabs f s).qm = s.qm := rfl
@[simp] theorem modTabs_cooper : (modTabs f s).cooper = s.cooper := rfl
@[simp] theorem modTabs_drv : (modTabs f s).drv = s.drv := rfl
@[simp] theorem modTabs_cache : (modTabs f s).cache = s.cache := rfl
@[simp] theorem modTabs_mc : (modTabs f s).mc = s.mc := rfl
@[simp] theorem modTabs_dump : (modTabs f s).dump = s.dump := rfl
@[simp] theorem modTabs_vault : (modTabs f s).vault = s.vault := rfl
@[simp] theorem modTabs_tally : (modTabs f s).tally = s.tally := rfl
@[simp] theorem modTabs_lock : (modTabs f s).lock = s.lock := rfl
@[simp] theorem modTabs_sess : (modTabs f s).sess = s.sess := rfl
@[simp] theorem modTabs_paths : (modTabs f s).paths = s.paths := rfl
@[simp] theorem modTabs_dict : (modTabs f s).dict = s.dict := rfl
@[simp] theorem modTabs_test : (modTabs f s).test = s.test := rfl
end

section
variable (v : Nat) (f : Volume → Volume) (s : State)
@[simp] theorem modVol_pending : (modVol v f s).pending = s.pending := rfl
@[simp] theorem modVol_free : (modVol v f s).free = s.free := rfl
@[simp] theorem modVol_pw : (modVol v f s).pw = s.pw := rfl
@[simp] theorem modVol_clk : (modVol v f s).clk = s.clk := rfl
@[simp] theorem modVol_side : (modVol v f s).side = s.side := rfl
@[simp] theorem modVol_ports : (modVol v f s).ports = s.ports := rfl
@[simp] theorem modVol_rings : (modVol v f s).rings = s.rings := rfl
@[simp] theorem modVol_ce : (modVol v f s).ce = s.ce := rfl
@[simp] theorem modVol_led : (modVol v f s).led = s.led := rfl
@[simp] theorem modVol_tabs : (modVol v f s).tabs = { s.tabs with vols := Tab.mod s.tabs.vols v f } := rfl
@[simp] theorem modVol_etu : (modVol v f s).etu = s.etu := rfl
@[simp] theorem modVol_jr : (modVol v f s).jr = s.jr := rfl
@[simp] theorem modVol_dur : (modVol v f s).dur = s.dur := rfl
@[simp] theorem modVol_qm : (modVol v f s).qm = s.qm := rfl
@[simp] theorem modVol_cooper : (modVol v f s).cooper = s.cooper := rfl
@[simp] theorem modVol_drv : (modVol v f s).drv = s.drv := rfl
@[simp] theorem modVol_cache : (modVol v f s).cache = s.cache := rfl
@[simp] theorem modVol_mc : (modVol v f s).mc = s.mc := rfl
@[simp] theorem modVol_dump : (modVol v f s).dump = s.dump := rfl
@[simp] theorem modVol_vault : (modVol v f s).vault = s.vault := rfl
@[simp] theorem modVol_tally : (modVol v f s).tally = s.tally := rfl
@[simp] theorem modVol_lock : (modVol v f s).lock = s.lock := rfl
@[simp] theorem modVol_sess : (modVol v f s).sess = s.sess := rfl
@[simp] theorem modVol_paths : (modVol v f s).paths = s.paths := rfl
@[simp] theorem modVol_dict : (modVol v f s).dict = s.dict := rfl
@[simp] theorem modVol_test : (modVol v f s).test = s.test := rfl
end

section
variable (g : Nat) (f : Group → Group) (s : State)
@[simp] theorem modGroup_pending : (modGroup g f s).pending = s.pending := rfl
@[simp] theorem modGroup_free : (modGroup g f s).free = s.free := rfl
@[simp] theorem modGroup_pw : (modGroup g f s).pw = s.pw := rfl
@[simp] theorem modGroup_clk : (modGroup g f s).clk = s.clk := rfl
@[simp] theorem modGroup_side : (modGroup g f s).side = s.side := rfl
@[simp] theorem modGroup_ports : (modGroup g f s).ports = s.ports := rfl
@[simp] theorem modGroup_rings : (modGroup g f s).rings = s.rings := rfl
@[simp] theorem modGroup_ce : (modGroup g f s).ce = s.ce := rfl
@[simp] theorem modGroup_led : (modGroup g f s).led = s.led := rfl
@[simp] theorem modGroup_tabs : (modGroup g f s).tabs = { s.tabs with groups := Tab.mod s.tabs.groups g f } := rfl
@[simp] theorem modGroup_etu : (modGroup g f s).etu = s.etu := rfl
@[simp] theorem modGroup_jr : (modGroup g f s).jr = s.jr := rfl
@[simp] theorem modGroup_dur : (modGroup g f s).dur = s.dur := rfl
@[simp] theorem modGroup_qm : (modGroup g f s).qm = s.qm := rfl
@[simp] theorem modGroup_cooper : (modGroup g f s).cooper = s.cooper := rfl
@[simp] theorem modGroup_drv : (modGroup g f s).drv = s.drv := rfl
@[simp] theorem modGroup_cache : (modGroup g f s).cache = s.cache := rfl
@[simp] theorem modGroup_mc : (modGroup g f s).mc = s.mc := rfl
@[simp] theorem modGroup_dump : (modGroup g f s).dump = s.dump := rfl
@[simp] theorem modGroup_vault : (modGroup g f s).vault = s.vault := rfl
@[simp] theorem modGroup_tally : (modGroup g f s).tally = s.tally := rfl
@[simp] theorem modGroup_lock : (modGroup g f s).lock = s.lock := rfl
@[simp] theorem modGroup_sess : (modGroup g f s).sess = s.sess := rfl
@[simp] theorem modGroup_paths : (modGroup g f s).paths = s.paths := rfl
@[simp] theorem modGroup_dict : (modGroup g f s).dict = s.dict := rfl
@[simp] theorem modGroup_test : (modGroup g f s).test = s.test := rfl
end

section
variable (c : Nat) (f : Chunk → Chunk) (s : State)
@[simp] theorem modChunk_pending : (modChunk c f s).pending = s.pending := rfl
@[simp] theorem modChunk_free : (modChunk c f s).free = s.free := rfl
@[simp] theorem modChunk_pw : (modChunk c f s).pw = s.pw := rfl
@[simp] theorem modChunk_clk : (modChunk c f s).clk = s.clk := rfl
@[simp] theorem modChunk_side : (modChunk c f s).side = s.side := rfl
@[simp] theorem modChunk_ports : (modChunk c f s).ports = s.ports := rfl
@[simp] theorem modChunk_rings : (modChunk c f s).rings = s.rings := rfl
@[simp] theorem modChunk_ce : (modChunk c f s).ce = s.ce := rfl
@[simp] theorem modChunk_led : (modChunk c f s).led = s.led := rfl
@[simp] theorem modChunk_tabs : (modChunk c f s).tabs =
    { s.tabs with chunks := Tab.put c (f (getChunk s c)) s.tabs.chunks } := rfl
@[simp] theorem modChunk_etu : (modChunk c f s).etu = s.etu := rfl
@[simp] theorem modChunk_jr : (modChunk c f s).jr = s.jr := rfl
@[simp] theorem modChunk_dur : (modChunk c f s).dur = s.dur := rfl
@[simp] theorem modChunk_qm : (modChunk c f s).qm = s.qm := rfl
@[simp] theorem modChunk_cooper : (modChunk c f s).cooper = s.cooper := rfl
@[simp] theorem modChunk_drv : (modChunk c f s).drv = s.drv := rfl
@[simp] theorem modChunk_cache : (modChunk c f s).cache = s.cache := rfl
@[simp] theorem modChunk_mc : (modChunk c f s).mc = s.mc := rfl
@[simp] theorem modChunk_dump : (modChunk c f s).dump = s.dump := rfl
@[simp] theorem modChunk_vault : (modChunk c f s).vault = s.vault := rfl
@[simp] theorem modChunk_tally : (modChunk c f s).tally = s.tally := rfl
@[simp] theorem modChunk_lock : (modChunk c f s).lock = s.lock := rfl
@[simp] theorem modChunk_sess : (modChunk c f s).sess = s.sess := rfl
@[simp] theorem modChunk_paths : (modChunk c f s).paths = s.paths := rfl
@[simp] theorem modChunk_dict : (modChunk c f s).dict = s.dict := rfl
@[simp] theorem modChunk_test : (modChunk c f s).test = s.test := rfl
end

section
variable (ix : Nat) (f : LogExtent → LogExtent) (s : State)
@[simp] theorem modLog_pending : (modLog ix f s).pending = s.pending := rfl
@[simp] theorem modLog_free : (modLog ix f s).free = s.free := rfl
@[simp] theorem modLog_pw : (modLog ix f s).pw = s.pw := rfl
@[simp] theorem modLog_clk : (modLog ix f s).clk = s.clk := rfl
@[simp] theorem modLog_side : (modLog ix f s).side = s.side := rfl
@[simp] theorem modLog_ports : (modLog ix f s).ports = s.ports := rfl
@[simp] theorem modLog_rings : (modLog ix f s).rings = s.rings := rfl
@[simp] theorem modLog_ce : (modLog ix f s).ce = s.ce := rfl
@[simp] theorem modLog_led : (modLog ix f s).led = s.led := rfl
@[simp] theorem modLog_tabs : (modLog ix f s).tabs = { s.tabs with logs := Tab.mod s.tabs.logs ix f } := rfl
@[simp] theorem modLog_etu : (modLog ix f s).etu = s.etu := rfl
@[simp] theorem modLog_jr : (modLog ix f s).jr = s.jr := rfl
@[simp] theorem modLog_dur : (modLog ix f s).dur = s.dur := rfl
@[simp] theorem modLog_qm : (modLog ix f s).qm = s.qm := rfl
@[simp] theorem modLog_cooper : (modLog ix f s).cooper = s.cooper := rfl
@[simp] theorem modLog_drv : (modLog ix f s).drv = s.drv := rfl
@[simp] theorem modLog_cache : (modLog ix f s).cache = s.cache := rfl
@[simp] theorem modLog_mc : (modLog ix f s).mc = s.mc := rfl
@[simp] theorem modLog_dump : (modLog ix f s).dump = s.dump := rfl
@[simp] theorem modLog_vault : (modLog ix f s).vault = s.vault := rfl
@[simp] theorem modLog_tally : (modLog ix f s).tally = s.tally := rfl
@[simp] theorem modLog_lock : (modLog ix f s).lock = s.lock := rfl
@[simp] theorem modLog_sess : (modLog ix f s).sess = s.sess := rfl
@[simp] theorem modLog_paths : (modLog ix f s).paths = s.paths := rfl
@[simp] theorem modLog_dict : (modLog ix f s).dict = s.dict := rfl
@[simp] theorem modLog_test : (modLog ix f s).test = s.test := rfl
end

section
variable (v x : Nat) (f : Extent → Extent) (s : State)

/-- Changing an extent's record changes the tables at most (R192). -/
theorem modExt_tables : modExt v x f s = { s with tabs := (modExt v x f s).tabs } := by
  unfold modExt; split
  · split <;> rfl
  · rfl

@[simp] theorem modExt_pending : (modExt v x f s).pending = s.pending := by rw [modExt_tables]
@[simp] theorem modExt_free : (modExt v x f s).free = s.free := by rw [modExt_tables]
@[simp] theorem modExt_pw : (modExt v x f s).pw = s.pw := by rw [modExt_tables]
@[simp] theorem modExt_clk : (modExt v x f s).clk = s.clk := by rw [modExt_tables]
@[simp] theorem modExt_side : (modExt v x f s).side = s.side := by rw [modExt_tables]
@[simp] theorem modExt_ports : (modExt v x f s).ports = s.ports := by rw [modExt_tables]
@[simp] theorem modExt_rings : (modExt v x f s).rings = s.rings := by rw [modExt_tables]
@[simp] theorem modExt_ce : (modExt v x f s).ce = s.ce := by rw [modExt_tables]
@[simp] theorem modExt_led : (modExt v x f s).led = s.led := by rw [modExt_tables]
@[simp] theorem modExt_etu : (modExt v x f s).etu = s.etu := by rw [modExt_tables]
@[simp] theorem modExt_jr : (modExt v x f s).jr = s.jr := by rw [modExt_tables]
@[simp] theorem modExt_dur : (modExt v x f s).dur = s.dur := by rw [modExt_tables]
@[simp] theorem modExt_qm : (modExt v x f s).qm = s.qm := by rw [modExt_tables]
@[simp] theorem modExt_cooper : (modExt v x f s).cooper = s.cooper := by rw [modExt_tables]
@[simp] theorem modExt_drv : (modExt v x f s).drv = s.drv := by rw [modExt_tables]
@[simp] theorem modExt_cache : (modExt v x f s).cache = s.cache := by rw [modExt_tables]
@[simp] theorem modExt_mc : (modExt v x f s).mc = s.mc := by rw [modExt_tables]
@[simp] theorem modExt_dump : (modExt v x f s).dump = s.dump := by rw [modExt_tables]
@[simp] theorem modExt_vault : (modExt v x f s).vault = s.vault := by rw [modExt_tables]
@[simp] theorem modExt_tally : (modExt v x f s).tally = s.tally := by rw [modExt_tables]
@[simp] theorem modExt_lock : (modExt v x f s).lock = s.lock := by rw [modExt_tables]
@[simp] theorem modExt_sess : (modExt v x f s).sess = s.sess := by rw [modExt_tables]
@[simp] theorem modExt_paths : (modExt v x f s).paths = s.paths := by rw [modExt_tables]
@[simp] theorem modExt_dict : (modExt v x f s).dict = s.dict := by rw [modExt_tables]
@[simp] theorem modExt_test : (modExt v x f s).test = s.test := by rw [modExt_tables]
end

section
variable (f : Etu → Etu) (s : State)
@[simp] theorem modEtu_pending : (modEtu f s).pending = s.pending := rfl
@[simp] theorem modEtu_free : (modEtu f s).free = s.free := rfl
@[simp] theorem modEtu_pw : (modEtu f s).pw = s.pw := rfl
@[simp] theorem modEtu_clk : (modEtu f s).clk = s.clk := rfl
@[simp] theorem modEtu_side : (modEtu f s).side = s.side := rfl
@[simp] theorem modEtu_ports : (modEtu f s).ports = s.ports := rfl
@[simp] theorem modEtu_rings : (modEtu f s).rings = s.rings := rfl
@[simp] theorem modEtu_ce : (modEtu f s).ce = s.ce := rfl
@[simp] theorem modEtu_led : (modEtu f s).led = s.led := rfl
@[simp] theorem modEtu_tabs : (modEtu f s).tabs = s.tabs := rfl
@[simp] theorem modEtu_etu : (modEtu f s).etu = f s.etu := rfl
@[simp] theorem modEtu_jr : (modEtu f s).jr = s.jr := rfl
@[simp] theorem modEtu_dur : (modEtu f s).dur = s.dur := rfl
@[simp] theorem modEtu_qm : (modEtu f s).qm = s.qm := rfl
@[simp] theorem modEtu_cooper : (modEtu f s).cooper = s.cooper := rfl
@[simp] theorem modEtu_drv : (modEtu f s).drv = s.drv := rfl
@[simp] theorem modEtu_cache : (modEtu f s).cache = s.cache := rfl
@[simp] theorem modEtu_mc : (modEtu f s).mc = s.mc := rfl
@[simp] theorem modEtu_dump : (modEtu f s).dump = s.dump := rfl
@[simp] theorem modEtu_vault : (modEtu f s).vault = s.vault := rfl
@[simp] theorem modEtu_tally : (modEtu f s).tally = s.tally := rfl
@[simp] theorem modEtu_lock : (modEtu f s).lock = s.lock := rfl
@[simp] theorem modEtu_sess : (modEtu f s).sess = s.sess := rfl
@[simp] theorem modEtu_paths : (modEtu f s).paths = s.paths := rfl
@[simp] theorem modEtu_dict : (modEtu f s).dict = s.dict := rfl
@[simp] theorem modEtu_test : (modEtu f s).test = s.test := rfl
end

section
variable (f : Durability → Durability) (s : State)
@[simp] theorem modDur_pending : (modDur f s).pending = s.pending := rfl
@[simp] theorem modDur_free : (modDur f s).free = s.free := rfl
@[simp] theorem modDur_pw : (modDur f s).pw = s.pw := rfl
@[simp] theorem modDur_clk : (modDur f s).clk = s.clk := rfl
@[simp] theorem modDur_side : (modDur f s).side = s.side := rfl
@[simp] theorem modDur_ports : (modDur f s).ports = s.ports := rfl
@[simp] theorem modDur_rings : (modDur f s).rings = s.rings := rfl
@[simp] theorem modDur_ce : (modDur f s).ce = s.ce := rfl
@[simp] theorem modDur_led : (modDur f s).led = s.led := rfl
@[simp] theorem modDur_tabs : (modDur f s).tabs = s.tabs := rfl
@[simp] theorem modDur_etu : (modDur f s).etu = s.etu := rfl
@[simp] theorem modDur_jr : (modDur f s).jr = s.jr := rfl
@[simp] theorem modDur_dur : (modDur f s).dur = f s.dur := rfl
@[simp] theorem modDur_qm : (modDur f s).qm = s.qm := rfl
@[simp] theorem modDur_cooper : (modDur f s).cooper = s.cooper := rfl
@[simp] theorem modDur_drv : (modDur f s).drv = s.drv := rfl
@[simp] theorem modDur_cache : (modDur f s).cache = s.cache := rfl
@[simp] theorem modDur_mc : (modDur f s).mc = s.mc := rfl
@[simp] theorem modDur_dump : (modDur f s).dump = s.dump := rfl
@[simp] theorem modDur_vault : (modDur f s).vault = s.vault := rfl
@[simp] theorem modDur_tally : (modDur f s).tally = s.tally := rfl
@[simp] theorem modDur_lock : (modDur f s).lock = s.lock := rfl
@[simp] theorem modDur_sess : (modDur f s).sess = s.sess := rfl
@[simp] theorem modDur_paths : (modDur f s).paths = s.paths := rfl
@[simp] theorem modDur_dict : (modDur f s).dict = s.dict := rfl
@[simp] theorem modDur_test : (modDur f s).test = s.test := rfl
end

section
variable (f : Quarry → Quarry) (s : State)
@[simp] theorem modQm_pending : (modQm f s).pending = s.pending := rfl
@[simp] theorem modQm_free : (modQm f s).free = s.free := rfl
@[simp] theorem modQm_pw : (modQm f s).pw = s.pw := rfl
@[simp] theorem modQm_clk : (modQm f s).clk = s.clk := rfl
@[simp] theorem modQm_side : (modQm f s).side = s.side := rfl
@[simp] theorem modQm_ports : (modQm f s).ports = s.ports := rfl
@[simp] theorem modQm_rings : (modQm f s).rings = s.rings := rfl
@[simp] theorem modQm_ce : (modQm f s).ce = s.ce := rfl
@[simp] theorem modQm_led : (modQm f s).led = s.led := rfl
@[simp] theorem modQm_tabs : (modQm f s).tabs = s.tabs := rfl
@[simp] theorem modQm_etu : (modQm f s).etu = s.etu := rfl
@[simp] theorem modQm_jr : (modQm f s).jr = s.jr := rfl
@[simp] theorem modQm_dur : (modQm f s).dur = s.dur := rfl
@[simp] theorem modQm_qm : (modQm f s).qm = f s.qm := rfl
@[simp] theorem modQm_cooper : (modQm f s).cooper = s.cooper := rfl
@[simp] theorem modQm_drv : (modQm f s).drv = s.drv := rfl
@[simp] theorem modQm_cache : (modQm f s).cache = s.cache := rfl
@[simp] theorem modQm_mc : (modQm f s).mc = s.mc := rfl
@[simp] theorem modQm_dump : (modQm f s).dump = s.dump := rfl
@[simp] theorem modQm_vault : (modQm f s).vault = s.vault := rfl
@[simp] theorem modQm_tally : (modQm f s).tally = s.tally := rfl
@[simp] theorem modQm_lock : (modQm f s).lock = s.lock := rfl
@[simp] theorem modQm_sess : (modQm f s).sess = s.sess := rfl
@[simp] theorem modQm_paths : (modQm f s).paths = s.paths := rfl
@[simp] theorem modQm_dict : (modQm f s).dict = s.dict := rfl
@[simp] theorem modQm_test : (modQm f s).test = s.test := rfl
end

section
variable (n : Nat) (f : Residency → Residency) (s : State)
@[simp] theorem modRes_pending : (modRes n f s).pending = s.pending := rfl
@[simp] theorem modRes_free : (modRes n f s).free = s.free := rfl
@[simp] theorem modRes_pw : (modRes n f s).pw = s.pw := rfl
@[simp] theorem modRes_clk : (modRes n f s).clk = s.clk := rfl
@[simp] theorem modRes_side : (modRes n f s).side = s.side := rfl
@[simp] theorem modRes_ports : (modRes n f s).ports = s.ports := rfl
@[simp] theorem modRes_rings : (modRes n f s).rings = s.rings := rfl
@[simp] theorem modRes_ce : (modRes n f s).ce = s.ce := rfl
@[simp] theorem modRes_led : (modRes n f s).led = s.led := rfl
@[simp] theorem modRes_tabs : (modRes n f s).tabs = s.tabs := rfl
@[simp] theorem modRes_etu : (modRes n f s).etu = s.etu := rfl
@[simp] theorem modRes_jr : (modRes n f s).jr = s.jr := rfl
@[simp] theorem modRes_dur : (modRes n f s).dur = s.dur := rfl
@[simp] theorem modRes_qm : (modRes n f s).qm =
    { s.qm with residency := Tab.put n (f (getRes s n)) s.qm.residency } := rfl
@[simp] theorem modRes_cooper : (modRes n f s).cooper = s.cooper := rfl
@[simp] theorem modRes_drv : (modRes n f s).drv = s.drv := rfl
@[simp] theorem modRes_cache : (modRes n f s).cache = s.cache := rfl
@[simp] theorem modRes_mc : (modRes n f s).mc = s.mc := rfl
@[simp] theorem modRes_dump : (modRes n f s).dump = s.dump := rfl
@[simp] theorem modRes_vault : (modRes n f s).vault = s.vault := rfl
@[simp] theorem modRes_tally : (modRes n f s).tally = s.tally := rfl
@[simp] theorem modRes_lock : (modRes n f s).lock = s.lock := rfl
@[simp] theorem modRes_sess : (modRes n f s).sess = s.sess := rfl
@[simp] theorem modRes_paths : (modRes n f s).paths = s.paths := rfl
@[simp] theorem modRes_dict : (modRes n f s).dict = s.dict := rfl
@[simp] theorem modRes_test : (modRes n f s).test = s.test := rfl
end

section
variable (d : Nat) (f : Dispatcher → Dispatcher) (s : State)
@[simp] theorem modDispatcher_pending : (modDispatcher d f s).pending = s.pending := rfl
@[simp] theorem modDispatcher_free : (modDispatcher d f s).free = s.free := rfl
@[simp] theorem modDispatcher_pw : (modDispatcher d f s).pw = s.pw := rfl
@[simp] theorem modDispatcher_clk : (modDispatcher d f s).clk = s.clk := rfl
@[simp] theorem modDispatcher_side : (modDispatcher d f s).side = s.side := rfl
@[simp] theorem modDispatcher_ports : (modDispatcher d f s).ports = s.ports := rfl
@[simp] theorem modDispatcher_rings : (modDispatcher d f s).rings = s.rings := rfl
@[simp] theorem modDispatcher_ce : (modDispatcher d f s).ce = s.ce := rfl
@[simp] theorem modDispatcher_led : (modDispatcher d f s).led = s.led := rfl
@[simp] theorem modDispatcher_tabs : (modDispatcher d f s).tabs = s.tabs := rfl
@[simp] theorem modDispatcher_etu : (modDispatcher d f s).etu = s.etu := rfl
@[simp] theorem modDispatcher_jr : (modDispatcher d f s).jr = s.jr := rfl
@[simp] theorem modDispatcher_dur : (modDispatcher d f s).dur = s.dur := rfl
@[simp] theorem modDispatcher_qm : (modDispatcher d f s).qm =
    { s.qm with dispatchers := Tab.put d (f (getDispatcher s d)) s.qm.dispatchers } := rfl
@[simp] theorem modDispatcher_cooper : (modDispatcher d f s).cooper = s.cooper := rfl
@[simp] theorem modDispatcher_drv : (modDispatcher d f s).drv = s.drv := rfl
@[simp] theorem modDispatcher_cache : (modDispatcher d f s).cache = s.cache := rfl
@[simp] theorem modDispatcher_mc : (modDispatcher d f s).mc = s.mc := rfl
@[simp] theorem modDispatcher_dump : (modDispatcher d f s).dump = s.dump := rfl
@[simp] theorem modDispatcher_vault : (modDispatcher d f s).vault = s.vault := rfl
@[simp] theorem modDispatcher_tally : (modDispatcher d f s).tally = s.tally := rfl
@[simp] theorem modDispatcher_lock : (modDispatcher d f s).lock = s.lock := rfl
@[simp] theorem modDispatcher_sess : (modDispatcher d f s).sess = s.sess := rfl
@[simp] theorem modDispatcher_paths : (modDispatcher d f s).paths = s.paths := rfl
@[simp] theorem modDispatcher_dict : (modDispatcher d f s).dict = s.dict := rfl
@[simp] theorem modDispatcher_test : (modDispatcher d f s).test = s.test := rfl
end

section
variable (f : Cooper → Cooper) (s : State)
@[simp] theorem modCooper_pending : (modCooper f s).pending = s.pending := rfl
@[simp] theorem modCooper_free : (modCooper f s).free = s.free := rfl
@[simp] theorem modCooper_pw : (modCooper f s).pw = s.pw := rfl
@[simp] theorem modCooper_clk : (modCooper f s).clk = s.clk := rfl
@[simp] theorem modCooper_side : (modCooper f s).side = s.side := rfl
@[simp] theorem modCooper_ports : (modCooper f s).ports = s.ports := rfl
@[simp] theorem modCooper_rings : (modCooper f s).rings = s.rings := rfl
@[simp] theorem modCooper_ce : (modCooper f s).ce = s.ce := rfl
@[simp] theorem modCooper_led : (modCooper f s).led = s.led := rfl
@[simp] theorem modCooper_tabs : (modCooper f s).tabs = s.tabs := rfl
@[simp] theorem modCooper_etu : (modCooper f s).etu = s.etu := rfl
@[simp] theorem modCooper_jr : (modCooper f s).jr = s.jr := rfl
@[simp] theorem modCooper_dur : (modCooper f s).dur = s.dur := rfl
@[simp] theorem modCooper_qm : (modCooper f s).qm = s.qm := rfl
@[simp] theorem modCooper_cooper : (modCooper f s).cooper = f s.cooper := rfl
@[simp] theorem modCooper_drv : (modCooper f s).drv = s.drv := rfl
@[simp] theorem modCooper_cache : (modCooper f s).cache = s.cache := rfl
@[simp] theorem modCooper_mc : (modCooper f s).mc = s.mc := rfl
@[simp] theorem modCooper_dump : (modCooper f s).dump = s.dump := rfl
@[simp] theorem modCooper_vault : (modCooper f s).vault = s.vault := rfl
@[simp] theorem modCooper_tally : (modCooper f s).tally = s.tally := rfl
@[simp] theorem modCooper_lock : (modCooper f s).lock = s.lock := rfl
@[simp] theorem modCooper_sess : (modCooper f s).sess = s.sess := rfl
@[simp] theorem modCooper_paths : (modCooper f s).paths = s.paths := rfl
@[simp] theorem modCooper_dict : (modCooper f s).dict = s.dict := rfl
@[simp] theorem modCooper_test : (modCooper f s).test = s.test := rfl
end

section
variable (d : Nat) (f : Drive → Drive) (s : State)
@[simp] theorem modDrive_pending : (modDrive d f s).pending = s.pending := rfl
@[simp] theorem modDrive_free : (modDrive d f s).free = s.free := rfl
@[simp] theorem modDrive_pw : (modDrive d f s).pw = s.pw := rfl
@[simp] theorem modDrive_clk : (modDrive d f s).clk = s.clk := rfl
@[simp] theorem modDrive_side : (modDrive d f s).side = s.side := rfl
@[simp] theorem modDrive_ports : (modDrive d f s).ports = s.ports := rfl
@[simp] theorem modDrive_rings : (modDrive d f s).rings = s.rings := rfl
@[simp] theorem modDrive_ce : (modDrive d f s).ce = s.ce := rfl
@[simp] theorem modDrive_led : (modDrive d f s).led = s.led := rfl
@[simp] theorem modDrive_tabs : (modDrive d f s).tabs = s.tabs := rfl
@[simp] theorem modDrive_etu : (modDrive d f s).etu = s.etu := rfl
@[simp] theorem modDrive_jr : (modDrive d f s).jr = s.jr := rfl
@[simp] theorem modDrive_dur : (modDrive d f s).dur = s.dur := rfl
@[simp] theorem modDrive_qm : (modDrive d f s).qm = s.qm := rfl
@[simp] theorem modDrive_cooper : (modDrive d f s).cooper = s.cooper := rfl
@[simp] theorem modDrive_drv : (modDrive d f s).drv = { s.drv with drives := Tab.mod s.drv.drives d f } := rfl
@[simp] theorem modDrive_cache : (modDrive d f s).cache = s.cache := rfl
@[simp] theorem modDrive_mc : (modDrive d f s).mc = s.mc := rfl
@[simp] theorem modDrive_dump : (modDrive d f s).dump = s.dump := rfl
@[simp] theorem modDrive_vault : (modDrive d f s).vault = s.vault := rfl
@[simp] theorem modDrive_tally : (modDrive d f s).tally = s.tally := rfl
@[simp] theorem modDrive_lock : (modDrive d f s).lock = s.lock := rfl
@[simp] theorem modDrive_sess : (modDrive d f s).sess = s.sess := rfl
@[simp] theorem modDrive_paths : (modDrive d f s).paths = s.paths := rfl
@[simp] theorem modDrive_dict : (modDrive d f s).dict = s.dict := rfl
@[simp] theorem modDrive_test : (modDrive d f s).test = s.test := rfl
end

section
variable (f : Cache → Cache) (s : State)
@[simp] theorem modCache_pending : (modCache f s).pending = s.pending := rfl
@[simp] theorem modCache_free : (modCache f s).free = s.free := rfl
@[simp] theorem modCache_pw : (modCache f s).pw = s.pw := rfl
@[simp] theorem modCache_clk : (modCache f s).clk = s.clk := rfl
@[simp] theorem modCache_side : (modCache f s).side = s.side := rfl
@[simp] theorem modCache_ports : (modCache f s).ports = s.ports := rfl
@[simp] theorem modCache_rings : (modCache f s).rings = s.rings := rfl
@[simp] theorem modCache_ce : (modCache f s).ce = s.ce := rfl
@[simp] theorem modCache_led : (modCache f s).led = s.led := rfl
@[simp] theorem modCache_tabs : (modCache f s).tabs = s.tabs := rfl
@[simp] theorem modCache_etu : (modCache f s).etu = s.etu := rfl
@[simp] theorem modCache_jr : (modCache f s).jr = s.jr := rfl
@[simp] theorem modCache_dur : (modCache f s).dur = s.dur := rfl
@[simp] theorem modCache_qm : (modCache f s).qm = s.qm := rfl
@[simp] theorem modCache_cooper : (modCache f s).cooper = s.cooper := rfl
@[simp] theorem modCache_drv : (modCache f s).drv = s.drv := rfl
@[simp] theorem modCache_cache : (modCache f s).cache = f s.cache := rfl
@[simp] theorem modCache_mc : (modCache f s).mc = s.mc := rfl
@[simp] theorem modCache_dump : (modCache f s).dump = s.dump := rfl
@[simp] theorem modCache_vault : (modCache f s).vault = s.vault := rfl
@[simp] theorem modCache_tally : (modCache f s).tally = s.tally := rfl
@[simp] theorem modCache_lock : (modCache f s).lock = s.lock := rfl
@[simp] theorem modCache_sess : (modCache f s).sess = s.sess := rfl
@[simp] theorem modCache_paths : (modCache f s).paths = s.paths := rfl
@[simp] theorem modCache_dict : (modCache f s).dict = s.dict := rfl
@[simp] theorem modCache_test : (modCache f s).test = s.test := rfl
end

section
variable (i : Nat) (f : Slot → Slot) (s : State)
@[simp] theorem modSlot_pending : (modSlot i f s).pending = s.pending := rfl
@[simp] theorem modSlot_free : (modSlot i f s).free = s.free := rfl
@[simp] theorem modSlot_pw : (modSlot i f s).pw = s.pw := rfl
@[simp] theorem modSlot_clk : (modSlot i f s).clk = s.clk := rfl
@[simp] theorem modSlot_side : (modSlot i f s).side = s.side := rfl
@[simp] theorem modSlot_ports : (modSlot i f s).ports = s.ports := rfl
@[simp] theorem modSlot_rings : (modSlot i f s).rings = s.rings := rfl
@[simp] theorem modSlot_ce : (modSlot i f s).ce = s.ce := rfl
@[simp] theorem modSlot_led : (modSlot i f s).led = s.led := rfl
@[simp] theorem modSlot_tabs : (modSlot i f s).tabs = s.tabs := rfl
@[simp] theorem modSlot_etu : (modSlot i f s).etu = s.etu := rfl
@[simp] theorem modSlot_jr : (modSlot i f s).jr = s.jr := rfl
@[simp] theorem modSlot_dur : (modSlot i f s).dur = s.dur := rfl
@[simp] theorem modSlot_qm : (modSlot i f s).qm = s.qm := rfl
@[simp] theorem modSlot_cooper : (modSlot i f s).cooper = s.cooper := rfl
@[simp] theorem modSlot_drv : (modSlot i f s).drv = s.drv := rfl
@[simp] theorem modSlot_cache : (modSlot i f s).cache = { s.cache with slots := Tab.mod s.cache.slots i f } := rfl
@[simp] theorem modSlot_mc : (modSlot i f s).mc = s.mc := rfl
@[simp] theorem modSlot_dump : (modSlot i f s).dump = s.dump := rfl
@[simp] theorem modSlot_vault : (modSlot i f s).vault = s.vault := rfl
@[simp] theorem modSlot_tally : (modSlot i f s).tally = s.tally := rfl
@[simp] theorem modSlot_lock : (modSlot i f s).lock = s.lock := rfl
@[simp] theorem modSlot_sess : (modSlot i f s).sess = s.sess := rfl
@[simp] theorem modSlot_paths : (modSlot i f s).paths = s.paths := rfl
@[simp] theorem modSlot_dict : (modSlot i f s).dict = s.dict := rfl
@[simp] theorem modSlot_test : (modSlot i f s).test = s.test := rfl
end

section
variable (f : MapCache → MapCache) (s : State)
@[simp] theorem modMc_pending : (modMc f s).pending = s.pending := rfl
@[simp] theorem modMc_free : (modMc f s).free = s.free := rfl
@[simp] theorem modMc_pw : (modMc f s).pw = s.pw := rfl
@[simp] theorem modMc_clk : (modMc f s).clk = s.clk := rfl
@[simp] theorem modMc_side : (modMc f s).side = s.side := rfl
@[simp] theorem modMc_ports : (modMc f s).ports = s.ports := rfl
@[simp] theorem modMc_rings : (modMc f s).rings = s.rings := rfl
@[simp] theorem modMc_ce : (modMc f s).ce = s.ce := rfl
@[simp] theorem modMc_led : (modMc f s).led = s.led := rfl
@[simp] theorem modMc_tabs : (modMc f s).tabs = s.tabs := rfl
@[simp] theorem modMc_etu : (modMc f s).etu = s.etu := rfl
@[simp] theorem modMc_jr : (modMc f s).jr = s.jr := rfl
@[simp] theorem modMc_dur : (modMc f s).dur = s.dur := rfl
@[simp] theorem modMc_qm : (modMc f s).qm = s.qm := rfl
@[simp] theorem modMc_cooper : (modMc f s).cooper = s.cooper := rfl
@[simp] theorem modMc_drv : (modMc f s).drv = s.drv := rfl
@[simp] theorem modMc_cache : (modMc f s).cache = s.cache := rfl
@[simp] theorem modMc_mc : (modMc f s).mc = f s.mc := rfl
@[simp] theorem modMc_dump : (modMc f s).dump = s.dump := rfl
@[simp] theorem modMc_vault : (modMc f s).vault = s.vault := rfl
@[simp] theorem modMc_tally : (modMc f s).tally = s.tally := rfl
@[simp] theorem modMc_lock : (modMc f s).lock = s.lock := rfl
@[simp] theorem modMc_sess : (modMc f s).sess = s.sess := rfl
@[simp] theorem modMc_paths : (modMc f s).paths = s.paths := rfl
@[simp] theorem modMc_dict : (modMc f s).dict = s.dict := rfl
@[simp] theorem modMc_test : (modMc f s).test = s.test := rfl
end

section
variable (f : Vault → Vault) (s : State)
@[simp] theorem modVault_pending : (modVault f s).pending = s.pending := rfl
@[simp] theorem modVault_free : (modVault f s).free = s.free := rfl
@[simp] theorem modVault_pw : (modVault f s).pw = s.pw := rfl
@[simp] theorem modVault_clk : (modVault f s).clk = s.clk := rfl
@[simp] theorem modVault_side : (modVault f s).side = s.side := rfl
@[simp] theorem modVault_ports : (modVault f s).ports = s.ports := rfl
@[simp] theorem modVault_rings : (modVault f s).rings = s.rings := rfl
@[simp] theorem modVault_ce : (modVault f s).ce = s.ce := rfl
@[simp] theorem modVault_led : (modVault f s).led = s.led := rfl
@[simp] theorem modVault_tabs : (modVault f s).tabs = s.tabs := rfl
@[simp] theorem modVault_etu : (modVault f s).etu = s.etu := rfl
@[simp] theorem modVault_jr : (modVault f s).jr = s.jr := rfl
@[simp] theorem modVault_dur : (modVault f s).dur = s.dur := rfl
@[simp] theorem modVault_qm : (modVault f s).qm = s.qm := rfl
@[simp] theorem modVault_cooper : (modVault f s).cooper = s.cooper := rfl
@[simp] theorem modVault_drv : (modVault f s).drv = s.drv := rfl
@[simp] theorem modVault_cache : (modVault f s).cache = s.cache := rfl
@[simp] theorem modVault_mc : (modVault f s).mc = s.mc := rfl
@[simp] theorem modVault_dump : (modVault f s).dump = s.dump := rfl
@[simp] theorem modVault_vault : (modVault f s).vault = f s.vault := rfl
@[simp] theorem modVault_tally : (modVault f s).tally = s.tally := rfl
@[simp] theorem modVault_lock : (modVault f s).lock = s.lock := rfl
@[simp] theorem modVault_sess : (modVault f s).sess = s.sess := rfl
@[simp] theorem modVault_paths : (modVault f s).paths = s.paths := rfl
@[simp] theorem modVault_dict : (modVault f s).dict = s.dict := rfl
@[simp] theorem modVault_test : (modVault f s).test = s.test := rfl
end

section
variable (f : VaultHealth → VaultHealth) (s : State)
@[simp] theorem modHealth_pending : (modHealth f s).pending = s.pending := rfl
@[simp] theorem modHealth_free : (modHealth f s).free = s.free := rfl
@[simp] theorem modHealth_pw : (modHealth f s).pw = s.pw := rfl
@[simp] theorem modHealth_clk : (modHealth f s).clk = s.clk := rfl
@[simp] theorem modHealth_side : (modHealth f s).side = s.side := rfl
@[simp] theorem modHealth_ports : (modHealth f s).ports = s.ports := rfl
@[simp] theorem modHealth_rings : (modHealth f s).rings = s.rings := rfl
@[simp] theorem modHealth_ce : (modHealth f s).ce = s.ce := rfl
@[simp] theorem modHealth_led : (modHealth f s).led = s.led := rfl
@[simp] theorem modHealth_tabs : (modHealth f s).tabs = s.tabs := rfl
@[simp] theorem modHealth_etu : (modHealth f s).etu = s.etu := rfl
@[simp] theorem modHealth_jr : (modHealth f s).jr = s.jr := rfl
@[simp] theorem modHealth_dur : (modHealth f s).dur = s.dur := rfl
@[simp] theorem modHealth_qm : (modHealth f s).qm = s.qm := rfl
@[simp] theorem modHealth_cooper : (modHealth f s).cooper = s.cooper := rfl
@[simp] theorem modHealth_drv : (modHealth f s).drv = s.drv := rfl
@[simp] theorem modHealth_cache : (modHealth f s).cache = s.cache := rfl
@[simp] theorem modHealth_mc : (modHealth f s).mc = s.mc := rfl
@[simp] theorem modHealth_dump : (modHealth f s).dump = s.dump := rfl
@[simp] theorem modHealth_vault : (modHealth f s).vault = { s.vault with health := f s.vault.health } := rfl
@[simp] theorem modHealth_tally : (modHealth f s).tally = s.tally := rfl
@[simp] theorem modHealth_lock : (modHealth f s).lock = s.lock := rfl
@[simp] theorem modHealth_sess : (modHealth f s).sess = s.sess := rfl
@[simp] theorem modHealth_paths : (modHealth f s).paths = s.paths := rfl
@[simp] theorem modHealth_dict : (modHealth f s).dict = s.dict := rfl
@[simp] theorem modHealth_test : (modHealth f s).test = s.test := rfl
end

section
variable (i : Nat) (f : VSet → VSet) (s : State)
@[simp] theorem modSet_pending : (modSet i f s).pending = s.pending := rfl
@[simp] theorem modSet_free : (modSet i f s).free = s.free := rfl
@[simp] theorem modSet_pw : (modSet i f s).pw = s.pw := rfl
@[simp] theorem modSet_clk : (modSet i f s).clk = s.clk := rfl
@[simp] theorem modSet_side : (modSet i f s).side = s.side := rfl
@[simp] theorem modSet_ports : (modSet i f s).ports = s.ports := rfl
@[simp] theorem modSet_rings : (modSet i f s).rings = s.rings := rfl
@[simp] theorem modSet_ce : (modSet i f s).ce = s.ce := rfl
@[simp] theorem modSet_led : (modSet i f s).led = s.led := rfl
@[simp] theorem modSet_tabs : (modSet i f s).tabs = s.tabs := rfl
@[simp] theorem modSet_etu : (modSet i f s).etu = s.etu := rfl
@[simp] theorem modSet_jr : (modSet i f s).jr = s.jr := rfl
@[simp] theorem modSet_dur : (modSet i f s).dur = s.dur := rfl
@[simp] theorem modSet_qm : (modSet i f s).qm = s.qm := rfl
@[simp] theorem modSet_cooper : (modSet i f s).cooper = s.cooper := rfl
@[simp] theorem modSet_drv : (modSet i f s).drv = s.drv := rfl
@[simp] theorem modSet_cache : (modSet i f s).cache = s.cache := rfl
@[simp] theorem modSet_mc : (modSet i f s).mc = s.mc := rfl
@[simp] theorem modSet_dump : (modSet i f s).dump = s.dump := rfl
@[simp] theorem modSet_vault : (modSet i f s).vault =
    { s.vault with sets := Tab.put i (f (getSet s i)) s.vault.sets } := rfl
@[simp] theorem modSet_tally : (modSet i f s).tally = s.tally := rfl
@[simp] theorem modSet_lock : (modSet i f s).lock = s.lock := rfl
@[simp] theorem modSet_sess : (modSet i f s).sess = s.sess := rfl
@[simp] theorem modSet_paths : (modSet i f s).paths = s.paths := rfl
@[simp] theorem modSet_dict : (modSet i f s).dict = s.dict := rfl
@[simp] theorem modSet_test : (modSet i f s).test = s.test := rfl
end

section
variable (f : Tallyman → Tallyman) (s : State)
@[simp] theorem modTally_pending : (modTally f s).pending = s.pending := rfl
@[simp] theorem modTally_free : (modTally f s).free = s.free := rfl
@[simp] theorem modTally_pw : (modTally f s).pw = s.pw := rfl
@[simp] theorem modTally_clk : (modTally f s).clk = s.clk := rfl
@[simp] theorem modTally_side : (modTally f s).side = s.side := rfl
@[simp] theorem modTally_ports : (modTally f s).ports = s.ports := rfl
@[simp] theorem modTally_rings : (modTally f s).rings = s.rings := rfl
@[simp] theorem modTally_ce : (modTally f s).ce = s.ce := rfl
@[simp] theorem modTally_led : (modTally f s).led = s.led := rfl
@[simp] theorem modTally_tabs : (modTally f s).tabs = s.tabs := rfl
@[simp] theorem modTally_etu : (modTally f s).etu = s.etu := rfl
@[simp] theorem modTally_jr : (modTally f s).jr = s.jr := rfl
@[simp] theorem modTally_dur : (modTally f s).dur = s.dur := rfl
@[simp] theorem modTally_qm : (modTally f s).qm = s.qm := rfl
@[simp] theorem modTally_cooper : (modTally f s).cooper = s.cooper := rfl
@[simp] theorem modTally_drv : (modTally f s).drv = s.drv := rfl
@[simp] theorem modTally_cache : (modTally f s).cache = s.cache := rfl
@[simp] theorem modTally_mc : (modTally f s).mc = s.mc := rfl
@[simp] theorem modTally_dump : (modTally f s).dump = s.dump := rfl
@[simp] theorem modTally_vault : (modTally f s).vault = s.vault := rfl
@[simp] theorem modTally_tally : (modTally f s).tally = f s.tally := rfl
@[simp] theorem modTally_lock : (modTally f s).lock = s.lock := rfl
@[simp] theorem modTally_sess : (modTally f s).sess = s.sess := rfl
@[simp] theorem modTally_paths : (modTally f s).paths = s.paths := rfl
@[simp] theorem modTally_dict : (modTally f s).dict = s.dict := rfl
@[simp] theorem modTally_test : (modTally f s).test = s.test := rfl
end

section
variable (f : BatPack → BatPack) (s : State)
@[simp] theorem modPack_pending : (modPack f s).pending = s.pending := rfl
@[simp] theorem modPack_free : (modPack f s).free = s.free := rfl
@[simp] theorem modPack_pw : (modPack f s).pw = s.pw := rfl
@[simp] theorem modPack_clk : (modPack f s).clk = s.clk := rfl
@[simp] theorem modPack_side : (modPack f s).side = s.side := rfl
@[simp] theorem modPack_ports : (modPack f s).ports = s.ports := rfl
@[simp] theorem modPack_rings : (modPack f s).rings = s.rings := rfl
@[simp] theorem modPack_ce : (modPack f s).ce = s.ce := rfl
@[simp] theorem modPack_led : (modPack f s).led = s.led := rfl
@[simp] theorem modPack_tabs : (modPack f s).tabs = s.tabs := rfl
@[simp] theorem modPack_etu : (modPack f s).etu = s.etu := rfl
@[simp] theorem modPack_jr : (modPack f s).jr = s.jr := rfl
@[simp] theorem modPack_dur : (modPack f s).dur = s.dur := rfl
@[simp] theorem modPack_qm : (modPack f s).qm = s.qm := rfl
@[simp] theorem modPack_cooper : (modPack f s).cooper = s.cooper := rfl
@[simp] theorem modPack_drv : (modPack f s).drv = s.drv := rfl
@[simp] theorem modPack_cache : (modPack f s).cache = s.cache := rfl
@[simp] theorem modPack_mc : (modPack f s).mc = s.mc := rfl
@[simp] theorem modPack_dump : (modPack f s).dump = s.dump := rfl
@[simp] theorem modPack_vault : (modPack f s).vault = s.vault := rfl
@[simp] theorem modPack_tally : (modPack f s).tally = { s.tally with pack := f s.tally.pack } := rfl
@[simp] theorem modPack_lock : (modPack f s).lock = s.lock := rfl
@[simp] theorem modPack_sess : (modPack f s).sess = s.sess := rfl
@[simp] theorem modPack_paths : (modPack f s).paths = s.paths := rfl
@[simp] theorem modPack_dict : (modPack f s).dict = s.dict := rfl
@[simp] theorem modPack_test : (modPack f s).test = s.test := rfl
end

section
variable (f : Charger → Charger) (s : State)
@[simp] theorem modCharger_pending : (modCharger f s).pending = s.pending := rfl
@[simp] theorem modCharger_free : (modCharger f s).free = s.free := rfl
@[simp] theorem modCharger_pw : (modCharger f s).pw = s.pw := rfl
@[simp] theorem modCharger_clk : (modCharger f s).clk = s.clk := rfl
@[simp] theorem modCharger_side : (modCharger f s).side = s.side := rfl
@[simp] theorem modCharger_ports : (modCharger f s).ports = s.ports := rfl
@[simp] theorem modCharger_rings : (modCharger f s).rings = s.rings := rfl
@[simp] theorem modCharger_ce : (modCharger f s).ce = s.ce := rfl
@[simp] theorem modCharger_led : (modCharger f s).led = s.led := rfl
@[simp] theorem modCharger_tabs : (modCharger f s).tabs = s.tabs := rfl
@[simp] theorem modCharger_etu : (modCharger f s).etu = s.etu := rfl
@[simp] theorem modCharger_jr : (modCharger f s).jr = s.jr := rfl
@[simp] theorem modCharger_dur : (modCharger f s).dur = s.dur := rfl
@[simp] theorem modCharger_qm : (modCharger f s).qm = s.qm := rfl
@[simp] theorem modCharger_cooper : (modCharger f s).cooper = s.cooper := rfl
@[simp] theorem modCharger_drv : (modCharger f s).drv = s.drv := rfl
@[simp] theorem modCharger_cache : (modCharger f s).cache = s.cache := rfl
@[simp] theorem modCharger_mc : (modCharger f s).mc = s.mc := rfl
@[simp] theorem modCharger_dump : (modCharger f s).dump = s.dump := rfl
@[simp] theorem modCharger_vault : (modCharger f s).vault = s.vault := rfl
@[simp] theorem modCharger_tally : (modCharger f s).tally = { s.tally with charger := f s.tally.charger } := rfl
@[simp] theorem modCharger_lock : (modCharger f s).lock = s.lock := rfl
@[simp] theorem modCharger_sess : (modCharger f s).sess = s.sess := rfl
@[simp] theorem modCharger_paths : (modCharger f s).paths = s.paths := rfl
@[simp] theorem modCharger_dict : (modCharger f s).dict = s.dict := rfl
@[simp] theorem modCharger_test : (modCharger f s).test = s.test := rfl
end

section
variable (f : Gauge → Gauge) (s : State)
@[simp] theorem modGauge_pending : (modGauge f s).pending = s.pending := rfl
@[simp] theorem modGauge_free : (modGauge f s).free = s.free := rfl
@[simp] theorem modGauge_pw : (modGauge f s).pw = s.pw := rfl
@[simp] theorem modGauge_clk : (modGauge f s).clk = s.clk := rfl
@[simp] theorem modGauge_side : (modGauge f s).side = s.side := rfl
@[simp] theorem modGauge_ports : (modGauge f s).ports = s.ports := rfl
@[simp] theorem modGauge_rings : (modGauge f s).rings = s.rings := rfl
@[simp] theorem modGauge_ce : (modGauge f s).ce = s.ce := rfl
@[simp] theorem modGauge_led : (modGauge f s).led = s.led := rfl
@[simp] theorem modGauge_tabs : (modGauge f s).tabs = s.tabs := rfl
@[simp] theorem modGauge_etu : (modGauge f s).etu = s.etu := rfl
@[simp] theorem modGauge_jr : (modGauge f s).jr = s.jr := rfl
@[simp] theorem modGauge_dur : (modGauge f s).dur = s.dur := rfl
@[simp] theorem modGauge_qm : (modGauge f s).qm = s.qm := rfl
@[simp] theorem modGauge_cooper : (modGauge f s).cooper = s.cooper := rfl
@[simp] theorem modGauge_drv : (modGauge f s).drv = s.drv := rfl
@[simp] theorem modGauge_cache : (modGauge f s).cache = s.cache := rfl
@[simp] theorem modGauge_mc : (modGauge f s).mc = s.mc := rfl
@[simp] theorem modGauge_dump : (modGauge f s).dump = s.dump := rfl
@[simp] theorem modGauge_vault : (modGauge f s).vault = s.vault := rfl
@[simp] theorem modGauge_tally : (modGauge f s).tally = { s.tally with gauge := f s.tally.gauge } := rfl
@[simp] theorem modGauge_lock : (modGauge f s).lock = s.lock := rfl
@[simp] theorem modGauge_sess : (modGauge f s).sess = s.sess := rfl
@[simp] theorem modGauge_paths : (modGauge f s).paths = s.paths := rfl
@[simp] theorem modGauge_dict : (modGauge f s).dict = s.dict := rfl
@[simp] theorem modGauge_test : (modGauge f s).test = s.test := rfl
end

section
variable (f : Learn → Learn) (s : State)
@[simp] theorem modLearn_pending : (modLearn f s).pending = s.pending := rfl
@[simp] theorem modLearn_free : (modLearn f s).free = s.free := rfl
@[simp] theorem modLearn_pw : (modLearn f s).pw = s.pw := rfl
@[simp] theorem modLearn_clk : (modLearn f s).clk = s.clk := rfl
@[simp] theorem modLearn_side : (modLearn f s).side = s.side := rfl
@[simp] theorem modLearn_ports : (modLearn f s).ports = s.ports := rfl
@[simp] theorem modLearn_rings : (modLearn f s).rings = s.rings := rfl
@[simp] theorem modLearn_ce : (modLearn f s).ce = s.ce := rfl
@[simp] theorem modLearn_led : (modLearn f s).led = s.led := rfl
@[simp] theorem modLearn_tabs : (modLearn f s).tabs = s.tabs := rfl
@[simp] theorem modLearn_etu : (modLearn f s).etu = s.etu := rfl
@[simp] theorem modLearn_jr : (modLearn f s).jr = s.jr := rfl
@[simp] theorem modLearn_dur : (modLearn f s).dur = s.dur := rfl
@[simp] theorem modLearn_qm : (modLearn f s).qm = s.qm := rfl
@[simp] theorem modLearn_cooper : (modLearn f s).cooper = s.cooper := rfl
@[simp] theorem modLearn_drv : (modLearn f s).drv = s.drv := rfl
@[simp] theorem modLearn_cache : (modLearn f s).cache = s.cache := rfl
@[simp] theorem modLearn_mc : (modLearn f s).mc = s.mc := rfl
@[simp] theorem modLearn_dump : (modLearn f s).dump = s.dump := rfl
@[simp] theorem modLearn_vault : (modLearn f s).vault = s.vault := rfl
@[simp] theorem modLearn_tally : (modLearn f s).tally = { s.tally with learn := f s.tally.learn } := rfl
@[simp] theorem modLearn_lock : (modLearn f s).lock = s.lock := rfl
@[simp] theorem modLearn_sess : (modLearn f s).sess = s.sess := rfl
@[simp] theorem modLearn_paths : (modLearn f s).paths = s.paths := rfl
@[simp] theorem modLearn_dict : (modLearn f s).dict = s.dict := rfl
@[simp] theorem modLearn_test : (modLearn f s).test = s.test := rfl
end

section
variable (f : Locksmith → Locksmith) (s : State)
@[simp] theorem modLock_pending : (modLock f s).pending = s.pending := rfl
@[simp] theorem modLock_free : (modLock f s).free = s.free := rfl
@[simp] theorem modLock_pw : (modLock f s).pw = s.pw := rfl
@[simp] theorem modLock_clk : (modLock f s).clk = s.clk := rfl
@[simp] theorem modLock_side : (modLock f s).side = s.side := rfl
@[simp] theorem modLock_ports : (modLock f s).ports = s.ports := rfl
@[simp] theorem modLock_rings : (modLock f s).rings = s.rings := rfl
@[simp] theorem modLock_ce : (modLock f s).ce = s.ce := rfl
@[simp] theorem modLock_led : (modLock f s).led = s.led := rfl
@[simp] theorem modLock_tabs : (modLock f s).tabs = s.tabs := rfl
@[simp] theorem modLock_etu : (modLock f s).etu = s.etu := rfl
@[simp] theorem modLock_jr : (modLock f s).jr = s.jr := rfl
@[simp] theorem modLock_dur : (modLock f s).dur = s.dur := rfl
@[simp] theorem modLock_qm : (modLock f s).qm = s.qm := rfl
@[simp] theorem modLock_cooper : (modLock f s).cooper = s.cooper := rfl
@[simp] theorem modLock_drv : (modLock f s).drv = s.drv := rfl
@[simp] theorem modLock_cache : (modLock f s).cache = s.cache := rfl
@[simp] theorem modLock_mc : (modLock f s).mc = s.mc := rfl
@[simp] theorem modLock_dump : (modLock f s).dump = s.dump := rfl
@[simp] theorem modLock_vault : (modLock f s).vault = s.vault := rfl
@[simp] theorem modLock_tally : (modLock f s).tally = s.tally := rfl
@[simp] theorem modLock_lock : (modLock f s).lock = f s.lock := rfl
@[simp] theorem modLock_sess : (modLock f s).sess = s.sess := rfl
@[simp] theorem modLock_paths : (modLock f s).paths = s.paths := rfl
@[simp] theorem modLock_dict : (modLock f s).dict = s.dict := rfl
@[simp] theorem modLock_test : (modLock f s).test = s.test := rfl
end

section
variable (f : Dict → Dict) (s : State)
@[simp] theorem modDict_pending : (modDict f s).pending = s.pending := rfl
@[simp] theorem modDict_free : (modDict f s).free = s.free := rfl
@[simp] theorem modDict_pw : (modDict f s).pw = s.pw := rfl
@[simp] theorem modDict_clk : (modDict f s).clk = s.clk := rfl
@[simp] theorem modDict_side : (modDict f s).side = s.side := rfl
@[simp] theorem modDict_ports : (modDict f s).ports = s.ports := rfl
@[simp] theorem modDict_rings : (modDict f s).rings = s.rings := rfl
@[simp] theorem modDict_ce : (modDict f s).ce = s.ce := rfl
@[simp] theorem modDict_led : (modDict f s).led = s.led := rfl
@[simp] theorem modDict_tabs : (modDict f s).tabs = s.tabs := rfl
@[simp] theorem modDict_etu : (modDict f s).etu = s.etu := rfl
@[simp] theorem modDict_jr : (modDict f s).jr = s.jr := rfl
@[simp] theorem modDict_dur : (modDict f s).dur = s.dur := rfl
@[simp] theorem modDict_qm : (modDict f s).qm = s.qm := rfl
@[simp] theorem modDict_cooper : (modDict f s).cooper = s.cooper := rfl
@[simp] theorem modDict_drv : (modDict f s).drv = s.drv := rfl
@[simp] theorem modDict_cache : (modDict f s).cache = s.cache := rfl
@[simp] theorem modDict_mc : (modDict f s).mc = s.mc := rfl
@[simp] theorem modDict_dump : (modDict f s).dump = s.dump := rfl
@[simp] theorem modDict_vault : (modDict f s).vault = s.vault := rfl
@[simp] theorem modDict_tally : (modDict f s).tally = s.tally := rfl
@[simp] theorem modDict_lock : (modDict f s).lock = s.lock := rfl
@[simp] theorem modDict_sess : (modDict f s).sess = s.sess := rfl
@[simp] theorem modDict_paths : (modDict f s).paths = s.paths := rfl
@[simp] theorem modDict_dict : (modDict f s).dict = f s.dict := rfl
@[simp] theorem modDict_test : (modDict f s).test = s.test := rfl
end

section
variable (f : Sessions → Sessions) (s : State)
@[simp] theorem modSess_pending : (modSess f s).pending = s.pending := rfl
@[simp] theorem modSess_free : (modSess f s).free = s.free := rfl
@[simp] theorem modSess_pw : (modSess f s).pw = s.pw := rfl
@[simp] theorem modSess_clk : (modSess f s).clk = s.clk := rfl
@[simp] theorem modSess_side : (modSess f s).side = s.side := rfl
@[simp] theorem modSess_ports : (modSess f s).ports = s.ports := rfl
@[simp] theorem modSess_rings : (modSess f s).rings = s.rings := rfl
@[simp] theorem modSess_ce : (modSess f s).ce = s.ce := rfl
@[simp] theorem modSess_led : (modSess f s).led = s.led := rfl
@[simp] theorem modSess_tabs : (modSess f s).tabs = s.tabs := rfl
@[simp] theorem modSess_etu : (modSess f s).etu = s.etu := rfl
@[simp] theorem modSess_jr : (modSess f s).jr = s.jr := rfl
@[simp] theorem modSess_dur : (modSess f s).dur = s.dur := rfl
@[simp] theorem modSess_qm : (modSess f s).qm = s.qm := rfl
@[simp] theorem modSess_cooper : (modSess f s).cooper = s.cooper := rfl
@[simp] theorem modSess_drv : (modSess f s).drv = s.drv := rfl
@[simp] theorem modSess_cache : (modSess f s).cache = s.cache := rfl
@[simp] theorem modSess_mc : (modSess f s).mc = s.mc := rfl
@[simp] theorem modSess_dump : (modSess f s).dump = s.dump := rfl
@[simp] theorem modSess_vault : (modSess f s).vault = s.vault := rfl
@[simp] theorem modSess_tally : (modSess f s).tally = s.tally := rfl
@[simp] theorem modSess_lock : (modSess f s).lock = s.lock := rfl
@[simp] theorem modSess_sess : (modSess f s).sess = f s.sess := rfl
@[simp] theorem modSess_paths : (modSess f s).paths = s.paths := rfl
@[simp] theorem modSess_dict : (modSess f s).dict = s.dict := rfl
@[simp] theorem modSess_test : (modSess f s).test = s.test := rfl
end

section
variable (f : Paths → Paths) (s : State)
@[simp] theorem modPaths_pending : (modPaths f s).pending = s.pending := rfl
@[simp] theorem modPaths_free : (modPaths f s).free = s.free := rfl
@[simp] theorem modPaths_pw : (modPaths f s).pw = s.pw := rfl
@[simp] theorem modPaths_clk : (modPaths f s).clk = s.clk := rfl
@[simp] theorem modPaths_side : (modPaths f s).side = s.side := rfl
@[simp] theorem modPaths_ports : (modPaths f s).ports = s.ports := rfl
@[simp] theorem modPaths_rings : (modPaths f s).rings = s.rings := rfl
@[simp] theorem modPaths_ce : (modPaths f s).ce = s.ce := rfl
@[simp] theorem modPaths_led : (modPaths f s).led = s.led := rfl
@[simp] theorem modPaths_tabs : (modPaths f s).tabs = s.tabs := rfl
@[simp] theorem modPaths_etu : (modPaths f s).etu = s.etu := rfl
@[simp] theorem modPaths_jr : (modPaths f s).jr = s.jr := rfl
@[simp] theorem modPaths_dur : (modPaths f s).dur = s.dur := rfl
@[simp] theorem modPaths_qm : (modPaths f s).qm = s.qm := rfl
@[simp] theorem modPaths_cooper : (modPaths f s).cooper = s.cooper := rfl
@[simp] theorem modPaths_drv : (modPaths f s).drv = s.drv := rfl
@[simp] theorem modPaths_cache : (modPaths f s).cache = s.cache := rfl
@[simp] theorem modPaths_mc : (modPaths f s).mc = s.mc := rfl
@[simp] theorem modPaths_dump : (modPaths f s).dump = s.dump := rfl
@[simp] theorem modPaths_vault : (modPaths f s).vault = s.vault := rfl
@[simp] theorem modPaths_tally : (modPaths f s).tally = s.tally := rfl
@[simp] theorem modPaths_lock : (modPaths f s).lock = s.lock := rfl
@[simp] theorem modPaths_sess : (modPaths f s).sess = s.sess := rfl
@[simp] theorem modPaths_paths : (modPaths f s).paths = f s.paths := rfl
@[simp] theorem modPaths_dict : (modPaths f s).dict = s.dict := rfl
@[simp] theorem modPaths_test : (modPaths f s).test = s.test := rfl
end

section
variable (f : TestUnit → TestUnit) (s : State)
@[simp] theorem modTest_pending : (modTest f s).pending = s.pending := rfl
@[simp] theorem modTest_free : (modTest f s).free = s.free := rfl
@[simp] theorem modTest_pw : (modTest f s).pw = s.pw := rfl
@[simp] theorem modTest_clk : (modTest f s).clk = s.clk := rfl
@[simp] theorem modTest_side : (modTest f s).side = s.side := rfl
@[simp] theorem modTest_ports : (modTest f s).ports = s.ports := rfl
@[simp] theorem modTest_rings : (modTest f s).rings = s.rings := rfl
@[simp] theorem modTest_ce : (modTest f s).ce = s.ce := rfl
@[simp] theorem modTest_led : (modTest f s).led = s.led := rfl
@[simp] theorem modTest_tabs : (modTest f s).tabs = s.tabs := rfl
@[simp] theorem modTest_etu : (modTest f s).etu = s.etu := rfl
@[simp] theorem modTest_jr : (modTest f s).jr = s.jr := rfl
@[simp] theorem modTest_dur : (modTest f s).dur = s.dur := rfl
@[simp] theorem modTest_qm : (modTest f s).qm = s.qm := rfl
@[simp] theorem modTest_cooper : (modTest f s).cooper = s.cooper := rfl
@[simp] theorem modTest_drv : (modTest f s).drv = s.drv := rfl
@[simp] theorem modTest_cache : (modTest f s).cache = s.cache := rfl
@[simp] theorem modTest_mc : (modTest f s).mc = s.mc := rfl
@[simp] theorem modTest_dump : (modTest f s).dump = s.dump := rfl
@[simp] theorem modTest_vault : (modTest f s).vault = s.vault := rfl
@[simp] theorem modTest_tally : (modTest f s).tally = s.tally := rfl
@[simp] theorem modTest_lock : (modTest f s).lock = s.lock := rfl
@[simp] theorem modTest_sess : (modTest f s).sess = s.sess := rfl
@[simp] theorem modTest_paths : (modTest f s).paths = s.paths := rfl
@[simp] theorem modTest_dict : (modTest f s).dict = s.dict := rfl
@[simp] theorem modTest_test : (modTest f s).test = f s.test := rfl
end

end Sys2Proof.Machine
end

