-- ==== Sys2Proof/Laws/Changes.lean ====
section
/-! SUPPORT. Which parts of the state the shared operations can change, one lemma for each; and how a command's answer
(`Gives`, `Ends`) follows from the state that its meaning settles. -/

namespace Sys2Proof.Machine

/-! ### Parts that agree -/

theorem Part.same_refl (s : State) (p : Part) : p.same s s := by cases p <;> exact rfl

theorem Part.same_trans {s t u : State} {p : Part} (h : p.same s t) (k : p.same t u) : p.same s u := by
  cases p <;> exact Eq.trans k h

/-- States that agree apart from events and settling agree in every part. -/
theorem Part.same_of_apart {s t : State} (h : t.apart = s.apart) (p : Part) : p.same s t := by
  unfold State.apart at h
  injection h
  cases p <;> assumption

theorem OnlyChanges.refl {l : List Part} {s : State} : OnlyChanges l s s := fun p _ => p.same_refl s

theorem OnlyChanges.trans {l : List Part} {s t u : State} (h : OnlyChanges l s t) (k : OnlyChanges l t u) :
    OnlyChanges l s u := fun p m => Part.same_trans (h p m) (k p m)

/-- More parts may be listed. -/
theorem OnlyChanges.mono {l m : List Part} {s t : State} (h : OnlyChanges l s t) (k : l ⊆ m) : OnlyChanges m s t :=
  fun p n => h p (fun a => n (k a))

theorem OnlyChanges.of_apart {l : List Part} {s t : State} (h : t.apart = s.apart) : OnlyChanges l s t :=
  fun p _ => Part.same_of_apart h p

/-- What each turn of a loop may change, the loop may change. -/
theorem OnlyChanges.foldl {α : Type} {l : List Part} {f : State → α → State} {as : List α} {s : State}
    (h : ∀ s a, OnlyChanges l s (f s a)) : OnlyChanges l s (as.foldl f s) := by
  induction as generalizing s with
  | nil => exact .refl
  | cons a as ih => exact (h s a).trans ih

/-- An event changes no part: what it changes is left out of every one. -/
theorem onlyChanges_event {l : List Part} {code sev subject : Nat} {d : Bytes} {s : State} :
    OnlyChanges l s (event code sev subject d s) := .of_apart (event_apart code sev subject d s)

/-- Settling changes no part. -/
theorem onlyChanges_settle {l : List Part} {s : State} : OnlyChanges l s (settle s) := .of_apart (settle_apart s)

/-! ### From a meaning to a command's answer -/

/-- A command whose meaning settles `u` gives `u`. -/
theorem gives_of_finish {c : Instr} {s u : State} (h : exec c s = finish u) : Gives c s u :=
  ⟨settle u, h, settle_apart u⟩

/-- A command gives `v` when its meaning settles a `u` that differs from `v` in recorded events alone. -/
theorem gives_of_finish_apart {c : Instr} {s u v : State} (h : exec c s = finish u) (k : u.apart = v.apart) :
    Gives c s v := ⟨settle u, h, (settle_apart u).trans k⟩

/-- A command whose meaning settles `u` ends with what holds of the settled `u`, and changes the parts that led to it. -/
theorem ends_of_finish {c : Instr} {s u : State} {l : List Part} {Q : State → Prop} (h : exec c s = finish u)
    (o : OnlyChanges l s u) (q : Q (settle u)) : Ends c s l Q :=
  ⟨settle u, h, q, o.trans onlyChanges_settle⟩

/-! ### The named updates -/


theorem onlyChanges_modPw {f : Power → Power} {s : State} : OnlyChanges [.pw] s (modPw f s) := by
  intro q h; cases q <;> first | exact rfl | exact absurd (by simp) h
theorem onlyChanges_modSide {f : Sideband → Sideband} {s : State} : OnlyChanges [.side] s (modSide f s) := by
  intro q h; cases q <;> first | exact rfl | exact absurd (by simp) h
theorem onlyChanges_modDump {f : DumpState → DumpState} {s : State} : OnlyChanges [.dump] s (modDump f s) := by
  intro q h; cases q <;> first | exact rfl | exact absurd (by simp) h
theorem onlyChanges_modPort {p : PortId} {f : Port → Port} {s : State} : OnlyChanges [.ports] s (modPort p f s) := by
  intro q h; cases q <;> first | exact rfl | exact absurd (by simp) h
theorem onlyChanges_modMailbox {p : PortId} {f : Mailbox → Mailbox} {s : State} :
    OnlyChanges [.ports] s (modMailbox p f s) := by
  intro q h; cases q <;> first | exact rfl | exact absurd (by simp) h
theorem onlyChanges_modRing {p : PortId} {r : Nat} {f : Ring → Ring} {s : State} :
    OnlyChanges [.rings] s (modRing p r f s) := by
  intro q h; cases q <;> first | exact rfl | exact absurd (by simp) h
theorem onlyChanges_modCe {f : CmdEngine → CmdEngine} {s : State} : OnlyChanges [.ce] s (modCe f s) := by
  intro q h; cases q <;> first | exact rfl | exact absurd (by simp) h
theorem onlyChanges_modCmd {p : PortId} {tag : Nat} {f : Cmd → Cmd} {s : State} :
    OnlyChanges [.ce] s (modCmd p tag f s) := by
  intro q h; cases q <;> first | exact rfl | exact absurd (by simp) h
theorem onlyChanges_modLed {f : Ledger → Ledger} {s : State} : OnlyChanges [] s (modLed f s) := by
  intro q h; cases q <;> exact rfl
theorem onlyChanges_modTabs {f : Tables → Tables} {s : State} : OnlyChanges [.tabs] s (modTabs f s) := by
  intro q h; cases q <;> first | exact rfl | exact absurd (by simp) h
theorem onlyChanges_modVol {v : Nat} {f : Volume → Volume} {s : State} : OnlyChanges [.tabs] s (modVol v f s) := by
  intro q h; cases q <;> first | exact rfl | exact absurd (by simp) h
theorem onlyChanges_modGroup {g : Nat} {f : Group → Group} {s : State} : OnlyChanges [.tabs] s (modGroup g f s) := by
  intro q h; cases q <;> first | exact rfl | exact absurd (by simp) h
theorem onlyChanges_modChunk {c : Nat} {f : Chunk → Chunk} {s : State} : OnlyChanges [.tabs] s (modChunk c f s) := by
  intro q h; cases q <;> first | exact rfl | exact absurd (by simp) h
theorem onlyChanges_modLog {ix : Nat} {f : LogExtent → LogExtent} {s : State} :
    OnlyChanges [.tabs] s (modLog ix f s) := by
  intro q h; cases q <;> first | exact rfl | exact absurd (by simp) h
theorem onlyChanges_modExt {v x : Nat} {f : Extent → Extent} {s : State} :
    OnlyChanges [.tabs] s (modExt v x f s) := by
  rw [modExt_tables]; intro q h; cases q <;> first | exact rfl | exact absurd (by simp) h
theorem onlyChanges_modEtu {f : Etu → Etu} {s : State} : OnlyChanges [.etu] s (modEtu f s) := by
  intro q h; cases q <;> first | exact rfl | exact absurd (by simp) h
theorem onlyChanges_modDur {f : Durability → Durability} {s : State} : OnlyChanges [.dur] s (modDur f s) := by
  intro q h; cases q <;> first | exact rfl | exact absurd (by simp) h
theorem onlyChanges_modQm {f : Quarry → Quarry} {s : State} : OnlyChanges [.qm] s (modQm f s) := by
  intro q h; cases q <;> first | exact rfl | exact absurd (by simp) h
theorem onlyChanges_modRes {n : Nat} {f : Residency → Residency} {s : State} :
    OnlyChanges [.qm] s (modRes n f s) := by
  intro q h; cases q <;> first | exact rfl | exact absurd (by simp) h
theorem onlyChanges_modDispatcher {d : Nat} {f : Dispatcher → Dispatcher} {s : State} :
    OnlyChanges [.qm] s (modDispatcher d f s) := by
  intro q h; cases q <;> first | exact rfl | exact absurd (by simp) h
theorem onlyChanges_modCooper {f : Cooper → Cooper} {s : State} : OnlyChanges [.cooper] s (modCooper f s) := by
  intro q h; cases q <;> first | exact rfl | exact absurd (by simp) h
theorem onlyChanges_modDrive {d : Nat} {f : Drive → Drive} {s : State} : OnlyChanges [.drv] s (modDrive d f s) := by
  intro q h; cases q <;> first | exact rfl | exact absurd (by simp) h
theorem onlyChanges_modCache {f : Cache → Cache} {s : State} : OnlyChanges [.cache] s (modCache f s) := by
  intro q h; cases q <;> first | exact rfl | exact absurd (by simp) h
theorem onlyChanges_modSlot {i : Nat} {f : Slot → Slot} {s : State} : OnlyChanges [.cache] s (modSlot i f s) := by
  intro q h; cases q <;> first | exact rfl | exact absurd (by simp) h
theorem onlyChanges_modMc {f : MapCache → MapCache} {s : State} : OnlyChanges [.mc] s (modMc f s) := by
  intro q h; cases q <;> first | exact rfl | exact absurd (by simp) h
theorem onlyChanges_modVault {f : Vault → Vault} {s : State} : OnlyChanges [.vault] s (modVault f s) := by
  intro q h; cases q <;> first | exact rfl | exact absurd (by simp) h
theorem onlyChanges_modHealth {f : VaultHealth → VaultHealth} {s : State} :
    OnlyChanges [.vault] s (modHealth f s) := by
  intro q h; cases q <;> first | exact rfl | exact absurd (by simp) h
theorem onlyChanges_modSet {i : Nat} {f : VSet → VSet} {s : State} : OnlyChanges [.vault] s (modSet i f s) := by
  intro q h; cases q <;> first | exact rfl | exact absurd (by simp) h
theorem onlyChanges_modTally {f : Tallyman → Tallyman} {s : State} : OnlyChanges [.tally] s (modTally f s) := by
  intro q h; cases q <;> first | exact rfl | exact absurd (by simp) h
theorem onlyChanges_modPack {f : BatPack → BatPack} {s : State} : OnlyChanges [.tally] s (modPack f s) := by
  intro q h; cases q <;> first | exact rfl | exact absurd (by simp) h
theorem onlyChanges_modCharger {f : Charger → Charger} {s : State} : OnlyChanges [.tally] s (modCharger f s) := by
  intro q h; cases q <;> first | exact rfl | exact absurd (by simp) h
theorem onlyChanges_modGauge {f : Gauge → Gauge} {s : State} : OnlyChanges [.tally] s (modGauge f s) := by
  intro q h; cases q <;> first | exact rfl | exact absurd (by simp) h
theorem onlyChanges_modLearn {f : Learn → Learn} {s : State} : OnlyChanges [.tally] s (modLearn f s) := by
  intro q h; cases q <;> first | exact rfl | exact absurd (by simp) h
theorem onlyChanges_modLock {f : Locksmith → Locksmith} {s : State} : OnlyChanges [.lock] s (modLock f s) := by
  intro q h; cases q <;> first | exact rfl | exact absurd (by simp) h
theorem onlyChanges_modDict {f : Dict → Dict} {s : State} : OnlyChanges [.dict] s (modDict f s) := by
  intro q h; cases q <;> first | exact rfl | exact absurd (by simp) h
theorem onlyChanges_modSess {f : Sessions → Sessions} {s : State} : OnlyChanges [.sess] s (modSess f s) := by
  intro q h; cases q <;> first | exact rfl | exact absurd (by simp) h
theorem onlyChanges_modPaths {f : Paths → Paths} {s : State} : OnlyChanges [.paths] s (modPaths f s) := by
  intro q h; cases q <;> first | exact rfl | exact absurd (by simp) h
theorem onlyChanges_modTest {f : TestUnit → TestUnit} {s : State} : OnlyChanges [.test] s (modTest f s) := by
  intro q h; cases q <;> first | exact rfl | exact absurd (by simp) h

/-! ### Ports, rings and commands -/

section
variable {p : PortId} {r tag : Nat} {s : State}

/-- Sending a TLP changes its port (R89 to R93). -/
theorem onlyChanges_sendTlp {t : Tlp} : OnlyChanges [.ports] s (sendTlp p t s) := onlyChanges_modPort

/-- A message goes out, waits for its mask, or is none (R90): its port changes. -/
theorem onlyChanges_sendMsg {v : Nat} : OnlyChanges [.ports] s (sendMsg p v s) := by
  unfold sendMsg
  simp only
  split
  · split
    · exact onlyChanges_sendTlp
    · split
      · exact .refl
      · exact onlyChanges_modPort
  · split
    · exact onlyChanges_modPort
    · exact onlyChanges_sendTlp
  · exact .refl

theorem onlyChanges_sendHeld : OnlyChanges [.ports] s (sendHeld p s) := by
  unfold sendHeld
  simp only
  split
  · split
    · exact onlyChanges_modPort
    · exact onlyChanges_modPort
    · exact .refl
  · exact .refl

/-- INTA is the port's (R91). -/
theorem onlyChanges_intaSync : OnlyChanges [.ports] s (intaSync p s) := by
  unfold intaSync
  simp only
  split
  · exact .refl
  · exact onlyChanges_modPort.trans onlyChanges_sendTlp

/-- INT_PENDING and INTA are the port's (R91). -/
theorem onlyChanges_putPending {v : BitVec 256} : OnlyChanges [.ports] s (putPending p v s) :=
  onlyChanges_modPort.trans onlyChanges_intaSync

theorem onlyChanges_setPending : OnlyChanges [.ports] s (setPending p r s) := onlyChanges_putPending

/-- An interrupt request changes its port and its ring's gathering (R115, R116). -/
theorem onlyChanges_requestIrq : OnlyChanges [.ports, .rings] s (requestIrq p r s) := by
  unfold requestIrq
  simp only
  have a : OnlyChanges [.ports, .rings] s (setPending p r s) := onlyChanges_setPending.mono (by decide)
  split
  · exact (a.trans (onlyChanges_modRing.mono (by decide))).trans
      (onlyChanges_sendMsg.mono (by decide))
  · exact a.trans (onlyChanges_modRing.mono (by decide))

/-- A completion record changes its port and its ring (R126, R127). -/
theorem onlyChanges_writeRecord {e : OutEntry} {res : CplRes} :
    OnlyChanges [.ports, .rings] s (writeRecord p r e res s) := by
  have a : OnlyChanges [.ports, .rings] s (putRecord p r e res s) := by
    unfold putRecord
    exact ((onlyChanges_sendTlp.trans onlyChanges_sendTlp).mono (by decide)).trans
      (onlyChanges_modRing.mono (by decide))
  unfold writeRecord
  simp only
  split
  · exact a.trans onlyChanges_requestIrq
  · exact a

/-- A command that is dropped gives back what it reserved (R165). -/
theorem onlyChanges_dropCmd {c : Cmd} : OnlyChanges [.ce, .qm] s (dropCmd c s) :=
  (onlyChanges_modCe.mono (by decide)).trans (onlyChanges_modQm.mono (by decide))

theorem onlyChanges_dropLock : OnlyChanges [.ce] s (dropLock p tag s) := onlyChanges_modCe

theorem onlyChanges_dropReqsOf : OnlyChanges [.ports] s (dropReqsOf p tag s) := onlyChanges_modPort

theorem onlyChanges_dropReadsOf : OnlyChanges [.cooper] s (dropReadsOf p tag s) := by
  intro q h; cases q <;> first | exact rfl | exact absurd (by simp) h

/-- What ending or cancelling a command takes out of work. -/
theorem onlyChanges_outOfWork {c : Cmd} :
    OnlyChanges [.ports, .ce, .qm, .cooper] s (dropLock p tag (dropReadsOf p tag (dropReqsOf p tag (dropCmd c s)))) :=
  (((onlyChanges_dropCmd.mono (by decide)).trans (onlyChanges_dropReqsOf.mono (by decide))).trans
    (onlyChanges_dropReadsOf.mono (by decide))).trans (onlyChanges_dropLock.mono (by decide))

/-- A command that ends changes its port, its ring and what it held (R127, R162, R170). -/
theorem onlyChanges_endCmd {write : Bool} {res : CplRes} :
    OnlyChanges [.ports, .rings, .ce, .qm, .cooper] s (endCmd write p tag res s) := by
  unfold endCmd
  split
  · exact .refl
  · rename_i c _
    have a := (onlyChanges_outOfWork (p := p) (tag := tag) (s := s) (c := c)).mono
      (m := [.ports, .rings, .ce, .qm, .cooper]) (by decide)
    simp only
    split
    · exact a
    · split
      · exact (a.trans (onlyChanges_modPort.mono (by decide))).trans
          (onlyChanges_writeRecord.mono (by decide))
      · exact a.trans (onlyChanges_modRing.mono (by decide))

theorem onlyChanges_completeCmd {res : CplRes} :
    OnlyChanges [.ports, .rings, .ce, .qm, .cooper] s (completeCmd p tag res s) := onlyChanges_endCmd

theorem onlyChanges_failCmd {st : Nat} : OnlyChanges [.ports, .rings, .ce, .qm, .cooper] s (failCmd p tag st s) :=
  onlyChanges_endCmd

/-- A read of host memory takes a tag of its port (R75). -/
theorem onlyChanges_issueRead {k : ReqKind} {addr len : Nat} :
    OnlyChanges [.ports] s (issueRead p tag k addr len s) := onlyChanges_modPort

theorem onlyChanges_issueNext : OnlyChanges [.ports, .rings, .ce] s (issueNext p tag s) := by
  unfold issueNext
  simp only
  split
  · exact (onlyChanges_modRing.mono (by decide)).trans (onlyChanges_issueRead.mono (by decide))
  · split
    · rename_i c _
      split
      · rename_i off addr len rest _
        refine OnlyChanges.trans ?_ (onlyChanges_issueRead.mono (by decide))
        exact (onlyChanges_modCe (f := fun e => { e with cmds := e.cmds.map (fun d =>
          if d.port = p ∧ d.tag = c.tag then { d with todo := rest } else d) })).mono (by decide)
      · exact .refl
    · exact .refl

/-- The reads that a port issues change it, the rings it fetches and the commands it serves (R75). -/
theorem onlyChanges_pump : OnlyChanges [.ports, .rings, .ce] s (pump p s) := by
  unfold pump
  split
  · exact .foldl (fun _ _ => onlyChanges_issueNext)
  · exact .refl

/-- Data for a host buffer leaves through its port (R92, R151). -/
theorem onlyChanges_writeHost {addr : Nat} {b : Bytes} : OnlyChanges [.ports] s (writeHost p addr b s) :=
  .foldl (fun _ _ => onlyChanges_sendTlp)
end

/-! ### Cancelling, holding, containing -/

/-- The copy that a commit supersedes leaves the cache (R363). -/
theorem onlyChanges_supersede {v page : Nat} {s : State} : OnlyChanges [.qm, .cache] s (supersede v page s) := by
  unfold supersede
  split
  · split
    · exact onlyChanges_modSlot.mono (by decide)
    · exact (onlyChanges_modCache.mono (by decide)).trans (onlyChanges_modQm.mono (by decide))
  · exact .refl

/-! ### The vault's store, seals, chunks and maps -/

theorem onlyChanges_setBlock {b : Nat} {m : BlockMap} {s : State} : OnlyChanges [.vault] s (setBlock b m s) :=
  onlyChanges_modVault

theorem onlyChanges_closeSet {i : Nat} {s : State} : OnlyChanges [.vault] s (closeSet i s) := by
  unfold closeSet closeStripes
  exact OnlyChanges.trans onlyChanges_modSet onlyChanges_modVault

theorem onlyChanges_freeSet {i : Nat} {s : State} : OnlyChanges [.vault] s (freeSet i s) := by
  unfold freeSet retireSet
  split
  · exact OnlyChanges.trans onlyChanges_modSet onlyChanges_modVault
  · exact OnlyChanges.trans onlyChanges_modSet onlyChanges_modVault

theorem onlyChanges_dropOldPage {lpn : Nat} {s : State} : OnlyChanges [.vault] s (dropOldPage lpn s) := by
  unfold dropOldPage
  simp only
  split
  · exact (onlyChanges_modSet.trans onlyChanges_modVault).trans onlyChanges_setBlock
  · split
    · exact onlyChanges_modSet.trans onlyChanges_setBlock
    · exact .refl

/-- Trimming changes the vault (R399). -/
theorem onlyChanges_trimPage {lpn : Nat} {s : State} : OnlyChanges [.vault] s (trimPage lpn s) := by
  unfold trimPage
  extract_lets s1 b m s2
  have a : OnlyChanges [.vault] s s1 := onlyChanges_dropOldPage
  split
  · have c : OnlyChanges [.vault] s s2 := a.trans onlyChanges_setBlock
    split
    · exact c.trans onlyChanges_freeSet
    · exact c
  · exact a

theorem onlyChanges_openStripe {tlc : Bool} {n : Nat} {s : State} : OnlyChanges [.vault] s (openStripe tlc n s) := by
  unfold openStripe
  exact (OnlyChanges.trans (.foldl (fun _ _ => onlyChanges_modSet)) onlyChanges_modSet).trans onlyChanges_modVault

theorem onlyChanges_takeDataSet {tlc : Bool} {s t : State} {i : Nat} (h : takeDataSet tlc s = some (i, t)) :
    OnlyChanges [.vault] s t := by
  unfold takeDataSet at h
  split at h
  · cases h; exact .refl
  · split at h
    · simp only [Option.map_eq_some_iff] at h
      obtain ⟨_, _, e⟩ := h
      cases e
      exact onlyChanges_openStripe
    · cases h

theorem onlyChanges_needLogBlock {s t : State} {i : Nat} (h : needLogBlock s = some (i, t)) :
    OnlyChanges [.vault] s t := by
  unfold needLogBlock at h
  split at h
  · cases h; exact .refl
  · split at h
    · split at h
      · rename_i e
        cases h
        exact (onlyChanges_takeDataSet e).trans onlyChanges_modVault
      · cases h
    · cases h

theorem onlyChanges_writeLogPage {lpn i : Nat} {s : State} : OnlyChanges [.vault] s (writeLogPage lpn i s) := by
  unfold writeLogPage
  extract_lets r b s1 m s2 s3 s4
  have a1 : OnlyChanges [.vault] s s1 := onlyChanges_dropOldPage
  have a2 : OnlyChanges [.vault] s1 s2 := onlyChanges_setBlock
  have a3 : OnlyChanges [.vault] s2 s3 := onlyChanges_modSet
  have a4 : OnlyChanges [.vault] s3 s4 := onlyChanges_modVault
  have a : OnlyChanges [.vault] s s4 := ((a1.trans a2).trans a3).trans a4
  split
  · exact a.trans onlyChanges_closeSet
  · exact a

theorem onlyChanges_vaultCheck {s : State} : OnlyChanges [.vault] s (vaultCheck s) := by
  unfold vaultCheck
  simp only
  split
  · exact onlyChanges_modVault
  · exact .refl

/-- A store write changes the vault (R399). -/
theorem onlyChanges_storeWrite {lpn : Nat} {s : State} : OnlyChanges [.vault] s (storeWrite lpn s) := by
  unfold storeWrite
  split
  · exact .refl
  · split
    · rename_i e
      exact ((onlyChanges_needLogBlock e).trans onlyChanges_writeLogPage).trans onlyChanges_vaultCheck
    · split
      · exact .refl
      · exact onlyChanges_modVault

/-- A job in the lanes changes Locksmith (R466). -/
theorem onlyChanges_lanePass {n : Nat} {s : State} : OnlyChanges [.lock] s (lanePass n s) := by
  unfold lanePass
  split
  · exact .refl
  · exact onlyChanges_modLock

/-- GCM invocations change Locksmith (R457, R458). -/
theorem onlyChanges_gcmUse {f : GcmFam} {n bytes : Nat} {s : State} : OnlyChanges [.lock] s (gcmUse f n bytes s) := by
  unfold gcmUse
  simp only
  split
  · exact onlyChanges_lanePass.trans onlyChanges_modLock
  · exact onlyChanges_lanePass.trans onlyChanges_modLock

/-- A map record changes the journal (R219, R220). -/
theorem onlyChanges_journal {b : JBody} {s : State} : OnlyChanges [.jr] s (journal b s) := by
  intro q h; cases q <;> first | exact rfl | exact absurd (by simp) h

theorem onlyChanges_dropSpan {d : Nat} {s : State} : OnlyChanges [.tabs] s (dropSpan d s) := by
  unfold dropSpan
  split
  · split
    · exact onlyChanges_modTabs
    · exact .refl
  · exact .refl

/-- A chunk that is released changes the tables (R210, R258). -/
theorem onlyChanges_releaseChunk {c : Nat} {s : State} : OnlyChanges [.tabs] s (releaseChunk c s) := by
  unfold releaseChunk
  simp only
  split
  · split
    · exact onlyChanges_modChunk.trans onlyChanges_dropSpan
    · exact onlyChanges_modChunk
  · exact .refl

theorem onlyChanges_abandonRebuilds {g : Nat} {s : State} : OnlyChanges [.tabs, .cooper] s (abandonRebuilds g s) := by
  unfold abandonRebuilds
  extract_lets mine s1
  have a : OnlyChanges [.tabs, .cooper] s s1 := .foldl (fun _ _ => onlyChanges_releaseChunk.mono (by decide))
  refine a.trans ?_
  intro q h; cases q <;> first | exact rfl | exact absurd (by simp) h

/-- A group that becomes spoil (R210). -/
theorem onlyChanges_spoilGroup {g : Nat} {s : State} : OnlyChanges [.tabs, .qm, .cooper] s (spoilGroup g s) := by
  unfold spoilGroup
  split
  · refine OnlyChanges.trans ?_ (onlyChanges_abandonRebuilds.mono (by decide))
    refine OnlyChanges.trans ?_ (onlyChanges_modQm.mono (by decide))
    refine OnlyChanges.trans ?_ (onlyChanges_modTabs.mono (by decide))
    exact OnlyChanges.trans (.foldl (fun _ _ => onlyChanges_releaseChunk.mono (by decide)))
      (onlyChanges_modGroup.mono (by decide))
  · exact .refl

/-- Log extents that are freed (R207). -/
theorem onlyChanges_freeLogs {s : State} : OnlyChanges [.tabs, .jr, .qm, .cooper] s (freeLogs s) := by
  unfold freeLogs
  exact .foldl (fun _ _ => ((onlyChanges_journal.mono (by decide)).trans (onlyChanges_modTabs.mono (by decide))).trans
    (onlyChanges_spoilGroup.mono (by decide)))

theorem onlyChanges_pinSync {s : State} : OnlyChanges [.qm] s (pinSync s) := onlyChanges_modQm

theorem onlyChanges_writeMap {n : Nat} {s : State} : OnlyChanges [.qm, .vault, .lock] s (writeMap n s) :=
  ((onlyChanges_storeWrite.mono (by decide)).trans (onlyChanges_gcmUse.mono (by decide))).trans
    (onlyChanges_modRes.mono (by decide))

/-- A pool slot taken from another map page (R275). -/
theorem onlyChanges_takePool {s t : State} {n : Nat} (h : takePool s = some (n, t)) :
    OnlyChanges [.qm, .vault, .lock] s t := by
  unfold takePool at h
  simp only at h
  split at h
  · split at h
    · cases h; exact .refl
    · split at h
      · split at h
        · cases h
        · simp only [Option.some.injEq, Prod.mk.injEq] at h
          rw [← h.2]
          refine OnlyChanges.trans ?_ (onlyChanges_modQm.mono (by decide))
          refine OnlyChanges.trans ?_ (onlyChanges_modRes.mono (by decide))
          refine OnlyChanges.trans ?_ (.foldl (fun _ _ => onlyChanges_modRes.mono (by decide)))
          split
          · exact onlyChanges_writeMap
          · exact .refl
      · cases h
  · cases h

/-- What creating maps, their entries and their pages may change. -/
abbrev mapParts : List Part := [.tabs, .qm, .vault, .lock]

theorem onlyChanges_needDir {v x : Nat} {s t : State} {d : Nat} (h : needDir v x s = some (d, t)) :
    OnlyChanges [.tabs] s t := by
  unfold needDir at h
  split at h
  · cases h; exact .refl
  · split at h
    · cases h
    · cases h
      exact onlyChanges_modTabs.trans onlyChanges_modExt
  · cases h

theorem onlyChanges_newMapPage {d i : Nat} {s t : State} {n : Nat} (h : newMapPage d i s = some (n, t)) :
    OnlyChanges mapParts s t := by
  unfold newMapPage at h
  split at h
  · rename_i e
    split at h
    · cases h
    · cases h
      exact (((onlyChanges_takePool e).mono (by decide)).trans (onlyChanges_modTabs.mono (by decide))).trans
        (onlyChanges_modRes.mono (by decide))
  · cases h

theorem onlyChanges_needMapPage {v x p : Nat} {s t : State} {n : Nat} (h : needMapPage v x p s = some (n, t)) :
    OnlyChanges mapParts s t := by
  unfold needMapPage at h
  rw [Option.bind_eq_some_iff] at h
  obtain ⟨e, he, h⟩ := h
  have a : OnlyChanges mapParts s e.2 := (onlyChanges_needDir (d := e.1) he).mono (by decide)
  split at h
  · cases h; exact a
  · exact a.trans (onlyChanges_newMapPage h)

theorem onlyChanges_modMap {n seq : Nat} {f : Tab PmEntry → Tab PmEntry} {s : State} :
    OnlyChanges mapParts s (modMap n seq f s) :=
  (onlyChanges_modTabs.mono (by decide)).trans (onlyChanges_modRes.mono (by decide))

/-- A page-map entry that takes a value (R204). -/
theorem onlyChanges_putPm {v x p seq : Nat} {e : PmEntry} {s : State} :
    OnlyChanges mapParts s (putPm v x p seq e s) := by
  unfold putPm
  simp only
  split
  · exact .refl
  · rename_i k
    exact ((onlyChanges_needMapPage k).trans (onlyChanges_modExt.mono (by decide))).trans onlyChanges_modMap

/-- An extent that releases its maps (R207). -/
theorem onlyChanges_releaseMaps {v x : Nat} {s : State} : OnlyChanges mapParts s (releaseMaps v x s) := by
  unfold releaseMaps
  split
  · exact .refl
  · refine OnlyChanges.trans ?_ (onlyChanges_modExt.mono (by decide))
    exact ((onlyChanges_modTabs.mono (by decide)).trans (onlyChanges_modQm.mono (by decide))).trans
      (.foldl (fun _ _ => onlyChanges_trimPage.mono (by decide)))

theorem onlyChanges_dropPm {v x p seq : Nat} {s : State} : OnlyChanges mapParts s (dropPm v x p seq s) := by
  unfold dropPm
  split
  · unfold releaseIdle
    split
    · exact ((onlyChanges_modExt.mono (by decide)).trans onlyChanges_modMap).trans onlyChanges_releaseMaps
    · exact (onlyChanges_modExt.mono (by decide)).trans onlyChanges_modMap
  · exact .refl

/-! ### Cancelled writes -/

/-- What giving up a write's slots may change. -/
abbrev giveUpParts : List Part := [.tabs, .etu, .jr, .dur, .qm, .cooper, .cache, .vault, .lock]

theorem onlyChanges_revertPm {v x p : Nat} {old : Option PmEntry} {s : State} :
    OnlyChanges giveUpParts s (revertPm v x p old s) := by
  unfold revertPm
  split
  · exact .refl
  · simp only
    split
    · exact .refl
    · have a : ∀ (e : PmEntry) (b : JBody), OnlyChanges giveUpParts s (journal b (killLogPage e s)) := fun _ _ =>
        (onlyChanges_modLog.mono (by decide)).trans (onlyChanges_journal.mono (by decide))
      split
      · exact (a _ _).trans (onlyChanges_putPm.mono (by decide))
      · exact (a _ _).trans (onlyChanges_dropPm.mono (by decide))

theorem onlyChanges_expose {vol : Volume} {pages : List Nat} {s : State} : OnlyChanges [.dur] s (expose vol pages s) := by
  intro q h; cases q <;> first | exact rfl | exact absurd (by simp) h

theorem onlyChanges_overlayOld {wc : Nat} {x : Slot} {s : State} :
    OnlyChanges giveUpParts s (overlayOld wc x s) := by
  unfold overlayOld
  extract_lets old t
  have a : OnlyChanges giveUpParts s t := by
    simp only [t]
    split
    · split
      · exact onlyChanges_supersede.mono (by decide)
      · exact .refl
    · exact .refl
  clear_value old t
  have b : ∀ (wc i : Nat) (g : Slot → Slot) (u : State), OnlyChanges giveUpParts u (freeSlot wc (modSlot i g u)) :=
    fun _ _ _ _ => (onlyChanges_modSlot.trans onlyChanges_modCache).mono (by decide)
  refine OnlyChanges.trans a ?_
  split
  · exact b _ _ _ _
  · refine OnlyChanges.trans ?_ (onlyChanges_modSlot.mono (by decide))
    rename_i u _ _; simp only [u]
    split
    · exact onlyChanges_expose.mono (by decide)
    · exact .refl

/-- A slot that a cancelled write gives up (R101). -/
theorem onlyChanges_cancelSlot {e : Nat × Slot} {s : State} : OnlyChanges giveUpParts s (cancelSlot e s) := by
  unfold cancelSlot
  simp only
  have a : OnlyChanges giveUpParts s (leaveFlight e.1 (match e.2.undo, getVol s e.2.volume with
      | some old, some vol => revertPm e.2.volume (e.2.page / max 1 vol.extentPages) (e.2.page % max 1 vol.extentPages) old
          (modSlot e.1 (fun z => { z with undo := none }) s)
      | _, _ => s)) := by
    refine OnlyChanges.trans ?_ (onlyChanges_modEtu.mono (by decide))
    split
    · exact (onlyChanges_modSlot.mono (by decide)).trans onlyChanges_revertPm
    · exact .refl
  split
  · exact a.trans onlyChanges_overlayOld
  · exact (a.trans (onlyChanges_modCache.mono (by decide))).trans (onlyChanges_modQm.mono (by decide))

/-- A cancelled write gives up its slots, the benches they ride in and the space they hold (R101). -/
theorem onlyChanges_cancelSlots {p : PortId} {tag : Nat} {s : State} :
    OnlyChanges giveUpParts s (cancelSlots p tag s) := by
  unfold cancelSlots
  exact (OnlyChanges.trans (.foldl (fun _ _ => onlyChanges_cancelSlot)) (onlyChanges_freeLogs.mono (by decide))).trans
    (onlyChanges_pinSync.mono (by decide))

theorem onlyChanges_cancelCmd {c : Cmd} {s : State} : OnlyChanges cancelParts s (cancelCmd c s) :=
  (onlyChanges_cancelSlots.mono (by decide)).trans (onlyChanges_outOfWork.mono (by decide))

/-- A hold cancels commands and changes the port's rings beside (R101 to R103). -/
theorem onlyChanges_hold {p : PortId} {keep : Bool} {s : State} :
    OnlyChanges (.rings :: cancelParts) s (hold p keep s) := by
  unfold hold
  simp only
  have a : OnlyChanges (.rings :: cancelParts) s
      ((s.ce.cmds.filter (fun c => c.port == p)).foldl (fun s c => cancelCmd c s) s) :=
    .foldl (fun _ _ => onlyChanges_cancelCmd.mono (by decide))
  split
  · exact (a.trans (onlyChanges_modPort.mono (by decide))).trans
      (.foldl (fun _ _ => onlyChanges_modRing.mono (by decide)))
  · have k : ∀ (u : State) (g : Tab Ring), OnlyChanges (.rings :: cancelParts) s u →
        OnlyChanges (.rings :: cancelParts) s { u with rings := g } := fun u g h =>
      h.trans (by intro q h; cases q <;> first | exact rfl | exact absurd (by simp) h)
    exact k _ _ (a.trans (onlyChanges_modPort.mono (by decide)))

/-- Containment holds the port and records the event (R106 to R108). -/
theorem onlyChanges_contain {p : PortId} {b : Nat} {keep : Bool} {s : State} :
    OnlyChanges (.rings :: cancelParts) s (contain p b keep s) := by
  unfold contain
  have a : OnlyChanges (.rings :: cancelParts) s (addCause p b s) := onlyChanges_modPort.mono (by decide)
  simp only
  split
  · split
    · exact a
    · exact a.trans onlyChanges_hold
  · exact ((a.trans onlyChanges_hold).trans (onlyChanges_modPort.mono (by decide))).trans
      onlyChanges_event

/-! ### Power -/

/-- The power state changes in the power part alone (R58). -/
theorem onlyChanges_setPower {st : PState} {s : State} : OnlyChanges [.pw] s (setPower st s) := by
  unfold setPower
  split
  · exact .refl
  · exact OnlyChanges.trans (t := modPw (fun p => { p with state := st }) s) onlyChanges_modPw
      onlyChanges_event

theorem onlyChanges_drawNat {s : State} : OnlyChanges [.free] s (drawNat s).2 := by
  intro q h; cases q <;> first | exact rfl | exact absurd (by simp) h

/-- An abort draws what the test had measured and ends it (R542). -/
theorem onlyChanges_abortTest {cause : Nat} {s : State} : OnlyChanges [.free, .test] s (abortTest cause s) := by
  unfold abortTest
  split
  · exact .refl
  · have d : ∀ s : State, OnlyChanges [.free, .test] s (drawNat s).2 := fun s =>
      onlyChanges_drawNat.mono (by decide)
    exact (((((d s).trans (d _)).trans (d _)).trans (d _)).trans (onlyChanges_modTest.mono (by decide))).trans
      onlyChanges_event

theorem onlyChanges_endMaint {s : State} : OnlyChanges [.paths, .test] s (endMaint s) := by
  intro q h; cases q <;> first | exact rfl | exact absurd (by simp) h

/-- Stopping every port cancels every command (R58). -/
theorem onlyChanges_stopPorts {s : State} : OnlyChanges cancelParts s (stopPorts s) :=
  OnlyChanges.trans (.foldl (fun _ _ => onlyChanges_cancelCmd))
    (.foldl (fun _ _ => onlyChanges_modPort.mono (by decide)))

/-- Entering DUMP changes the parts listed with `dumpParts` (R58). -/
theorem onlyChanges_enterDump {c : DumpCause} {s : State} : OnlyChanges dumpParts s (enterDump c s) := by
  unfold enterDump
  split
  · exact .refl
  · refine OnlyChanges.trans ?_ (onlyChanges_setPower.mono (by decide))
    refine OnlyChanges.trans ?_ (onlyChanges_modDump.mono (by decide))
    refine OnlyChanges.trans ?_ (onlyChanges_modSide.mono (by decide))
    refine OnlyChanges.trans ?_ (onlyChanges_modPw.mono (by decide))
    refine OnlyChanges.trans ?_ (onlyChanges_stopPorts.mono (by decide))
    exact (onlyChanges_abortTest.mono (by decide)).trans (onlyChanges_endMaint.mono (by decide))

/-! ### The dictionary -/

/-- With a session that carries it, a WRITE runs as that session's and its outcome is recorded (R480, R493). -/
theorem writeWith_of_session {ch : Channel} {s : State} {x : Session} (kat : Option KatVerdict)
    (lk : Option (List Nat × Bool)) (index sub : Nat) (b : Bytes) (h : dictRuns s = true)
    (hx : chanSession s ch = some x) : writeWith kat lk ch index sub b s =
      answered (dictPut kat lk ch (some x) index sub b s).1 none (dictPut kat lk ch (some x) index sub b s).2 := by
  unfold writeWith withCarrier
  rw [if_pos h]
  cases ch with
  | anonymous p => simp [chanSession] at hx
  | rxmp n => simp [carrier, hx]
  | mailbox p => simp [carrier, hx]

/-- A WRITE that fails a check changes nothing but the outcome recorded (R481). -/
theorem dictPut_refused {ch : Channel} {s : State} {who : Option Session} (kat : Option KatVerdict)
    (lk : Option (List Nat × Bool)) (index sub : Nat) (b : Bytes) (r : ObjRow) (st : Nat)
    (h1 : barred who 2 index sub = false) (h2 : defRow index sub = some r)
    (h3 : firstCheck true r who index s = some st) : dictPut kat lk ch who index sub b s = (st, s) := by
  unfold dictPut
  simp [h1, h2, h3]

end Sys2Proof.Machine
end

