-- ==== Sys2Proof/Laws/Gf.lean ====
section
/-! SUPPORT. Facts about Cooper's arithmetic that spare evaluating whole setts: the passes and comparisons of a mirror. -/

namespace Sys2Proof.Machine

/-- Multiplication by one leaves a byte (R291). -/
theorem gfMul_one (x : Nat) (h : x < 256) : gfMul 1 x = x := by
  revert x; decide +kernel

/-- Under the row [1] an output's byte is the input's. -/
theorem gfByte_mirror (d : Bytes) (t : Nat) : gfByte [1] [d] t = d.getD t 0 := by
  have h := gfMul_one (d.getD t 0).toNat (d.getD t 0).isLt
  simp only [gfByte, gfDot, List.map_cons, List.map_nil, List.zipWith_cons_cons, List.zipWith_nil_left,
    List.foldl_cons, List.foldl_nil, h, Nat.zero_xor, BitVec.ofNat_toNat, BitVec.setWidth_eq]

/-- A string of `n` bytes, byte by byte. -/
theorem fit_eq_map (d : Bytes) (n : Nat) : fit n d = (List.range n).map (fun t => d.getD t 0) := by
  refine List.ext_getElem (by
    simp only [fit, slice, zeros, List.length_append, List.length_take, List.length_replicate, List.length_map,
      List.length_range]
    omega) (fun i h1 h2 => ?_)
  simp only [List.length_map, List.length_range] at h2
  have hn : fit n d = d.take n ++ zeros (n - (d.take n).length) := by simp [fit, slice]
  simp only [hn, List.getElem_map, List.getElem_range, List.getD_eq_getElem?_getD]
  by_cases hi : i < d.length
  · rw [List.getElem_append_left (by rw [List.length_take]; omega), List.getElem_take,
      List.getElem?_eq_getElem hi, Option.getD_some]
  · rw [List.getElem_append_right (by rw [List.length_take]; omega), List.getElem?_eq_none (by omega),
      Option.getD_none]
    simp only [zeros, List.getElem_replicate]

/-- A pass over one copy of a mirror gives that copy (R295). -/
theorem gfPass_mirror (p : Nat) (d : Bytes) (q n : Nat) : gfPass 1 [(p, d)] q n = fit n d := by
  rw [fit_eq_map]
  simp only [gfPass, passRow, gfSett, List.map_cons, List.map_nil, if_true]
  exact List.map_congr_left (fun t _ => gfByte_mirror d t)

/-- Comparisons of a mirror: each copy beside the first is the same (R300). -/
theorem comparesEqual_mirror (p : Nat) (d : Bytes) (l : List (Nat × Bytes)) (n : Nat) :
    comparesEqual 1 ((p, d) :: l) n = l.all (fun e => fit n d == fit n e.2) := by
  simp [comparesEqual, gfPass_mirror]

/-- Two strings that fit differ where their first bytes do, and are the same where those are all they hold. -/
theorem fit_single (n : Nat) (a b : Byte) (h : 0 < n) : (fit n [a] == fit n [b]) = (a == b) := by
  cases n with
  | zero => omega
  | succ n => simp [fit, slice]

end Sys2Proof.Machine
end

