-- ==== Sys2Proof/Laws/Tab.lean ====
section
/-! SUPPORT. What reading a sparse table gives after each operation on it. -/

namespace Sys2Proof.Machine

/-- A place just written reads as written, every other place as before. -/
theorem at?_put {β : Type} (t : Tab β) (k j : Nat) (v : β) :
    Tab.at? j (Tab.put k v t) = if j = k then some v else Tab.at? j t := by
  induction t with
  | nil =>
    by_cases h : j = k
    · simp [Tab.put, Tab.at?, h]
    · simp [Tab.put, Tab.at?, h, Ne.symm h]
  | cons e t ih =>
    obtain ⟨a, w⟩ := e
    by_cases h : j = k
    · subst h
      by_cases h1 : j < a
      · simp [Tab.put, Tab.at?, h1]
      · by_cases h2 : j = a
        · simp [Tab.put, Tab.at?, h2]
        · simp [Tab.put, Tab.at?, h1, h2, Ne.symm h2, ih]
    · by_cases h1 : k < a
      · simp [Tab.put, Tab.at?, h1, h, Ne.symm h]
      · by_cases h2 : k = a
        · subst h2; simp [Tab.put, Tab.at?, h, Ne.symm h]
        · simp [Tab.put, Tab.at?, h1, h2, h, ih]

/-- A place just deleted is not listed, every other place reads as before. -/
theorem at?_del {β : Type} (t : Tab β) (k j : Nat) :
    Tab.at? j (Tab.del t k) = if j = k then none else Tab.at? j t := by
  induction t with
  | nil => simp [Tab.del, Tab.at?]
  | cons e t ih =>
    obtain ⟨a, w⟩ := e
    simp only [Tab.del, List.filter_cons] at ih ⊢
    by_cases h : a = k
    · subst h
      by_cases hj : a = j
      · subst hj; simpa [Tab.at?] using ih
      · simp [Tab.at?, hj, Ne.symm hj] at ih ⊢; exact ih
    · by_cases hj : a = j
      · subst hj; simp [Tab.at?, h]
      · simp [Tab.at?, h, hj, ih]

/-- A place that is changed reads as changed where it was listed, every other place as before. -/
theorem at?_mod {β : Type} (t : Tab β) (k j : Nat) (f : β → β) :
    Tab.at? j (Tab.mod t k f) = if j = k then (Tab.at? j t).map f else Tab.at? j t := by
  induction t with
  | nil => simp [Tab.mod, Tab.at?]
  | cons e t ih =>
    obtain ⟨a, v⟩ := e
    simp only [Tab.mod, List.map_cons] at ih ⊢
    by_cases h : a = k
    · subst h
      by_cases hj : a = j
      · subst hj; simp [Tab.at?]
      · simp only [Tab.at?, if_true, if_neg hj, ih]
    · by_cases hj : a = j
      · subst hj; simp [Tab.at?, h]
      · simp only [Tab.at?, if_neg h, if_neg hj, ih]

/-- A default stored is not listed, and reads as the default all the same. -/
theorem atD_putD {β : Type} [DecidableEq β] (t : Tab β) (k j : Nat) (v d : β) :
    Tab.atD (Tab.putD t k v d) j d = if j = k then v else Tab.atD t j d := by
  unfold Tab.putD Tab.atD
  by_cases h : v = d
  · by_cases hj : j = k <;> simp [h, at?_del, hj]
  · by_cases hj : j = k <;> simp [h, at?_put, hj]

/-- The place of a listed entry is among the keys. -/
theorem at?_isSome {β : Type} (t : Tab β) (k : Nat) : (Tab.at? k t).isSome = true ↔ k ∈ Tab.keys t := by
  induction t with
  | nil => simp [Tab.at?, Tab.keys]
  | cons e t ih =>
    obtain ⟨a, v⟩ := e
    by_cases h : a = k
    · subst h; simp [Tab.at?, Tab.keys]
    · simp only [Tab.keys] at ih
      simp [Tab.at?, Tab.keys, h, Ne.symm h, ih]

/-- A table made of the places of a list of numbers. -/
theorem at?_map {β : Type} (f : Nat → β) (l : List Nat) (k : Nat) (h : k ∈ l) :
    Tab.at? k (l.map (fun r => (r, f r))) = some (f k) := by
  induction l with
  | nil => cases h
  | cons a l ih =>
    by_cases e : a = k
    · subst e; simp [Tab.at?]
    · simp only [List.map_cons, Tab.at?, if_neg e]
      exact ih ((List.mem_cons.1 h).resolve_left (Ne.symm e))

end Sys2Proof.Machine
end

