-- ==== Sys2Proof/Laws/Settled.lean ====
section
/-! SUPPORT. What settling answers is a settled state. -/

namespace Sys2Proof.Machine

/-! ### An event leaves what follows from the state as it was -/

section
variable (c v n : Nat) (d : Bytes) (s : State)

@[simp] theorem event_cacheState : cacheState (event c v n d s) = cacheState s :=
  (event_recorded c v n d s).same cacheState (fun _ _ _ _ => rfl)
@[simp] theorem event_wtCause : wtCause (event c v n d s) = wtCause s :=
  (event_recorded c v n d s).same wtCause (fun _ _ _ _ => rfl)
@[simp] theorem event_degradedSet : degradedSet (event c v n d s) = degradedSet s :=
  (event_recorded c v n d s).same degradedSet (fun _ _ _ _ => rfl)
@[simp] theorem event_rateIndex : rateIndex (event c v n d s) = rateIndex s :=
  (event_recorded c v n d s).same rateIndex (fun _ _ _ _ => rfl)
@[simp] theorem event_vaultState : vaultState (event c v n d s) = vaultState s :=
  (event_recorded c v n d s).same vaultState (fun _ _ _ _ => rfl)
@[simp] theorem event_dumpAreaState : dumpAreaState (event c v n d s) = dumpAreaState s :=
  (event_recorded c v n d s).same dumpAreaState (fun _ _ _ _ => rfl)
@[simp] theorem event_serving : serving (event c v n d s) = serving s :=
  (event_recorded c v n d s).same serving (fun _ _ _ _ => rfl)
@[simp] theorem event_pw : (event c v n d s).pw = s.pw :=
  (event_recorded c v n d s).same State.pw (fun _ _ _ _ => rfl)
@[simp] theorem event_cache : (event c v n d s).cache = s.cache :=
  (event_recorded c v n d s).same State.cache (fun _ _ _ _ => rfl)
@[simp] theorem event_vault : (event c v n d s).vault = s.vault :=
  (event_recorded c v n d s).same State.vault (fun _ _ _ _ => rfl)
@[simp] theorem event_tally : (event c v n d s).tally = s.tally :=
  (event_recorded c v n d s).same State.tally (fun _ _ _ _ => rfl)
@[simp] theorem event_side : (event c v n d s).side = s.side :=
  (event_recorded c v n d s).same State.side (fun _ _ _ _ => rfl)
@[simp] theorem event_tabs : (event c v n d s).tabs = s.tabs :=
  (event_recorded c v n d s).same State.tabs (fun _ _ _ _ => rfl)
@[simp] theorem event_drv : (event c v n d s).drv = s.drv :=
  (event_recorded c v n d s).same State.drv (fun _ _ _ _ => rfl)
end

/-- STATUS reads of the ports their states alone. -/
@[simp] theorem event_statusByte (c v n : Nat) (d : Bytes) (s : State) :
    statusByte (event c v n d s) = statusByte s := by
  have h := event_recorded c v n d s
  have hp : allPorts.any (fun p => ((event c v n d s).ports.get p).state == .quarantined) =
      allPorts.any (fun p => (s.ports.get p).state == .quarantined) := by
    congr 1
    funext p
    rw [h.portState p]
  have hm := h.2.2
  rw [h.1] at hp ⊢
  unfold statusByte faultLit
  rw [hp, hm]
  rfl

/-! ### The phases of settling -/

/-- The state of the store does not change when it is looked at again (R413). -/
theorem storeLevel_again (l f : Nat) : storeLevel (storeLevel l f) f = storeLevel l f := by
  unfold storeLevel
  repeat' split
  all_goals omega

theorem vaultSettle_vault (s : State) (h : (serving s || s.pw.state == .dump) = true) :
    (vaultSettle s).vault.lastState = vaultState (vaultSettle s) ∧
      (vaultSettle s).vault.lastArea = dumpAreaState (vaultSettle s) := by
  unfold vaultSettle
  simp only [h, Bool.not_true]
  split
  · rename_i e
    simp at e
    exact ⟨e.1.symm, e.2.symm⟩
  · simp only [event_vault, event_vaultState, event_dumpAreaState]
    refine ⟨?_, Eq.refl _⟩
    unfold vaultState
    by_cases hf : s.vault.failed = true
    · simp [hf]
    · simp only [hf]
      exact (storeLevel_again _ _).symm

theorem cacheSettle_cache (s : State) :
    (cacheSettle s).cache.mode = cacheState (cacheSettle s) ∧
      (cacheSettle s).cache.wtCause = if (cacheSettle s).cache.mode = 2 then wtCause (cacheSettle s) else 0 := by
  unfold cacheSettle
  simp only
  split
  · exact ⟨Eq.refl _, Eq.refl _⟩
  · simp only [event_cache, event_cacheState, event_wtCause]
    exact ⟨Eq.refl _, Eq.refl _⟩

theorem cacheSettle_vault (s : State) : (cacheSettle s).vault = s.vault ∧
    vaultState (cacheSettle s) = vaultState s ∧ dumpAreaState (cacheSettle s) = dumpAreaState s := by
  unfold cacheSettle
  simp only
  split
  · exact ⟨Eq.refl _, Eq.refl _, Eq.refl _⟩
  · rw [event_vault, event_vaultState, event_dumpAreaState]
    exact ⟨Eq.refl _, Eq.refl _, Eq.refl _⟩

theorem degradedSettle_degraded (s : State) :
    (degradedSettle s).pw.lastDegraded = degradedSet (degradedSettle s) := by
  unfold degradedSettle
  simp only
  split
  · rename_i e
    exact e.symm
  · split
    · rfl
    · simp only [event_pw, event_degradedSet]
      rfl

theorem degradedSettle_keeps (s : State) : (degradedSettle s).cache = s.cache ∧
    (degradedSettle s).vault = s.vault ∧ cacheState (degradedSettle s) = cacheState s ∧
    wtCause (degradedSettle s) = wtCause s ∧ vaultState (degradedSettle s) = vaultState s ∧
    dumpAreaState (degradedSettle s) = dumpAreaState s := by
  unfold degradedSettle
  simp only
  split
  · exact ⟨rfl, rfl, rfl, rfl, rfl, rfl⟩
  · split
    · exact ⟨rfl, rfl, rfl, rfl, rfl, rfl⟩
    · rw [event_cache, event_vault, event_cacheState, event_wtCause, event_vaultState, event_dumpAreaState]
      exact ⟨rfl, rfl, rfl, rfl, rfl, rfl⟩

theorem rateSettle_rate (s : State) : (rateSettle s).tally.gauge.rateSeen = rateIndex (rateSettle s) := by
  unfold rateSettle
  simp only
  split
  · rename_i e
    exact e.symm
  · rfl

theorem rateSettle_keeps (s : State) : (rateSettle s).cache = s.cache ∧ (rateSettle s).vault = s.vault ∧
    (rateSettle s).pw = s.pw ∧ cacheState (rateSettle s) = cacheState s ∧ wtCause (rateSettle s) = wtCause s ∧
    vaultState (rateSettle s) = vaultState s ∧ dumpAreaState (rateSettle s) = dumpAreaState s ∧
    degradedSet (rateSettle s) = degradedSet s := by
  unfold rateSettle
  simp only
  split <;> exact ⟨rfl, rfl, rfl, rfl, rfl, rfl, rfl, rfl⟩

theorem statusSettle_status (s : State) : (statusSettle s).side.lastStatus = statusByte (statusSettle s) := by
  unfold statusSettle
  simp only
  split
  · rename_i e
    exact e.symm
  · rfl

theorem statusSettle_keeps (s : State) : (statusSettle s).cache = s.cache ∧ (statusSettle s).vault = s.vault ∧
    (statusSettle s).pw = s.pw ∧ (statusSettle s).tally = s.tally ∧ cacheState (statusSettle s) = cacheState s ∧
    wtCause (statusSettle s) = wtCause s ∧ vaultState (statusSettle s) = vaultState s ∧
    dumpAreaState (statusSettle s) = dumpAreaState s ∧ degradedSet (statusSettle s) = degradedSet s ∧
    rateIndex (statusSettle s) = rateIndex s := by
  unfold statusSettle
  simp only
  split <;> exact ⟨rfl, rfl, rfl, rfl, rfl, rfl, rfl, rfl, rfl, rfl⟩

/-! ### Volumes (R246) -/

/-- The state that R246 gives a volume is one that it keeps. -/
theorem volNext_again (s : State) (v : Nat) (vol : Volume) :
    volNext s v { vol with state := (volNext s v vol).1, loss := (volNext s v vol).2 } = volNext s v vol := by
  have e : ∀ a b, volMayServe s v { vol with state := a, loss := b } = volMayServe s v vol := fun _ _ => rfl
  have r : volMayServe s v vol = true → volReaches s v = true := by
    unfold volMayServe
    simp only [Bool.and_eq_true]
    intro h
    exact h.1.1.2
  unfold volNext
  cases vol.state <;> simp only
  · by_cases hl : lossNames s v = true
    · simp [hl]
    · by_cases hm : volMayServe s v vol = true
      · simp [hl, hm, r hm]
      · by_cases hr : volReaches s v = true
        · simp [hl, hm, hr, e]
        · by_cases hw : s.dur.waitOver = true
          · simp [hl, hm, hr, hw]
          · simp [hl, hm, hw, e]
  · by_cases hr : volReaches s v = true <;> simp [hr]
  · by_cases hr : volReaches s v = true <;> simp [hr]

/-- What a volume takes is what the table then holds at its place; every other place is as before. -/
theorem getVol_volTake (v w : Nat) (st : VState) (loss : Bool) (s : State) :
    getVol (volTake v st loss s) w =
      if w = v then (getVol s w).map (fun x => { x with state := st, loss := loss }) else getVol s w := by
  unfold volTake
  split
  · rename_i e
    by_cases h : w = v
    · subst h; simp [e]
    · simp [h]
  · rename_i vol e
    split
    · rename_i same
      by_cases h : w = v
      · subst h
        obtain ⟨a, b⟩ := same
        simp [e, ← a, ← b]
      · simp [h]
    · unfold getVol
      rw [event_tabs]
      simp only [modVol, modTabs]
      exact at?_mod _ _ _ _

/-- What decides a volume's state besides the volume table and what events change. -/
theorem volNext_of {s t : State} (h : t.tabs.groups = s.tabs.groups ∧ t.tabs.spans = s.tabs.spans ∧ t.drv = s.drv ∧
    t.dur = s.dur ∧ t.dump = s.dump ∧ t.lock = s.lock) (v : Nat) (vol : Volume) : volNext t v vol = volNext s v vol := by
  obtain ⟨h1, h2, h3, h4, h5, h6⟩ := h
  have r : volReaches t v = volReaches s v := by
    have e : reachable t = reachable s := by
      funext m
      unfold reachable chunkUp chunkDrive driveUp getDrive
      rw [h2, h3]
    unfold volReaches volGroups reachCount
    rw [h1, e]
  unfold volNext volMayServe lossNames cipherLost
  rw [r, h4, h5, h6]

theorem getVol_volStep (s : State) (v w : Nat) (t : State) :
    getVol (volStep s v t) w =
      if w = v then (getVol t w).map (fun x => { x with state := (volNext s w x).1, loss := (volNext s w x).2 })
      else getVol t w := by
  unfold volStep
  by_cases h : w = v
  · subst h
    cases e : getVol t w with
    | none => simp [e]
    | some vol => simp [getVol_volTake, e]
  · cases e : getVol t v with
    | none => simp [h]
    | some vol => simp [getVol_volTake, h]

/-- After a pass over the volumes each that was passed stands where R246 puts it. -/
theorem volumes_fold (s : State) (l : List Nat) (t : State)
    (ht : ∀ w vol, getVol t w = some vol → volNext s w vol = (vol.state, vol.loss) ∨ w ∈ l) :
    ∀ w vol, getVol (l.foldl (fun t v => volStep s v t) t) w = some vol →
      volNext s w vol = (vol.state, vol.loss) := by
  induction l generalizing t with
  | nil =>
    intro w vol h
    rcases ht w vol h with a | a
    · exact a
    · simp at a
  | cons v l ih =>
    rw [List.foldl_cons]
    apply ih
    intro w vol h
    rw [getVol_volStep] at h
    by_cases hw : w = v
    · left
      rw [if_pos hw] at h
      cases hg : getVol t w with
      | none => simp [hg] at h
      | some x =>
        simp only [hg, Option.map_some, Option.some.injEq] at h
        rw [← h, volNext_again]
    · rw [if_neg hw] at h
      rcases ht w vol h with a | a
      · exact .inl a
      · simp only [List.mem_cons] at a
        rcases a with a | a
        · exact absurd a hw
        · exact .inr a

theorem mem_keys_of_at? {β : Type} (t : Tab β) (k : Nat) (v : β) (h : Tab.at? k t = some v) : k ∈ Tab.keys t := by
  induction t with
  | nil => simp [Tab.at?] at h
  | cons e t ih =>
    obtain ⟨a, w⟩ := e
    unfold Tab.keys at ih ⊢
    by_cases ha : a = k
    · simp [ha]
    · simp only [Tab.at?, if_neg ha] at h
      simp only [List.map_cons, List.mem_cons]
      exact .inr (ih h)

theorem volumesSettle_volumes (s : State) (h : serving s = true) :
    ∀ w vol, getVol (volumesSettle s) w = some vol → volNext s w vol = (vol.state, vol.loss) := by
  unfold volumesSettle
  rw [if_pos h]
  exact volumes_fold s _ s (fun w vol a => .inr (mem_keys_of_at? _ _ _ a))

/-- The later phases leave the volumes as they are. -/
theorem settle_tabs (s : State) : (settle s).tabs = (volumesSettle s).tabs ∧
    (settle s).drv = (volumesSettle s).drv ∧ (settle s).pw.state = (volumesSettle s).pw.state := by
  have a : ∀ t : State, (vaultSettle t).tabs = t.tabs ∧ (vaultSettle t).drv = t.drv ∧
      (vaultSettle t).pw.state = t.pw.state := by
    intro t; unfold vaultSettle; simp only; split <;> simp
  have b : ∀ t : State, (cacheSettle t).tabs = t.tabs ∧ (cacheSettle t).drv = t.drv ∧
      (cacheSettle t).pw.state = t.pw.state := by
    intro t; unfold cacheSettle; simp only; split <;> simp
  have c : ∀ t : State, (degradedSettle t).tabs = t.tabs ∧ (degradedSettle t).drv = t.drv ∧
      (degradedSettle t).pw.state = t.pw.state := by
    intro t; unfold degradedSettle; simp only; split
    · simp
    · split <;> simp
  have d : ∀ t : State, (rateSettle t).tabs = t.tabs ∧ (rateSettle t).drv = t.drv ∧
      (rateSettle t).pw.state = t.pw.state := by
    intro t; unfold rateSettle; simp only; split <;> simp
  have e : ∀ t : State, (statusSettle t).tabs = t.tabs ∧ (statusSettle t).drv = t.drv ∧
      (statusSettle t).pw.state = t.pw.state := by
    intro t; unfold statusSettle; simp only; split <;> simp
  unfold settle
  simp only [a, b, c, d, e, and_self]

/-- What the phases behind the vault's leave: the cache, DEGRADED_SET, the rate index and STATUS as they follow from
the state, and the vault as it was. -/
theorem late_phases (u t : State) (h : t = statusSettle (rateSettle (degradedSettle (cacheSettle u)))) :
    t.cache.mode = cacheState t ∧ t.cache.wtCause = (if t.cache.mode = 2 then wtCause t else 0) ∧
      t.pw.lastDegraded = degradedSet t ∧ t.tally.gauge.rateSeen = rateIndex t ∧ t.side.lastStatus = statusByte t ∧
      t.vault = u.vault ∧ vaultState t = vaultState u ∧ dumpAreaState t = dumpAreaState u := by
  obtain ⟨c1, c2⟩ := cacheSettle_cache u
  obtain ⟨v1, v2, v3⟩ := cacheSettle_vault u
  generalize cacheSettle u = a at *
  obtain ⟨e1, e2, e3, e4, e5, e6⟩ := degradedSettle_keeps a
  have d := degradedSettle_degraded a
  generalize degradedSettle a = b at *
  obtain ⟨b1, b2, b3, b4, b5, b6, b7, b8⟩ := rateSettle_keeps b
  have r := rateSettle_rate b
  generalize rateSettle b = c at *
  obtain ⟨a1, a2, a3, a4, a5, a6, a7, a8, a9, a10⟩ := statusSettle_keeps c
  have st := statusSettle_status c
  generalize statusSettle c = x at *
  subst h
  refine ⟨?_, ?_, ?_, ?_, st, ?_, ?_, ?_⟩
  · rw [a1, b1, e1, a5, b4, e3]; exact c1
  · rw [a1, b1, e1, a6, b5, e4]; exact c2
  · rw [a3, b3, a9, b8]; exact d
  · rw [a4, a10]; exact r
  · rw [a2, b2, e2, v1]
  · rw [a7, b6, e5, v2]
  · rw [a8, b7, e6, v3]

/-- A settled state is what settling answers. -/
theorem settle_settled (s : State) : Settled (settle s) := by
  have hs := settle_tabs s
  have hp : (volumesSettle s).pw.state = s.pw.state := congrArg (fun u => u.pw.state) (volumesSettle_apart s)
  have hl := late_phases (vaultSettle (volumesSettle s)) (settle s) (by unfold settle; rfl)
  have hv := vaultSettle_vault (volumesSettle s)
  have hr := volumesSettle_volumes s
  have ha := settle_apart s
  generalize settle s = t at *
  obtain ⟨l1, l2, l3, l4, l5, l6, l7, l8⟩ := hl
  have hst : t.pw.state = s.pw.state := hs.2.2.trans hp
  refine ⟨l1, l2, l3, l4, l5, ?_, ?_⟩
  · intro h
    rw [l6, l7, l8]
    apply hv
    unfold serving at h ⊢
    rw [hs.2.2] at h
    exact h
  · intro h v vol a
    have hser : serving s = true := by
      unfold serving at h ⊢
      rw [hst] at h
      exact h
    have a' : getVol (volumesSettle s) v = some vol := by unfold getVol at a ⊢; rw [← hs.1]; exact a
    rw [volNext_of (s := s) (t := t) ⟨congrArg (fun u => u.tabs.groups) ha, congrArg (fun u => u.tabs.spans) ha,
      congrArg (fun u => u.drv) ha, congrArg (fun u => u.dur) ha, congrArg (fun u => u.dump) ha, congrArg (fun u => u.lock) ha⟩]
    exact hr hser v vol a'

/-! ### Settling again -/

theorem volumesSettle_of_settled (s : State) (h : Settled s) : volumesSettle s = s := by
  unfold volumesSettle
  split
  · rename_i hs
    have k : ∀ l : List Nat, l.foldl (fun t v => volStep s v t) s = s := by
      intro l
      induction l with
      | nil => rfl
      | cons v l ih =>
        rw [List.foldl_cons]
        have e : volStep s v s = s := by
          unfold volStep
          cases hg : getVol s v with
          | none => rfl
          | some vol =>
            have n := h.volumes hs v vol hg
            simp only [n]
            unfold volTake
            simp [hg]
        rw [e, ih]
    exact k _
  · rfl

/-- Settling leaves a settled state as it is. -/
theorem settle_of_settled (s : State) (h : Settled s) : settle s = s := by
  have a : vaultSettle s = s := by
    unfold vaultSettle
    simp only
    rw [if_pos]
    by_cases hs : (serving s || s.pw.state == .dump) = true
    · exact .inl ⟨(h.vault hs).1.symm, (h.vault hs).2.symm⟩
    · right; simp only [Bool.not_eq_true] at hs; rw [hs]; rfl
  have b : cacheSettle s = s := by
    unfold cacheSettle
    have e : ({ s with cache := { s.cache with
        mode := cacheState s, wtCause := if cacheState s = 2 then wtCause s else 0 } } : State) = s := by
      rw [← h.cache, ← h.causes]
    simp only [e]
    rw [if_pos (.inl h.cache.symm)]
  have c : degradedSettle s = s := by
    unfold degradedSettle
    simp only
    rw [if_pos h.degraded.symm]
  have d : rateSettle s = s := by
    unfold rateSettle
    simp only
    rw [if_pos h.rate.symm]
  have e : statusSettle s = s := by
    unfold statusSettle
    simp only
    rw [if_pos h.status.symm]
  unfold settle
  rw [volumesSettle_of_settled s h, a, b, c, d, e]

end Sys2Proof.Machine
end

