-- ==== Sys2Proof/Tests/Slice0.lean ====
section
/-! SUPPORT. Tests of the model on small states, and for each statement states that meet the hypotheses of its
clauses together. -/

namespace Sys2Proof.Tests

open Sys2Proof Sys2Proof.Machine

-- one theorem at a time: each evaluation by the kernel would hold a thread of its own
set_option Elab.async false

/-! ### States -/

/-- A session of the role Custodian over RXMP. -/
def sess1 : Session :=
  { id := 1, port := none, role := 2, slot := 1, setup := false, opened := 0, last := 100000000000000, cached := none
    mak := [], swk := [] }

/-- The module in service, with nothing attached, and the session. -/
def svc : State :=
  { State.reset with
    pw := { Power.reset with state := .service, p12v := true, rails := true }
    side := { Sideband.reset with pwrGood := true }
    clk := { Clock.reset with now := 1000000000000000, uptime := 100000000000000, early := false }
    led := { Ledger.reset with mounted := true, nextSeq := 1 }
    sess := { Sessions.reset with sessions := [sess1] } }

/-- A dictionary operation is carried in service. -/
theorem svc_carries (role index : Nat) (hr : role ≤ 2) (h : available svc index = true) :
    Carries (.rxmp 1) role index svc :=
  ⟨by decide, ⟨sess1, by decide, by decide, hr⟩, h⟩

/-! ### Power -/

/-- The die at its throttle level, the module in THROTTLE. -/
def hot : State :=
  modSide (fun x => { x with levels := .none :: .throttle :: List.replicate 6 .none })
    (modPw (fun p => { p with state := .throttle, capped := true }) svc)

/-- The module in a dump for a cause, run or not. -/
def dumping (c : DumpCause) (done : Bool) : State :=
  { svc with
    pw := { svc.pw with state := .dump, cause := some c }
    side := { svc.side with dumpAct := true }
    dump := { svc.dump with dumped := done } }

/-- The module in START. -/
def starting : State := modPw (fun p => { p with state := .start, startStep := 1 }) svc

/-- The module in STANDBY. -/
def standing : State := modPw (fun p => { p with state := .standby }) svc

/-- The module in STANDBY with MOD_RESET_N low, and its restart due when it is not. -/
def held (restart : Bool) : State :=
  modSide (fun x => { x with modReset := restart }) (modPw (fun p => { p with restart := restart }) standing)

/-- What a START finds when every check passes. -/
def allWell : StartInputs :=
  { oscillatorOk := true, pllOk := true, coresOk := 0xFF#8, portFail := [], hbmFail := [], bistFail := []
    tagBanksOk := 0xFFFF#16, cooperFail := false, lanesFail := [], keyEngineFail := false, drbgFail := false
    groupFail := [], chargerFail := false, vaultMountOk := true, tagScanPages := 0, firstBadBlock := none
    drives := [], driveTables := none }

/-- The management watchdog expired just now. -/
def bitten : State := modPw (fun p => { p with lastWatchdog := some 99400000000000 }) svc

/-- Part of an image is still to be placed. -/
def slot0 : Slot :=
  { volume := 0, page := 0, state := .dirty, bmask := 0xFF, atomic := false, link := none, jseq := 1, data := []
    port := 0, tag := 1, old := false, since := 0, used := false, borrowed := false, reserved := 0, first := 1 }

def placing : State := { modPw (fun p => { p with startStep := 12 }) starting with dump := { starting.dump with unplaced := [(0, slot0)] } }

/-- A small volume: 512-byte blocks' extent of a 2 + 1 scheme, RECOVERING. -/
def vol0 : Volume :=
  { k := 2, m := 1, emul := false, vcflags := 0, cls := 0, capacity := 1000, keyId := 0, segments := [0], xgCur := 0
    xgOldest := 0, xgUnits := 0, state := .recovering, loss := false, openLog := none }

/-! ### Host ports -/

/-- A host port with its link up and Bus Master Enable set. -/
def openPort : Port :=
  { Port.reset with
    link := { up := true, rate := 4, width := 16, flit := false, perst := false, surprise := false, trained := true
              evenCable := true, oddCable := true, refclk := 0 }
    cfg := { PortCfg.reset with busMaster := true } }

/-- A module with host port 0 as given. -/
def withPort (q : Port) (s : State) : State := { s with ports := { s.ports with h0 := q } }

/-- The module in service with host port 0 open. -/
def ported : State := withPort openPort svc

/-! ### An array -/

/-- A drive in service, in a failure domain of its own. -/
def drive (n : Nat) : Drive :=
  { state := .online, left := .none, why := .none, present := true, proto := .nvme, rotating := false
    guid := fit 16 [BitVec.ofNat 8 (n + 1)], capacity := 2 ^ 45, wear := 0, temp := 30, path := [BitVec.ofNat 8 n]
    label := none, labelSeq := 1, labelTop := false, labelDue := false, adoptStep := 0, cls := 0, nextCls := 0, domain := n, dense := false, spareLow := false
    overTemp := false, linkFull := true, health := false, warnings := []
    rcv := { table := defaultTable 0, state := 0, counts := [], timer := 0, quiesced := false }, ops := []
    timeouts := 0, resets := 0, late := 0, marked := [], adoptFrom := .none }

/-- A volume of 4 KiB blocks with one extent, 2 + 1. -/
def vol : Volume :=
  { k := 2, m := 1, emul := false, vcflags := 0, cls := 0, capacity := 131072, keyId := 0, segments := [0], xgCur := 0
    xgOldest := 0, xgUnits := 0, state := .ready, loss := false, openLog := none }

/-- A module in service with an array of four drives and volume 0, which host port 0 may write; the cache runs
write-back where `wb` holds. -/
def array (wb : Bool) : State :=
  { ported with
    tabs := { Tables.empty with
      vols := [(0, vol)]
      spans := (List.range 4).map (fun n => (n, ⟨n * 100000, 100000, false⟩)) }
    drv := { Drives.reset with drives := (List.range 4).map (fun n => (n, drive n)) }
    dur := { Durability.reset with arrayId := fit 16 [1], epoch := 1 }
    cache := { Cache.reset with mode := if wb then 1 else 2 }
    dict := { Dict.reset with objs := [(objKey 0 0x2410 1, .bytes [3])] } }

/-- A command entry with one buffer. -/
def entryOf (op flags vol nblk lba len : Nat) : Bytes :=
  [0, 0] ++ leBytes 1 op ++ leBytes 1 flags ++ zeros 12 ++ leBytes 4 vol ++ leBytes 4 nblk ++ leBytes 8 lba ++
    leBytes 2 1 ++ zeros 14 ++ leBytes 8 0x10000 ++ leBytes 4 len ++ zeros 4

/-- The command of an entry, at a stage. -/
def cmdOf (e : Bytes) (st : Stage) : Cmd :=
  { port := 0, ring := 5, tag := 7, entry := e, stage := st, order := 1, accepted := 0, vol := 0, lo := lbaField e
    n := nblkField e, data := [], todo := [], pages := [], waits := [], recovered := false, reserved := 0, upto := 0
    vols := [] }

/-- The outstanding entry of that command. -/
def outOf (e : Bytes) : OutEntry :=
  { pos := ⟨true, 0⟩, len := 64, head := e.take 32, pushed := false, tag := 7, notice := false }

/-- A module with that command in work. -/
def working (c : Cmd) (s : State) : State :=
  { s with
    ce := { s.ce with cmds := [c] }
    rings := [(5, { Ring.reset with
      state := .running, base := 4096, sizeLog2 := 12, acc := ⟨true, 64⟩, db := ⟨true, 64⟩, fetchPos := ⟨true, 64⟩
      out := [outOf c.entry] })] }

/-! ### Groups, faces, logs and merges -/

/-- A group of volume 0 in a state, its members on chunks `c`, `c + 100000` and `c + 200000`. -/
def groupOf (st : GState) (owner c fill : Nat) : Group :=
  { k := 2, m := 1, state := st, xgen := 0, dense := false, volume := 0, fill := fill, owner := owner
    degraded := false, rebuilding := false, members := [⟨c, .ok⟩, ⟨c + 100000, .ok⟩, ⟨c + 200000, .ok⟩] }

/-- The chunks of such a group. -/
def chunksOf (g c kind : Nat) : Tab Chunk :=
  (List.range 3).map (fun i => (c + 100000 * i,
    { state := .allocated, hdrPending := false, relocate := false, dense := false, drive := i, group := some g
      member := i, kind := kind, volume := 0, allocCount := 1, errTally := 0, allocTime := 0, spoilJseq := 0 }))

/-- A dirty slot of a page of volume 0. -/
def dirtyPage (p : Nat) : Slot := { slot0 with page := p, jseq := 1, since := 1 }

/-- The array with extent 0 in a state, on group 0, and with dirty pages. -/
def extents (st : EState) (gst : GState) (fill : Nat) (dirty : List Nat) : State :=
  let a := array true
  { a with
    tabs := { a.tabs with
      exts := [(0, { state := st, queued := none, group := some 0, pmd := none, logPages := 0, touched := 0 })]
      groups := [(0, groupOf gst 0 0 fill)]
      chunks := chunksOf 0 0 1 }
    cache := { a.cache with slots := dirty.map (fun p => (p, dirtyPage p)) }
    jr := { a.jr with last := 1 } }

/-- The array with a face of volume 0, extent 0. -/
def faced (dirty : List Nat) : State := extents .face .face 0 dirty

/-! ### Import -/

/-- A foreign array's label. -/
def foreignLabel : LabelInfo :=
  { arrayId := fit 16 [9], epoch := 4, labelSeq := 1, driveNo := 0, driveGuid := fit 16 [77], chunkBase := 0
    chunkCount := 1000, domain := 0, driveCount := 1, ckptId := 3 }

/-- What a drive of that array shows. -/
def foreignInfo : DriveInfo :=
  { answered := true, proto := .nvme, rotating := false, guid := fit 16 [77], capacity := 2 ^ 45, blockSize := 4096
    metadata := true, writable := true, protoOk := true, wear := 0, temp := 30, path := [7], linkFull := true
    label := some foreignLabel }

/-- A metadata key of that array. -/
def foreignKey : Key := { kind := 2, flags := 0, id := 40, parent := 0, arrayId := fit 16 [9], value := fit 32 [1] }

/-- The module in service with a drive of a foreign array, what the array holds, and its key or not. -/
def importing (key : Bool) : State :=
  { svc with
    drv := { Drives.reset with drives := [(3, { drive 3 with
      state := .foreign, guid := fit 16 [77], label := some foreignLabel })] }
    dur := { svc.dur with mediaArray := fit 16 [9], epoch := 4, record := { ArrayRecord.empty with
      images := [{ desc := { id := 3, covers := 0, epoch := 4, time := 0, slot := 0, drives := [3] }
                   tables := Tables.empty }] } }
    lock := { Locksmith.reset with metaPending := if key then some foreignKey else none } }

/-! ### Mirrors -/

/-- A mirror volume of three copies. -/
def mirror : Volume := { vol with k := 1, m := 2 }

/-- The array with volume 0 a mirror and its group 0 closed, with `fill` benches. -/
def mirrored (st : GState) (fill : Nat) (members : List MState) : State :=
  let a := extents .closed st fill []
  { a with
    tabs := { a.tabs with
      vols := [(0, mirror)]
      groups := [(0, { groupOf st 0 0 fill with
        k := 1, m := 2, members := (members.zip [0, 100000, 200000]).map (fun e => ⟨e.2, e.1⟩) })] } }

/-- A read of bench 0 of group 0. -/
def readOf (whole again : Bool) (reader : Reader) : BenchRead :=
  { group := 0, bench := 0, whole := whole, need := [0], reader := reader, again := again, failed := [] }

/-- A mirror with a bench read outstanding. -/
def reading (r : BenchRead) : State :=
  let s := mirrored .closed 1 [.ok, .ok, .ok]
  { s with cooper := { s.cooper with reads := [r] } }

/-- Three setts of that bench. -/
def threeSetts (a b c : Byte) : List SettRead := [⟨0, .good [a]⟩, ⟨1, .good [b]⟩, ⟨2, .good [c]⟩]

/-! ### Drives -/

/-- The array with drive 0 as given. -/
def withDrive (d : Drive) : State :=
  let a := array true
  { a with drv := { a.drv with drives := Tab.put 0 d a.drv.drives } }

/-- What a new, blank device shows. -/
def blankInfo : DriveInfo := { foreignInfo with guid := fit 16 [88], path := [9], label := none }

/-- An operation outstanding on a drive. -/
def opened (what : OpWhat) : DriveOp := { id := 4, what := what, retried := false, ended := false }

/-- The array with an operation outstanding on drive 0. -/
def busyDrive (what : OpWhat) (rcv : Nat) : State :=
  let s := withDrive { drive 0 with ops := [opened what], rcv := { (drive 0).rcv with state := rcv } }
  { s with drv := { s.drv with nextOp := 5 } }

/-! ### Energy store -/

/-- The module in service with a pack, the charger in a state, and the estimator running. -/
def powered (c : ChState) (cells : List Nat) : State :=
  { svc with tally := { Tallyman.reset with
      pack := { Tallyman.reset.pack with
        state := 1, mv := 4 * cells.headD 0, cells := cells, temp := 200, inserted := 5, latched := true }
      charger := { Tallyman.reset.charger with state := c }
      gauge := { Tallyman.reset.gauge with running := true, e := 97, refE := 97, refTime := 999999000000000 } } }

/-- What a pack sample senses. -/
def sensed (cells : List Nat) (ntc ident : Nat) : PackSense :=
  { cells := cells, pack := 4 * cells.headD 0, ntc := ntc, ident := ident }

/-- The same, the learn cycle in a state. -/
def learning (st : LearnState) (c : ChState) : State :=
  let s := powered c [3300, 3300, 3300, 3300]
  { s with tally := { s.tally with learn := { s.tally.learn with state := st, active := true } } }

/-! ### Locksmith -/

/-- A key of a kind. -/
def keyOf (kind id parent flags : Nat) : Key :=
  { kind := kind, flags := flags, id := id, parent := parent, arrayId := zeros 16, value := fit 32 [7] }

/-- The module in service with keys loaded. -/
def keyed (l : List Key) : State := { svc with lock := { Locksmith.reset with keys := l } }

/-- The header of a key blob with an empty wrapped part. -/
def blobOf (kind flags id parent : Nat) : Bytes :=
  leBytes 4 0x59424C42 ++ [1] ++ leBytes 1 kind ++ [1] ++ leBytes 1 flags ++ leBytes 4 id ++ leBytes 4 parent ++ zeros 88

/-- The module in service with one volume. -/
def owning (v : Volume) : State := { svc with tabs := { Tables.empty with vols := [(0, v)] } }

/-- An encrypted volume at a generation. -/
def sealedVol (cur oldest : Nat) : Volume := { vol with vcflags := 1, keyId := 9, xgCur := cur, xgOldest := oldest }

/-- The module in service with the fuses blown to 1, and an image header in slot A. -/
def imaged : State :=
  { svc with lock := { Locksmith.reset with fuses := 1, imageA := ⟨true, zeros 6 ++ [5], []⟩, imageB := ⟨false, [], []⟩ } }

/-! ### Sessions -/

/-- The module in service with path A active and the sessions as changed. -/
def netted (f : Sessions → Sessions) : State :=
  { svc with paths := { Paths.reset with a := { state := .active, link := 2, testOk := true } }, sess := f svc.sess }

/-- A credential of a role in a slot. -/
def credOf (slot role : Nat) (setup : Bool) : Cred :=
  { slot := slot, role := role, kind := 1, iter := 0, salt := zeros 16, name := fit 32 [BitVec.ofNat 8 slot]
    k := zeros 32, setup := setup, lastUsed := 0 }

/-- A session awaiting its PROVE. -/
def waiting : PendingSession :=
  { id := 5, port := none, source := [1], name := fit 32 [3], role := 2, cnonce := zeros 32, snonce := zeros 32
    slot := some 3 }

/-- A message of the network. -/
def netMsg (mtype session nops seq : Nat) (body : Bytes) : Bytes := plainMsg true mtype session 0 nops seq body

/-! ### Mailboxes and paths -/

/-- The module in service, host port 0 open, with its mailbox as given. -/
def mailing (b : Mailbox) : State := withPort { openPort with mailbox := b } svc

/-- A mailbox whose request is a message. -/
def mailOf (m : Bytes) (busy discard : Bool) : Mailbox :=
  { Mailbox.reset with request := (List.range m.length).zip m, busy := busy, discard := discard }

/-- An anonymous request of one READ. -/
def anonMsg : Bytes := plainMsg false 5 0 0 1 3 [1, 1, 0, 0x10, 0, 0, 0, 0]

/-- The module in service, the paths in two states. -/
def pathed (a b : PathState) (right : Bool) : State :=
  { svc with paths := { Paths.reset with a := ⟨a, 2, true⟩, b := ⟨b, 2, true⟩, right := right } }

/-! ### Tests -/

/-- The module in service with interfaces in MAINTENANCE and a test running. -/
def testing (maint : List Nat) (r : Option TestReq) : State :=
  { svc with test := { TestUnit.reset with maint := maint, running := r }, cache := { Cache.reset with mode := 2 } }

/-- A test of an interface at a depth. -/
def testOf (i d : Nat) : TestReq :=
  { interface := i, depth := d, lanes := 15, duration := 10000, limit := 0, rate := 4, start := 0 }

/-- The bytes of a TEST_REQUEST. -/
def reqBytes (i d : Nat) : Bytes := leBytes 1 i ++ leBytes 1 d ++ zeros 14

/-- What one attempt showed. -/
def verdict (errors : Nat) : TestVerdict :=
  { compared := 100, errors := errors, worstLane := 0, laneErrors := [], partnerOk := true }

/-- An operation of the dictionary is carried by the Custodian's session where core 0 runs and the object is there. -/
theorem carried (s : State) (role index : Nat) (h1 : dictRuns s = true) (h2 : chanSession s (.rxmp 1) = some sess1)
    (h3 : role ≤ 2) (h4 : available s index = true) : Carries (.rxmp 1) role index s :=
  ⟨h1, ⟨sess1, h2, rfl, h3⟩, h4⟩

/-- The network channel of the session. -/
abbrev R1 : Channel := .rxmp 1

/-! ### Witnesses: module, power, ports -/

theorem witness_SmbusReads : svc.pw.rail = true ∧ State.reset.pw.rail = true ∧
    svc.side.readings.length = 8 ∧
    ∃ s : State, s.pw.rail = true ∧ Settled s ∧ s.side.alert = true :=
  ⟨by decide, by decide, by decide, settle (modSide (fun x => { x with alert := true }) State.reset), by decide +kernel,
    settle_settled _, by decide +kernel⟩

theorem witness_IdentBlock : svc.pw.rail = true := by decide

/-- A learn cycle that discharges in LEARN. -/
def drained : State := modPw (fun p => { p with state := .learn }) (learning .discharging .learn)

theorem witness_ThermalLevels :
    (svc.pw.rail = true ∧ (100 : Int) ≤ 100 ∧ levelOf svc .die = .none ∧ levelOf svc .inlet = .none) ∧
    (learnRunning svc = false ∧ svc.pw.state = .service) ∧
    (drained.pw.rail = true ∧ levelOf drained .die = .none ∧ drained.pw.state = .learn ∧ learnRunning drained = true) ∧
    ((if Config.isE then (60 : Int) else 45) ≤ 60) ∧
    (hot.pw.rail = true ∧ (95 : Int) ≤ 100 - 5 ∧ levelOf hot .die = .throttle ∧ hot.pw.state = .throttle ∧
      ∀ y ∈ moduleSensors, y ≠ .die → levelOf hot y = .none) :=
  ⟨by decide, by decide, by decide, by split <;> decide, by decide⟩

theorem witness_DumpEntry : svc.pw.state ≠ .off ∧ svc.pw.state ≠ .dump ∧ svc.side.modReset = true ∧
    levelOf svc .hbm3 ≠ .trip ∧ serving svc = true ∧ bitten.pw.state ≠ .off ∧ bitten.pw.state ≠ .dump ∧
    bitten.pw.lastWatchdog = some 99400000000000 ∧ bitten.clk.uptime ≤ 99400000000000 + 600 * secNs := by decide

theorem witness_ModuleControl :
    (Carries (.rxmp 1) 2 0x1101 svc ∧ svc.pw.state ≠ .dump) ∧
    (Carries (.rxmp 1) 2 0x1101 standing ∧ standing.pw.state = .standby ∧ standing.pw.lockout = false) ∧
    (Carries (.rxmp 1) 2 0x1101 (dumping .modReset false) ∧ (dumping .modReset false).pw.state = .dump) :=
  ⟨⟨svc_carries _ _ (by decide) (by decide), by decide⟩,
   ⟨carried _ _ _ (by decide) (by decide) (by decide) (by decide), by decide⟩,
   ⟨carried _ _ _ (by decide) (by decide) (by decide) (by decide), by decide⟩⟩

/-- A dump that ran, with MOD_RESET_N latched and 12 V there or not. -/
def latched (p12v : Bool) : State :=
  modSide (fun x => { x with resetLatched := true })
    (modPw (fun p => { p with p12v := p12v }) (dumping .modReset true))

theorem witness_DumpRuns :
    ((dumping .trip12V false).pw.state = .dump ∧ (dumping .trip12V false).dump.dumped = false ∧
      (dumping .trip12V false).pw.cause = some .trip12V ∧ (dirtySlots (dumping .trip12V false)).isEmpty = true) ∧
    ((dumping .modReset true).dump.dumped = true ∧ (dumping .modReset true).pw.cause = some .modReset ∧
      (dumping .modReset true).side.resetLatched = false ∧ (dumping .modReset true).pw.p12v = true ∧
      (dumping .modReset true).pw.lockout = false ∧ (dumping .modReset true).pw.hold = false ∧
      DumpCause.modReset.holds = false ∧
      cfgAutoStart { dumping .modReset true with dict := { Dict.reset with objs := [] } } = 1) ∧
    ((latched true).pw.state = .dump ∧ (latched true).dump.dumped = true ∧ (latched true).pw.cause = some .modReset ∧
      (latched true).side.resetLatched = true ∧ (latched false).side.resetLatched = true ∧
      (latched false).pw.p12v = false) ∧
    ((held true).pw.restart = true ∧ (held true).pw.p12v = true ∧ (held true).side.modReset = true ∧
      cfgAutoStart (held true) = 1 ∧ (held true).pw.lockout = false ∧ (held true).pw.hold = false) := by decide

theorem witness_PowerRises :
    (State.reset.pw.state = .off ∧ State.reset.pw.rail = true ∧ State.reset.pw.p12v = false ∧
      cfgAutoStart State.reset = 1 ∧ State.reset.side.modReset = true) ∧
    ((modSide (fun x => { x with modReset := false }) State.reset).pw.state = .off ∧
      (modSide (fun x => { x with modReset := false }) State.reset).side.modReset = false) ∧
    ((held false).side.modReset = false ∧ (held false).pw.state = .standby ∧ cfgAutoStart (held false) = 1 ∧
      (held false).pw.lockout = false ∧ (held false).pw.hold = false) ∧
    ((modSide (fun x => { x with modReset := false }) svc).side.modReset = false ∧ svc.pw.state ≠ .standby) ∧
    ((modPw (fun p => { p with rail := false }) svc).pw.rail = false) ∧
    (svc.pw.state ≠ .off ∧ svc.pw.rail = true ∧ (svc.paths.path svc.paths.right).isDown = true) ∧
    ((pathed .active .down false).pw.rail = true ∧
      ((pathed .active .down false).paths.path (pathed .active .down false).paths.right).isDown = false) := by decide

/-- A volume that waits for members, in service. -/
def wanting : State :=
  { svc with tabs := { Tables.empty with
      vols := [(0, vol0)]
      exts := [(0, { state := .face, queued := none, group := some 0, pmd := none, logPages := 0, touched := 0 })]
      groups := [(0, { k := 2, m := 1, state := .face, xgen := 0, dense := false, volume := 0, fill := 1, owner := 0
                       degraded := false, rebuilding := false, members := [⟨0, .missing⟩, ⟨1, .missing⟩, ⟨2, .ok⟩] })] } }

theorem witness_StartUp :
    (starting.pw.state = .start ∧ starting.pw.startStep ≠ 12 ∧ starting.dump.unplaced = [] ∧ { allWell with pllOk := false }.pllOk = false) ∧
    (allWell.oscillatorOk = true ∧ allWell.pllOk = true ∧ allWell.coresOk ≠ 0#8 ∧ allWell.cooperFail = false ∧
      allWell.hbmFail = [] ∧ allWell.bistFail = [] ∧ starting.cache.retiring = 0#4 ∧ starting.dump.image = none ∧
      (0 : PortId).val ∉ allWell.portFail ∧ (0 : PortId).val ∉ starting.pw.portsFailed) ∧
    (placing.pw.state = .start ∧ placing.pw.startStep = 12 ∧ placing.dump.unplaced ≠ [] ∧
      labelsPending placing = false) ∧
    (serving wanting = true ∧ wanting.dur.path ≠ .stale ∧ getVol wanting 0 = some vol0 ∧ vol0.state = .recovering ∧
      lossNames wanting 0 = false ∧ volReaches wanting 0 = false) := by decide

/-- The reset state with images that no check passes: the ROM's recovery service follows. -/
theorem witness_StartUp_recovery :
    imageCheck imaged imaged.lock.imageA ≠ none ∧ imageCheck imaged imaged.lock.imageB ≠ none := by decide

/-! ### Witnesses: host ports -/

/-- Host port 0 quarantined. -/
def quarantined : State := withPort { openPort with state := .quarantined } svc

/-- Host port 0 with its link down, after surprise link loss or not. -/
def unlinked (surprise : Bool) : State :=
  withPort { openPort with link := { openPort.link with up := false, surprise := surprise } } svc

theorem witness_PortsContain :
    ((quarantined.ports.get 0).state = .quarantined ∧ (ported.ports.get 0).state ≠ .quarantined) ∧
    ((ported.ports.get 0).link.up = true ∧ (ported.ports.get 0).cfg.d3hot = false ∧ portTestOn ported 0 = false) ∧
    (((unlinked true).ports.get 0).link.up = false ∧ ((unlinked true).ports.get 0).link.surprise = true ∧
      mayTrain (unlinked true) 0 = true ∧
      linkOk (unlinked true) 0 4 16 false ⟨true, true⟩ = true ∧ linkOk (unlinked true) 0 4 8 false ⟨true, false⟩ = true ∧
      ((unlinked true).ports.get 0).state ≠ .quarantined) := by decide

theorem witness_PortLinksAndResets :
    (((unlinked false).ports.get 0).link.up = false ∧ ((unlinked false).ports.get 0).link.surprise = false ∧
      mayTrain (unlinked false) 0 = true ∧ linkOk (unlinked false) 0 4 16 false ⟨true, true⟩ = true ∧
      linkOk (unlinked false) 0 6 16 true ⟨true, true⟩ = true ∧ linkOk (unlinked false) 0 1 8 false ⟨true, false⟩ = true) ∧
    ((ported.ports.get 0).link.up = true ∧ (ported.ports.get 0).cfg.busMaster = true ∧
      (ported.ports.get 0).cfg.d3hot = false) ∧
    ((withPort { openPort with cfg := { openPort.cfg with d3hot := true } } svc).ports.get 0).cfg.d3hot = true := by
  decide

/-- A read that host port 0 has outstanding under tag 3. -/
def request (k : ReqKind) (dropped : Bool) : Port :=
  { openPort with
    reqs := [(3, { kind := k, addr := 4096, len := 64, held := dropped, dropped := dropped })]
    ctoTimes := List.replicate 20 100000000000000 }

theorem witness_HostReads :
    (∃ r, Tab.at? 3 ((withPort (request (.ring 5 0) true) svc).ports.get 0).reqs = some r ∧ r.dropped = true) ∧
    (∃ r, Tab.at? 3 ((withPort (request (.ring 255 0) false) svc).ports.get 0).reqs = some r ∧ r.dropped = false ∧
      r.kind = .ring 255 0 ∧ r.held = false ∧ cfgCtoThreshold (withPort (request (.ring 255 0) false) svc) 0 ≠ 0 ∧
      cfgCtoThreshold (withPort (request (.ring 255 0) false) svc) 0 ≤
        (recentTimeouts (withPort (request (.ring 255 0) false) svc) (request (.ring 255 0) false)).length + 1) ∧
    (∃ r, Tab.at? 3 (request (.data 7 0) false).reqs = some r ∧ r.dropped = false ∧
      (r.kind = .data 7 0 ∨ r.kind = .echo 7 0)) ∧
    (Tab.at? 9 (ported.ports.get 0).reqs = none ∧ (ported.ports.get 0).link.up = true) :=
  ⟨⟨_, rfl, rfl⟩, ⟨_, rfl, by decide⟩, ⟨_, rfl, by decide⟩, by decide⟩

/-- Host port 0 with interrupts pending, in INTx mode. -/
def pendingInt : State := withPort { openPort with intPending := 5#256 } svc

/-- Host port 0 in MSI-X mode with vector 5 waiting and ring 5 coalescing for vector 9. -/
def messaging : State :=
  { withPort { openPort with
      msixPending := [5], msixUnmasked := [9], cfg := { openPort.cfg with msixEnable := true } } svc with
    rings := [(5, { Ring.reset with state := .running, coal := 3, coalTime := 5, vector := 9 })] }

theorem witness_PortsRelease :
    barOpen ported 0 = true ∧ Carries (.rxmp 1) 1 0x2002 ported ∧
    ((quarantined.ports.get 0).state = .quarantined ∧ (quarantined.ports.get 0).cause = 0#32 ∧
      (quarantined.ports.get 0).link.up = true ∧ barOpen quarantined 0 = true ∧ Carries (.rxmp 1) 1 0x2011 quarantined) ∧
    ((ported.ports.get 0).state ≠ .quarantined ∧ Carries (.rxmp 1) 1 0x2011 ported) ∧
    (((withPort { openPort with state := .releasing } svc).ports.get 0).state = .releasing ∧
      ((withPort { openPort with state := .releasing } svc).ports.get 0).quarTags = [] ∧
      ((withPort { openPort with state := .releasing, quarTags := [3] } svc).ports.get 0).quarTags ≠ []) ∧
    (barOpen pendingInt 0 = true ∧ irqMode (pendingInt.ports.get 0).cfg = .intx ∧
      (pendingInt.ports.get 0).intPending ≠ 0#256 ∧
      (pendingInt.ports.get 0).intPending &&& ~~~(BitVec.ofNat 256 ((1#32).toNat * 2 ^ (32 * 0))) ≠ 0#256 ∧
      (pendingInt.ports.get 0).intPending &&& ~~~(BitVec.ofNat 256 ((5#32).toNat * 2 ^ (32 * 0))) = 0#256) ∧
    (((withPort { openPort with intPending := 5#256, inta := true } svc).ports.get 0).inta = true ∧
      ((withPort { openPort with intPending := 5#256, cfg := { openPort.cfg with busMaster := false } } svc).ports.get
        0).maySend = false) ∧
    (bar0Served 0x3 4 = false ∧ (ported.ports.get 0).link.up = true) ∧
    (2047 < 2048 ∧ 2047 ∉ (ported.ports.get 0).msixUnmasked ∧ irqMode (ported.ports.get 0).cfg ≠ .msix) ∧
    (barOpen messaging 0 = true ∧ 5 ∉ (messaging.ports.get 0).msixUnmasked ∧ (messaging.ports.get 0).maySend = true ∧
      irqMode (messaging.ports.get 0).cfg = .msix ∧ (messaging.ports.get 0).cfg.msixFunctionMask = false ∧ 5 ∈ (messaging.ports.get 0).msixPending) ∧
    ((getRing messaging 0 5).coal ≠ 0 ∧ (getRing messaging 0 5).coalTime ≠ 0 ∧
      (getRing messaging 0 5).vector ∈ (messaging.ports.get 0).msixUnmasked) := by
  refine ⟨by decide, carried _ _ _ ?_ ?_ ?_ ?_, ⟨by decide, by decide, by decide, by decide, carried _ _ _ ?_ ?_ ?_ ?_⟩,
    ⟨by decide, carried _ _ _ ?_ ?_ ?_ ?_⟩, by decide, by decide, by decide, by decide, by decide, by decide, by decide⟩ <;> decide

/-! ### Witnesses: rings -/

/-- Ring 5 of host port 0, running, with one entry outstanding and granules fetched. -/
def ringOf (g : Bytes) (n : Nat) (out : List OutEntry) : Ring :=
  { Ring.reset with
    state := .running, base := 4096, sizeLog2 := 12, acc := ⟨true, 64⟩, db := ⟨true, 64 + 64 * n⟩
    fetchPos := ⟨true, 64 + 64 * n⟩, out := out
    granules := (List.range n).map (fun i => (1 + i, ⟨slice g (64 * i) 64, false⟩)) }

/-- The module with that ring. -/
def ringed (r : Ring) : State := { ported with rings := [(5, r)] }

/-- An entry of a kind, with an opcode, of `n` granules, posted in a lap's phase. -/
def posted (k op n : Nat) (lap : Bool) : Bytes :=
  [BitVec.ofNat 8 (k * 16 + (if lap then 1 else 0)), BitVec.ofNat 8 (n - 1), BitVec.ofNat 8 op, 0] ++ zeros (64 * n - 4)

/-- Ring 5 with an entry outstanding. -/
def ringBusy : State :=
  ringed (ringOf [] 0 [{ pos := ⟨true, 0⟩, len := 64, head := zeros 32, pushed := false, tag := 7, notice := false }])

theorem witness_RingCreate : barOpen (ringed { Ring.reset with sizeLog2 := 12, base := 4096 }) 0 = true ∧
    (∀ r, r ∈ [12, 24] → getRing (ringed { Ring.reset with sizeLog2 := r, base := 4096 }) 0 5 =
      { Ring.reset with sizeLog2 := r, base := 4096 }) ∧
    (ported.ports.get 0).state = .active ∧ (ported.ports.get 0).cfg.busMaster = true ∧
    (ported.ports.get 0).cfg.d3hot = false ∧ (ported.ports.get 0).maint = false ∧
    (getRing ringBusy 0 5).state ≠ .none := by decide

theorem witness_RingsRun : barOpen ringBusy 0 = true ∧ (getRing ringBusy 0 5).state = .running ∧
    (∀ n ∈ [2 ^ 31 + 128, 0], Pos.ofWord (BitVec.ofNat 32 n).toNat ≠ (getRing ringBusy 0 5).db ∧
      (Pos.ofWord (BitVec.ofNat 32 n).toNat).off % 64 = 0 ∧ (Pos.ofWord (BitVec.ofNat 32 n).toNat).off < (getRing ringBusy 0 5).size ∧
      Pos.distance (getRing ringBusy 0 5).size (getRing ringBusy 0 5).db (Pos.ofWord (BitVec.ofNat 32 n).toNat) ≤
        (getRing ringBusy 0 5).size ∧
      (getRing ringBusy 0 5).overruns
        (Pos.distance (getRing ringBusy 0 5).size (getRing ringBusy 0 5).db (Pos.ofWord (BitVec.ofNat 32 n).toNat)) = false) ∧
    (getRing ringBusy 0 5).doorbellFault (Pos.ofWord (BitVec.ofNat 32 (2 ^ 31 + 129)).toNat) = 3 ∧
    (getRing ringBusy 0 5).doorbellFault (Pos.ofWord (BitVec.ofNat 32 64).toNat) = 4 ∧
    (isPow2 64 = true ∧ 192 % 64 = 0 ∧ 192 + 64 ≤ 256 ∧ (getRing ringBusy 0 5).pushRing = false) := by
  decide +kernel

theorem witness_RingsAccept :
    ((ringBusy.ports.get 0).maySend = true ∧ ringsRun ringBusy = true ∧ (outstandingTags ringBusy 0).length + 2 ≤ 2 ^ 32) ∧
    (∃ e, (getRing (ringed (ringOf (posted 0 4 1 true) 1 [])) 0 5).find = .entry e false ∧ entryKind e = 0 ∧
      mayAccept (ringed (ringOf (posted 0 4 1 true) 1 [])) 0 = true) ∧
    (∃ e, (getRing (ringed (ringOf (posted 1 4 2 true) 2 [])) 0 5).find = .entry e false ∧ entryKind e = 1 ∧
      mayAccept (ringed (ringOf (posted 1 4 2 true) 2 [])) 0 = true) ∧
    (∃ e, (getRing (ringed (ringOf (posted 2 0 2 true) 2 [])) 0 5).find = .entry e false ∧ entryKind e = 2 ∧
      mayAccept (ringed (ringOf (posted 2 0 2 true) 2 [])) 0 = true) ∧
    (getRing (ringed (ringOf (posted 0 4 1 false) 1 [])) 0 5).find = .phase ∧
    (getRing (ringed (ringOf (posted 2 0 1 true) 1 [])) 0 5).find = .length ∧
    (ringsInTurn (ringed (ringOf (posted 0 4 1 true) 1 [])) 0).find?
      (fun x => (getRing (ringed (ringOf (posted 0 4 1 true) 1 [])) 0 x).waits) = some 5 ∧
    (getRing (ringed { ringOf [] 1 [] with refetch := .due }) 0 5).refetch = .due ∧
    (getRing (ringed { ringOf [] 1 [] with refetch := .due }) 0 5).state = .running ∧
    (getRing (ringed { ringOf (posted 0 4 1 false) 1 [] with refetch := .again }) 0 5).find = .phase ∧
    (getRing (ringed { ringOf (posted 0 4 1 false) 1 [] with refetch := .again }) 0 5).refetch = .again ∧
    (getRing (ringed (ringOf (posted 0 4 1 false) 1 [])) 0 5).refetch ≠ .again ∧
    bit ((posted 0 4 1 true).getD 0 0).toNat 0 = (ringOf [] 1 []).acc.lap ∧
    bit ((posted 0 4 1 false).getD 0 0).toNat 0 ≠ (ringOf [] 1 []).acc.lap := by
  refine ⟨by decide, ⟨posted 0 4 1 true, by decide⟩, ⟨posted 1 4 2 true, by decide⟩, ⟨posted 2 0 2 true, by decide⟩, ?_⟩
  decide

/-- A limit of outstanding commands that is reached. -/
def full : State := { ringed (ringOf (posted 0 4 1 true) 1 []) with
  dict := { Dict.reset with objs := [(objKey 0 0x2402 1, .num 0)] } }

theorem witness_RingsAccept_full : (full.ports.get 0).maySend = true ∧ ringsRun full = true ∧
    (∃ e, (getRing full 0 5).find = .entry e false ∧ entryKind e = 0) ∧ mayAccept full 0 = false :=
  ⟨by decide, by decide, ⟨posted 0 4 1 true, by decide⟩, by decide⟩

theorem witness_RingsReset :
    barOpen (ringed { Ring.reset with sizeLog2 := 12, base := 4096 }) 0 = true ∧
    (getRing (ringed { Ring.reset with sizeLog2 := 12, base := 4096 }) 0 5).state = .none ∧
    (barOpen ringBusy 0 = true ∧ (getRing ringBusy 0 5).state = .running ∧ (getRing ringBusy 0 5).out ≠ [] ∧
      (ringBusy.ports.get 0).maySend = true) ∧
    (getRing (ringed (stopRing (ringOf [] 0 []))) 0 5).state = .stopped := by decide

/-- A notice that asks for an acknowledgement, and a slot for it. -/
def warning : Notice := ⟨4, 5, 0x1234, 2, 0, [1, 2]⟩

/-- The waiting notice slot. -/
def noticeAt : OutEntry :=
  { pos := ⟨true, 64⟩, len := 128, head := (posted 2 0 2 true).take 32, pushed := false, tag := 0, notice := true }

/-- Host port 0 with that notice and slot. -/
def notified : State :=
  { withPort { openPort with notices := [warning] } svc with
    rings := [(5, { ringOf [] 0 [noticeAt] with notice := true })] }

theorem witness_NoticesGoOut :
    ((notified.ports.get 0).notices = [warning] ∧ (notified.ports.get 0).maySend = true ∧
      (ringsOf notified 0).findSome? (fun x => if !(warning.code == 0x2104 && warning.subject == 0 + x * 256)
        then (getRing notified 0 x).noticeSlot.map (fun e => (x, e)) else none) = some (5, noticeAt)) ∧
    (((withPort { openPort with unacked := [warning] } svc).ports.get 0).unacked.find? (fun u => u.seq == warning.seq) =
      some warning ∧ cfgNoticeRepeat svc ≠ 0 ∧
      (withPort { openPort with unacked := [warning] } svc).ports.h0.notices.length < 1024) := by decide

/-! ### Witnesses: commands -/

/-- A command in work, by its entry. -/
def W (e : Bytes) (st : Stage) (s : State := array true) : State := working (cmdOf e st) s

/-- That command is outstanding on a running ring of a port that may send. -/
theorem waits (e : Bytes) (st : Stage) (s : State) (h : (working (cmdOf e st) s).ports = ported.ports) :
    Waiting 0 7 (cmdOf e st) (outOf e) (working (cmdOf e st) s) :=
  ⟨rfl, ⟨show 5 < 256 by decide, rfl⟩, rfl, by rw [h]; decide⟩

/-- And it may be decoded. -/
theorem decodes (e : Bytes) (h : mayDecode (W e .accepted) (cmdOf e .accepted) = true) :
    Decodable 0 7 (cmdOf e .accepted) (outOf e) (W e .accepted) :=
  ⟨waits e .accepted _ rfl, h⟩

theorem witness_CommandChecks :
    (∀ e ∈ [entryOf 1 0 1 1 0 4096, entryOf 2 0 0 1 131072 4096, entryOf 3 0 0 1 131072 4096, entryOf 4 0 9 0 0 0,
        entryOf 5 0 0 0 131072 0, entryOf 8 0 0x200000 0 0 0, entryOf 0x10 0 0 0 0 32],
      Decodable 0 7 (cmdOf e .accepted) (outOf e) (W e .accepted) ∧ (checkCmd (W e .accepted) 0 e).isSome = true) ∧
    (Decodable 0 7 (cmdOf (entryOf 0x77 0 0 0 0 0) .accepted) (outOf (entryOf 0x77 0 0 0 0 0))
        (W (entryOf 0x77 0 0 0 0 0) .accepted) ∧
      checkCmd (W (entryOf 0x77 0 0 0 0 0) .accepted) 0 (entryOf 0x77 0 0 0 0 0) = some stInvalidOpcode ∧
      opDefined (opcodeOf (entryOf 0x77 0 0 0 0 0)) = false) ∧
    (W (entryOf 1 0 0 1 5 4096) .accepted).ce.locks.length < lockMax ∧
    (W (entryOf 1 0 0 1 5 4096) .accepted).ce.decodeWaits = false := by
  refine ⟨fun e h => ⟨decodes e ?_, ?_⟩, ⟨decodes _ ?_, ?_⟩, ?_, ?_⟩
  · revert e; decide +kernel
  · revert e; decide +kernel
  all_goals decide +kernel

/-- The entry of a DISCARD of `n` blocks. -/
def discardOf (n : Nat) : Bytes := [0, 0, 5, 0] ++ zeros 12 ++ leBytes 4 0 ++ leBytes 4 0 ++ leBytes 8 0 ++ leBytes 8 n ++ zeros 24

/-- A DISCARD that stalled and whose lock may be granted now. -/
def stalled : State :=
  let s := W (discardOf 100) .stalled
  { s with ce := { s.ce with locks := [{ lockOf (cmdOf (discardOf 100) .stalled) with held := false }] } }

theorem witness_ReadAndDiscard :
    (Decodable 0 7 (cmdOf (entryOf 1 0 0 1 5 4096) .accepted) (outOf (entryOf 1 0 0 1 5 4096))
        (W (entryOf 1 0 0 1 5 4096) .accepted) ∧
      checkCmd (W (entryOf 1 0 0 1 5 4096) .accepted) 0 (entryOf 1 0 0 1 5 4096) = none ∧
      getVol (W (entryOf 1 0 0 1 5 4096) .accepted) 0 = some vol ∧ vol.state ≠ .offline ∧ pagesTouched vol 5 1 = [5] ∧
      mapReady (W (entryOf 1 0 0 1 5 4096) .accepted) 0 (5 / max 1 vol.extentPages) (5 % max 1 vol.extentPages) = true ∧
      pageLayers (W (entryOf 1 0 0 1 5 4096) .accepted) 0 vol 5 = []) ∧
    (Decodable 0 7 (cmdOf (discardOf 100) .accepted) (outOf (discardOf 100)) (W (discardOf 100) .accepted) ∧
      checkCmd (W (discardOf 100) .accepted) 0 (discardOf 100) = none ∧ opcodeOf (discardOf 100) = 5 ∧
      discardMissing (W (discardOf 100) .accepted) 0 vol (lbaField (discardOf 100)) (nblk64Field (discardOf 100)) = []) ∧
    (Waiting 0 7 (cmdOf (discardOf 100) .stalled) (outOf (discardOf 100)) stalled ∧
      mayGrant [] stalled.ce.locks 0 7 = true ∧ getVol stalled 0 = some vol ∧
      discardMissing stalled 0 vol (cmdOf (discardOf 100) .stalled).lo (cmdOf (discardOf 100) .stalled).n = []) :=
  ⟨⟨decodes _ (by decide +kernel), by decide +kernel⟩, ⟨decodes _ (by decide +kernel), by decide +kernel⟩,
    ⟨rfl, ⟨by decide, rfl⟩, rfl, by decide +kernel⟩, by decide +kernel⟩

/-- A write of one block with its data read outstanding under tag 3. -/
def fetching : State :=
  { W (entryOf 2 0 0 1 5 4096) .fetching with
    cache := { (array true).cache with slots := [(9, { slot0 with page := 5, state := .fetching, tag := 7, jseq := 0 })] }
    ports := (withPort { openPort with
      reqs := [(3, { kind := .data 7 0, addr := 0x10000, len := 4096, held := false, dropped := false })] } svc).ports }

/-- The same write under FUA. -/
def fetchingFua : State :=
  { W (entryOf 2 2 0 1 5 4096) .fetching with
    cache := { (array true).cache with slots := [(9, { slot0 with page := 5, state := .fetching, tag := 7, jseq := 0 })] }
    ports := fetching.ports }

/-- A staged write whose records are on the drives. -/
def staged : State :=
  { W (entryOf 2 0 0 1 5 4096) .staged (array false) with
    cache := { (array false).cache with slots := [(9, { slot0 with page := 5, state := .staged, tag := 7, jseq := 3 })] }
    jr := { Journal.reset with last := 3 } }

theorem witness_WritesCommit :
    (∀ e ∈ [entryOf 2 0 0 1 5 4096, entryOf 3 0 0 1 5 4096],
      Decodable 0 7 (cmdOf e .accepted) (outOf e) (W e .accepted) ∧ checkCmd (W e .accepted) 0 e = none ∧
      getVol (W e .accepted) 0 = some vol ∧ (checkSpace (W e .accepted) 0 vol 5 1).1 = none ∧
      slotsFor (W e .accepted) 1 = true ∧ keySpent (W e .accepted) vol = false) ∧
    (Waiting 0 7 (cmdOf (entryOf 2 0 0 1 5 4096) .slots) (outOf (entryOf 2 0 0 1 5 4096))
        (W (entryOf 2 0 0 1 5 4096) .slots) ∧ slotsFor (W (entryOf 2 0 0 1 5 4096) .slots) 1 = true) ∧
    (Waiting 0 7 (cmdOf (entryOf 2 0 0 1 5 4096) .fetching) (outOf (entryOf 2 0 0 1 5 4096)) fetching ∧
      lastRead fetching 0 3 = true ∧ isFua (entryOf 2 0 0 1 5 4096) = false ∧ writeBack fetching = true ∧ ringFull fetching = false ∧
      getVol fetching 0 = some vol ∧
      dataWhole vol { cmdOf (entryOf 2 0 0 1 5 4096) .fetching with data := Tab.put 0 (fit 4096 []) [] } = true) ∧
    (Waiting 0 7 (cmdOf (entryOf 2 2 0 1 5 4096) .fetching) (outOf (entryOf 2 2 0 1 5 4096)) fetchingFua ∧
      lastRead fetchingFua 0 3 = true ∧ isFua (entryOf 2 2 0 1 5 4096) = true ∧
      stageBlocked fetchingFua (cmdOf (entryOf 2 2 0 1 5 4096) .fetching) = false ∧ getVol fetchingFua 0 = some vol ∧
      dataWhole vol { cmdOf (entryOf 2 2 0 1 5 4096) .fetching with data := Tab.put 0 (fit 4096 []) [] } = true) ∧
    (Waiting 0 7 (cmdOf (entryOf 2 0 0 1 5 4096) .staged) (outOf (entryOf 2 0 0 1 5 4096)) staged ∧
      getVol staged 0 = some vol ∧ ringFull staged = false ∧ (∀ x ∈ slotsOf staged 0 7, x.2.jseq ≠ 0 ∧ recordsOnDrives staged x.2.jseq = true)) := by
  refine ⟨fun e h => ⟨decodes e ?_, ?_⟩, ⟨waits _ _ _ rfl, ?_⟩, ⟨⟨rfl, ⟨?_, rfl⟩, rfl, ?_⟩, ?_⟩,
    ⟨⟨rfl, ⟨?_, rfl⟩, rfl, ?_⟩, ?_⟩, ⟨rfl, ⟨?_, rfl⟩, rfl, ?_⟩, ?_⟩
  · revert e; decide +kernel
  · revert e; decide +kernel
  all_goals decide +kernel

/-- The entry of an ECHO of `n` bytes. -/
def echoOf (n : Nat) : Bytes :=
  [0, 0, 8, 0] ++ zeros 12 ++ leBytes 4 n ++ zeros 12 ++ leBytes 2 (if n = 0 then 0 else 2) ++ zeros 14 ++
    leBytes 8 0x10000 ++ leBytes 4 n ++ zeros 4 ++ leBytes 8 0x20000 ++ leBytes 4 n ++ zeros 4

/-- The entry of a NOTICE_ACK. -/
def ackOf (seq : Nat) : Bytes := [0, 0, 0x11, 0] ++ zeros 20 ++ leBytes 8 seq ++ zeros 32

/-- A FLUSH that waits for a partly written 512-byte page. -/
def flushOf : Cmd := { cmdOf (entryOf 4 0 0 0 0 0) .flushing with vols := [0], upto := 9 }

/-- Its older blocks lie in a log extent with no member in reach. -/
def cutOff : State :=
  let s := working flushOf (array true)
  { s with
    tabs := { s.tabs with
      vols := [(0, { vol with emul := true, openLog := some 0 })]
      mapPages := [(0, [(3, ⟨0, 0, 0xFF⟩)])], dirs := [(0, [(0, 0)])]
      exts := [(0, { state := .closed, queued := none, group := some 0, pmd := some 0, logPages := 1, touched := 0 })]
      logs := [(0, { group := 1, volume := 0, state := .opened, fill := 0, live := 1, openJseq := 0 })]
      groups := [(1, groupOf .log 0 1 0)] }
    cache := { s.cache with slots := [(3, { slot0 with page := 3, bmask := 1 })] }
    drv := { s.drv with drives := [] } }

theorem witness_OtherCommands :
    (∀ e ∈ [entryOf 4 0 0 0 0 0, (echoOf 0).take 64, echoOf 100, entryOf 0x10 0 0 0 0 64, ackOf 4],
      Decodable 0 7 (cmdOf e .accepted) (outOf e) (W e .accepted) ∧ checkCmd (W e .accepted) 0 e = none) ∧
    ([entryOf 4 0 0 0 0 0, (echoOf 0).take 64, echoOf 100, entryOf 0x10 0 0 0 0 64, ackOf 4].map opcodeOf =
      [4, 8, 8, 0x10, 0x11] ∧ nbytesField ((echoOf 0).take 64) = 0 ∧ nbytesField (echoOf 100) ≠ 0) ∧
    (Waiting 0 7 { cmdOf (entryOf 4 0 0 0 0 0) .flushing with vols := [0] } (outOf (entryOf 4 0 0 0 0 0))
        (working { cmdOf (entryOf 4 0 0 0 0 0) .flushing with vols := [0] } (array true)) ∧
      flushDirty (working { cmdOf (entryOf 4 0 0 0 0 0) .flushing with vols := [0] } (array true))
        { cmdOf (entryOf 4 0 0 0 0 0) .flushing with vols := [0] } = [] ∧
      (drivePending (working { cmdOf (entryOf 4 0 0 0 0 0) .flushing with vols := [0] } (array true))).isEmpty = true) ∧
    (Waiting 0 7 flushOf (outOf (entryOf 4 0 0 0 0 0)) cutOff ∧
      (flushDirty cutOff flushOf).any (cannotDestage cutOff) = true) := by
  refine ⟨fun e h => ⟨decodes e ?_, ?_⟩, ?_, ⟨⟨rfl, ⟨?_, rfl⟩, rfl, ?_⟩, ?_⟩, ⟨rfl, ⟨?_, rfl⟩, rfl, ?_⟩, ?_⟩
  · revert e; decide +kernel
  · revert e; decide +kernel
  all_goals decide +kernel

/-! ### Witnesses: volumes, groups, destage, merges, durability -/

/-- The array in service, write-back. -/
def A : State := array true

/-- VOL_CREATE's block for volume `n`. -/
def createBlock (n : Nat) : Bytes := leBytes 2 n ++ [2, 1, 0, 0, 0, 0] ++ leBytes 8 131072 ++ zeros 16

/-- VOL_CREATE's block for the encrypted volume 6 with key 9. -/
def cryptBlock : Bytes := leBytes 2 6 ++ [2, 1, 0, 1, 0, 0] ++ leBytes 8 131072 ++ leBytes 4 9 ++ zeros 12

/-- The array with a volume key. -/
def keyedArray : State := { A with lock := { Locksmith.reset with keys := [keyOf 3 9 5 1] } }

/-- VOL_GROW's block for volume 0. -/
def growBlock : Bytes := leBytes 2 0 ++ zeros 6 ++ leBytes 8 (131072 * 1025)

/-- A face with a dirty page that no port may reach. -/
def unreached : State := { faced [3] with dict := Dict.reset }

theorem A_carries (role index : Nat) (h1 : role ≤ 2) (h2 : available A index = true) :
    Carries (.rxmp 1) role index A :=
  carried _ _ _ (by decide) (by decide) h1 h2

theorem witness_VolumesAndGroups :
    (∀ n ∈ [5, 0], Carries (.rxmp 1) 1 0x3002 A ∧ n = field (createBlock n) 0 2 ∧ (createBlock n).length = 32 ∧
      n < 4096 ∧ schemeOk (createBlock n) = true ∧
      capacityOk (blockVolume (createBlock n)) (field (createBlock n) 8 8) = true ∧
      field (createBlock n) 2 1 + field (createBlock n) 3 1 ≤ (domainsHeld A).length) ∧
    (getVol A 5 = none ∧
      (takeSegments A (segmentsFor (blockVolume (createBlock 5)) (field (createBlock 5) 8 8))).isSome = true ∧
      (blockVolume (createBlock 5)).encrypted = false ∧ (blockVolume cryptBlock).encrypted = true ∧
      keyFree keyedArray (field cryptBlock 16 4) = true ∧ getVol A 0 ≠ none) ∧
    (0 = field growBlock 0 2 ∧ growBlock.length = 16 ∧ getVol A 0 = some vol ∧ vol.capacity ≤ field growBlock 8 8 ∧
      capacityOk vol (field growBlock 8 8) = true ∧
      takeSegments A (segmentsFor vol (field growBlock 8 8) - vol.segments.length) = some [1]) ∧
    (getVol A 9 = none ∧ accessCode A 0 0 ≠ 0 ∧ Carries (.rxmp 1) 1 0x3002 A) ∧
    (Carries (.rxmp 1) 1 0x3002 unreached ∧ getVol unreached 0 ≠ none ∧ (∀ p, accessCode unreached p 0 = 0) ∧ unreached.ce.cmds = []) ∧
    (Carries (.rxmp 1) 1 0x3003 A ∧ selNum A (.rxmp 1) 0x3001 1 = 0 ∧ getVol A 0 = some vol ∧
      2 % 2 = vol.vcflags % 2 ∧ 1 % 2 ≠ vol.vcflags % 2) ∧
    (pickGroup A 0 3 false).isSome = true := by
  refine ⟨fun n h => ⟨A_carries _ _ (by decide) (by decide +kernel), ?_⟩, ?_, ?_,
    ⟨?_, ?_, A_carries _ _ (by decide) (by decide +kernel)⟩,
    ⟨carried _ _ _ (by decide +kernel) (by decide +kernel) (by decide) (by decide +kernel), ?_⟩,
    ⟨A_carries _ _ (by decide) (by decide +kernel), ?_⟩, ?_⟩
  · revert n; decide +kernel
  all_goals decide +kernel

/-- The next state of a command; the state itself where it answers none. -/
def go (c : Instr) (s : State) : State := match exec c s with | .next t => t | _ => s

/-- The array with a dirty page of an extent in NONE. -/
def fresh : State :=
  { A with cache := { A.cache with slots := [(3, dirtyPage 3)] }, jr := { A.jr with last := 1 } }

/-- An extent of volume 0 that is closed on group 0 with a log page for its page 3, and a dirty page 3. -/
def logged : State :=
  let s := faced [3]
  { s with
    tabs := { s.tabs with
      mapPages := [(0, [(3, ⟨0, 0, 0xFF⟩)])], dirs := [(0, [(0, 0)])]
      exts := [(0, { state := .closed, queued := none, group := some 0, pmd := some 0, logPages := 1, touched := 0 })]
      logs := [(0, { group := 1, volume := 0, state := .opened, fill := 0, live := 1, openJseq := 0 })]
      groups := [(0, groupOf .closed 0 0 2048), (1, groupOf .log 0 1 0)]
      chunks := (chunksOf 1 1 2).foldl (fun t e => Tab.put e.1 e.2 t) (chunksOf 0 0 1)
      vols := [(0, { vol with openLog := some 0 })] }
    qm := { s.qm with residency := [(0, { slot := 0, resident := true, dirty := false, fetching := false
                                          pinned := false, used := true, oldest := 0 })] } }

/-- The volume with its log open. -/
def volLog : Volume := { vol with openLog := some 0 }

/-- That page has joined the pack of the open log extent. -/
def packed : State := packPage 0 0 3 fullMask 3 logged

/-- A face whose first bench the cache holds whole. -/
def fullBench : State := faced (List.range 64)

theorem witness_DestageWrites :
    (∀ s ∈ [fresh, fullBench, faced [3, 5]], dataRuns s = true ∧ getVol s 0 = some vol ∧ cipherReady s 0 vol = true ∧
      keySpent s vol = false) ∧
    (∀ s ∈ [logged, packed], dataRuns s = true ∧ getVol s 0 = some volLog ∧ cipherReady s 0 volLog = true ∧
      keySpent s volLog = false) ∧
    ((dirtySlotOf fresh 0 vol 0 3).isSome = true ∧ (getExt fresh 0 0).state = .none ∧ pmEntry fresh 0 0 3 = none ∧
      mapReady fresh 0 0 3 = true ∧ faceCount fresh < cfgFacesMax fresh ∧
      (allocGroup 0 .face 1 0 (newTier (lookUp 0 vol [3] fresh) 3) (lookUp 0 vol [3] fresh)).1 = some 0 ∧
      (getGroup (allocGroup 0 .face 1 0 (newTier (lookUp 0 vol [3] fresh) 3) (lookUp 0 vol [3] fresh)).2 0).isSome = true) ∧
    ((dirtySlotOf logged 0 volLog 0 3).isSome = true ∧ (getExt logged 0 0).state ≠ .merging ∧
      (pmEntry logged 0 0 3).isSome = true ∧ mapReady logged 0 0 3 = true ∧
      ((dirtySlotOf logged 0 volLog 0 3).map (fun e => (e.2.atomic, missingBlocks logged 0 0 3 volLog e.2))) =
        some (false, false) ∧
      1 + promised logged 0 volLog ≤ logLeft logged 0 0 ∧ (packOf logged 0).pages.length < packMax volLog.k) ∧
    ((∀ s ∈ [fullBench, faced [3, 5]], (getExt s 0 0).state = .face ∧ (getExt s 0 0).group = some 0 ∧
        getGroup s 0 = some (groupOf .face 0 0 0) ∧ nextBench s 0 = 0 ∧ groupWritable s (groupOf .face 0 0 0) = true ∧
        faceFree s 0 (benchSlots s 0 vol 0 0) = true) ∧
      benchWhole fullBench 0 vol 0 0 = true ∧ faceWaiting (faced [3, 5]) 0 vol 0 ≠ []) ∧
    ((getLog packed 0).map (·.group) = some 1 ∧ (getGroup packed 1).isSome = true ∧
      packSlots packed 0 volLog (packOf packed 0).pages ≠ [] ∧ nextBench packed 1 < benchesPerGroup ∧
      (getGroup packed 1).map (groupWritable packed) = some true) := by
  refine ⟨?_, ?_, ?_, ?_, ?_, ?_⟩
  all_goals decide +kernel

/-- A face with a bench in flight that the drives hold. -/
def written : State :=
  let s := go (.faceBenchWrite 0 0) fullBench
  { s with qm := { s.qm with dispatchers := [] } }

/-- A face with a member on a failed drive. -/
def broken : State :=
  let s := faced []
  { s with drv := { s.drv with
      drives := [(0, drive 0), (1, { drive 1 with state := .failed }), (2, drive 2), (3, drive 3)] } }

/-- A record that no journal holds yet. -/
def unwritten : State := { A with jr := { A.jr with last := 5, ring := [⟨5, .volumeDelete 3⟩] } }

theorem witness_BenchesReachMedia :
    (dataRuns written = true ∧ written.etu.inflight.length = 1 ∧
      written.etu.inflight.map (fun f => (f.kind == .face, f.group, f.bench, f.volume, (unitsOf written f).length)) =
        [(true, 0, 0, 0, 0)] ∧ written.ce.cmds = [] ∧
      benchWritten written 0 0 = true ∧ getVol written 0 = some vol ∧
      getGroup written 0 = some (groupOf .face 0 0 0)) ∧
    (dataRuns broken = true ∧ getGroup broken 0 = some (groupOf .face 0 0 0) ∧
      (groupOf .face 0 0 0).members[1]? = some ⟨100000, .ok⟩ ∧ groupWritten broken (groupOf .face 0 0 0) = true ∧
      chunkUp broken 100000 = false ∧ pickReplacement true broken 0 (groupOf .face 0 0 0) 1 = some 300000) ∧
    (dataRuns unwritten = true ∧ vaultHeld unwritten = false ∧ unwritten.vault.failed = false ∧ unjournalled unwritten ≠ [] ∧
      recBytes unwritten.jr.vault + recBytes (unjournalled unwritten) ≤ journalPages * diePage) := by
  refine ⟨?_, ?_, ?_⟩
  all_goals decide +kernel

/-- A closed extent queued for a merge. -/
def toMerge : State :=
  let s := extents .closed .closed 2048 []
  { s with tabs := { s.tabs with
      exts := [(0, { state := .closed, queued := some 1, group := some 0, pmd := none, logPages := 0, touched := 0 })] } }

/-- Its merge in work. -/
def merging : State := go (.mergeStart 0 0) toMerge

/-- A bench of its target in flight, which the drives hold. -/
def targetFlight : Inflight :=
  { kind := .target, volume := 0, extent := 0, logIx := 0, group := 1, bench := 5, pages := [], onMedia := false, data := [] }

/-- The merge with that bench. -/
def targetBench : State :=
  { merging with etu := { merging.etu with
      inflight := [targetFlight], merges := merging.etu.merges.map (fun m => { m with progress := 5 }) } }

/-- The merge with its target whole. -/
def mergeEnd : State :=
  { merging with etu := { merging.etu with
      merges := merging.etu.merges.map (fun m => { m with asked := true, progress := 2048 }) } }

theorem witness_Merges :
    (getVol toMerge 0 = some vol ∧ serving toMerge = true ∧ (getExt toMerge 0 0).queued = some 1 ∧
      toMerge.etu.merges.length < cfgMergesMax toMerge ∧ (getExt toMerge 0 0).state = .closed ∧
      mergeSourceOk toMerge 0 0 = true ∧ cipherReady toMerge 0 vol = true ∧ vol.state ≠ .offline ∧
      keySpent toMerge vol = false ∧ extInFlight toMerge 0 0 = false ∧ extUncommitted toMerge 0 vol 0 = false ∧
      findMerge toMerge 0 0 = none ∧ extIndex vol 0 = some 0 ∧ (allocGroup 0 .target 3 0 (mergeTier toMerge 0 0 1) toMerge).1 = some 1 ∧
      (getGroup (allocGroup 0 .target 3 0 (mergeTier toMerge 0 0 1) toMerge).2 1).isSome = true) ∧
    (getVol targetBench 0 = some vol ∧ dataRuns targetBench = true ∧ targetBench.etu.inflight = [targetFlight] ∧
      targetFlight.kind = .target ∧ benchWritten targetBench 1 5 = true ∧ (findMerge targetBench 0 0).isSome = true) ∧
    (getVol mergeEnd 0 = some vol ∧ serving mergeEnd = true ∧
      (findMerge mergeEnd 0 0).map (mergeComplete mergeEnd) = some true ∧ extIndex vol 0 = some 0) ∧
    (getVol merging 0 = some vol ∧ (findMerge merging 0 0).isSome = true) := by
  refine ⟨?_, ?_, ?_, ?_⟩
  all_goals decide +kernel

/-- Records wait for the drives, extents are dirty, and a checkpoint is asked for. -/
def toSeal (failed : Bool) : State :=
  { A with
    jr := { A.jr with last := 9, toDrives := [⟨9, .volumeDelete 7⟩] }
    dur := { A.dur with exposure := [4], requested := true }
    cache := { A.cache with slots := [(3, dirtyPage 3)] }
    vault := { A.vault with failed := failed } }

theorem witness_CheckpointsAndSegments :
    Carries (.rxmp 1) 1 0x3021 A ∧
    ((toSeal false).dur.taking = none ∧ sealNeeded (toSeal true) = true) ∧
    (ckptRuns (toSeal false) = true ∧ (toSeal false).dur.requested = true ∧ inService (toSeal false) ≠ [] ∧
      ckptDrives (toSeal false) 0 ≠ []) ∧
    (∀ f ∈ [true, false], serving (toSeal f) = true ∧ segmentDrives (toSeal f) ≠ [] ∧ (toSeal f).jr.toDrives ≠ []) ∧
    (toSeal true).vault.failed = true ∧
    decide ((toSeal false).dur.ckpt0.id ≤ (toSeal false).dur.ckpt1.id) = true := by
  refine ⟨A_carries _ _ (by decide) (by decide +kernel), ?_, ?_, ?_, ?_, ?_⟩
  all_goals decide +kernel

/-- A loss report for epoch 5. -/
def report : LossReport :=
  { epoch := 5, source := 4, cause := 1, horizonOpen := false, horizon := 0, entries := [], accepted := false }

/-- The inputs of a scan that finds the foreign drive. -/
def scanIn : ScanInputs := { drives := [foreignInfo], newerOk := true, olderOk := true, replacements := 0, highestKgen := 0 }

/-- The array scanned. -/
def scanned : State := go (.importScan (.rxmp 1) scanIn) (importing true)

/-- A module whose array went on without it. -/
def stale : State := { A with dur := { A.dur with path := .stale } }

/-- The module with that report. -/
def reported : State := { svc with dur := { svc.dur with report := some report } }

theorem witness_LossAndImport :
    (∀ s ∈ [reported, svc],
      dictRuns s = true ∧ chanSession s (.rxmp 1) = some sess1 ∧ available s 0x3024 = true) ∧
    (∀ s ∈ [importing true, importing false, scanned, stale, A],
      dictRuns s = true ∧ chanSession s (.rxmp 1) = some sess1 ∧ available s 0x3025 = true) ∧
    ((importing true).dur.mediaArray = foreignLabel.arrayId ∧ (importing true).dur.epoch = 4 ∧
      (importing true).dur.record.images ≠ [] ∧ scanIn.newerOk = true) ∧
    ((importing true).dur.importState = .idle ∧ (importing true).tabs.vols = [] ∧
      ((importing true).lock.metaPending.orElse (fun _ => (importing true).lock.metaKey)) = some foreignKey ∧
      (scanLabels (importing true) scanIn.drives).map (·.arrayId) = [foreignKey.arrayId]) ∧
    ((importing false).dur.importState = .idle ∧ (importing false).lock.metaPending = none ∧
      (importing false).lock.metaKey = none) ∧
    (scanned.dur.scan.isSome = true ∧ scanned.dur.importState = .scanned ∧ A.dur.scan = none) ∧
    (stale.dur.path = .stale ∧ stale.dur.importState = .idle ∧ A.dur.path ≠ .stale) := by
  refine ⟨?_, ?_, ?_, ?_, ?_, ?_, ?_⟩
  all_goals decide +kernel

/-! ### Witnesses: scheduling, settings, maps, benches, rebuilds -/

/-- An array of one spoiled chunk, short of free ones. -/
def short : State :=
  { A with tabs := { A.tabs with
      spans := [(0, ⟨0, 10, false⟩)]
      chunks := [(0, { state := .spoil, hdrPending := false, relocate := false, dense := false, drive := 0
                       group := none, member := 0, kind := 1, volume := 0, allocCount := 1, errTally := 0
                       allocTime := 0, spoilJseq := 0 })] } }

/-- A queued read with a finish tag. -/
def queuedRead (id fin : Nat) : QueuedOp := { op := ⟨id, .readSett 0 0 0, false, false⟩, flow := .host 0 0, cost := 3, finish := fin }

/-- Drive 0 with two reads queued. -/
def queued : State :=
  { A with
    qm := { A.qm with dispatchers := [(0, { vtime := 0, last := [], queue := [queuedRead 1 3, queuedRead 2 2], used := [] })] }
    drv := { A.drv with nextOp := 5 } }

/-- A queued operation of a background kind. -/
def queuedScrub : QueuedOp := { op := ⟨2, .readSett 0 1 0, false, false⟩, flow := .background 2, cost := 3, finish := 9 }

/-- It waits beside foreground work. -/
def shareQueue : Dispatcher := { vtime := 0, last := [], queue := [queuedRead 1 3, queuedScrub], used := [] }

/-- The array with a share for every kind. -/
def sharing : State := { A with qm := { A.qm with shares := [100, 100, 100, 100, 100] } }

theorem witness_SharesAndDispatch :
    (serving short = true ∧ freeChunks short < cfgMergesMax short * 28 ∧ 0 < spoilChunks short ∧
      short.qm.lastLowCkpt = none) ∧
    (serving A = true ∧ dataRuns A = true) ∧
    (getDrive queued 0 = some (drive 0) ∧ driveUp queued 0 = true ∧ (drive 0).rcv.quiesced = false ∧
      groupHeld queued ((drive 0).path.getD 0 0).toNat = false ∧ (drive 0).ops.length < cfgDriveQdepth queued (drive 0).proto ∧
      allOps queued < 131072 ∧
      nextQueued queued (getDispatcher queued 0) = some (queuedRead 2 2)) ∧
    ((∀ x ∈ (getDispatcher queued 0).queue, x.flow.isMetadata = false ∧ x.flow.isBackground = false) ∧
      ∀ x ∈ (getDispatcher queued 0).queue, x ≠ queuedRead 2 2 → (queuedRead 2 2).finish < x.finish) ∧
    (queuedScrub ∈ shareQueue.queue ∧ (∀ x ∈ shareQueue.queue, x.flow.isMetadata = false) ∧ 2 ≤ shareQueue.queue.length ∧
      shareLeft sharing shareQueue queuedScrub = true ∧
      (shareQueue.queue.erase queuedScrub).all (fun x => x.flow.isForeground) = true) := by
  refine ⟨?_, ?_, ?_, ?_, ?_⟩
  all_goals decide +kernel

/-- A curve of two points. -/
def curveBlock : Bytes := ([0, 2, 0, 0] ++ leBytes 4 0 ++ leBytes 4 5 ++ leBytes 4 100 ++ leBytes 4 9) ++ zeros 44

/-- The default recovery table of class 0, as bytes. -/
def tableBlock : Bytes := recTableBytes 0 (defaultTable 0)

/-- The array with drive `d` selected. -/
def selected (d : Nat) : State :=
  { A with dict := { A.dict with selects := [(5 * 2 ^ 24 + 0x3802 * 256 + 1, .num d)] } }

theorem witness_DriveSettings :
    (∀ i ∈ [0x380A, 0x3803, 0x4800, 0x4810], available A i = true ∧ available (selected 9) i = true) ∧
    (dictRuns A = true ∧ chanSession A (.rxmp 1) = some sess1 ∧ dictRuns (selected 9) = true ∧
      chanSession (selected 9) (.rxmp 1) = some sess1) ∧
    (curveBlock.length = 64 ∧ curveOk 0 curveBlock = true ∧ (zeros 64).length = 64 ∧ curveOk 0 (zeros 64) = false) ∧
    (selNum (selected 9) (.rxmp 1) 0x3802 1 = 9 ∧ getDrive (selected 9) 9 = none ∧
      selNum A (.rxmp 1) 0x3802 1 = 0 ∧ getDrive A 0 ≠ none) ∧
    (groupCfgOk 3 = false ∧ groupCfgOk 16 = true ∧ (∀ e ∈ A.drv.drives, (e.2.path.getD 0 0).toNat ≠ 24 - 1) ∧
      ∃ e ∈ A.drv.drives, (e.2.path.getD 0 0).toNat = 1 - 1 ∧ e.2.state = .online) ∧
    (serving A = true ∧ A.drv.groupState.length = 24) ∧
    (tableBlock.length = 2048 ∧ recTableOk 0 tableBlock = true ∧ recTableOk 1 tableBlock = false) := by
  refine ⟨?_, ?_, ?_, ?_, ?_, ?_, ?_⟩
  all_goals decide +kernel

/-- A page of the map in a pool slot, or missing. -/
def paged (res fetch dirty : Bool) : State :=
  let s := packPage 0 0 3 fullMask 3 { logged with cache := A.cache }
  { s with qm := { s.qm with residency := [(0, { slot := 0, resident := res, dirty := dirty, fetching := fetch
                                                 pinned := false, used := false, oldest := 0 })] } }

/-- A closed extent with a member on a drive that has failed. -/
def failed1 : State :=
  let s := extents .closed .closed 2048 []
  { s with drv := { s.drv with
      drives := [(0, drive 0), (1, { drive 1 with state := .failed }), (2, drive 2), (3, drive 3)] } }

/-- Its group queued. -/
def toRebuild : State := go (.driveFailedQueue 1) failed1

/-- Its group, with the member missing. -/
def missing1 : Group := { groupOf .closed 0 0 2048 with members := [⟨0, .ok⟩, ⟨100000, .missing⟩, ⟨200000, .ok⟩] }

theorem witness_MapPagesAndRebuilds :
    (dataRuns (paged false false false) = true ∧ (Tab.at? 0 (paged false false false).tabs.mapPages).isSome = true ∧
      (getRes (paged false false false) 0).resident = false ∧ (getRes (paged false false false) 0).fetching = false ∧
      (takePool (paged false false false)).isSome = true) ∧
    ((getRes (paged false true false) 0).fetching = true ∧ vaultHeld (paged false true false) = false) ∧
    (dataRuns (paged true false true) = true ∧ storeRuns (paged true false true) = true ∧
      (getRes (paged true false true) 0).resident = true ∧ (getRes (paged true false true) 0).dirty = true) ∧
    ((getDrive failed1 1).map (·.state) = some .failed ∧ getGroup failed1 0 = some (groupOf .closed 0 0 2048) ∧
      (groupOf .closed 0 0 2048).members[1]? = some ⟨100000, .ok⟩ ∧ chunkDrive failed1 100000 = some 1) ∧
    (serving toRebuild = true ∧ nextRebuild toRebuild = some 0 ∧
      (rebuilding toRebuild).length < cfgRebuildsMax toRebuild ∧ (getGroup toRebuild 0).isSome = true ∧
      (getGroup toRebuild 0).map missingMembers = some [1] ∧
      (getGroup toRebuild 0).map (relocateMembers toRebuild) = some [] ∧
      ((getGroup toRebuild 0).bind (fun y => pickReplacement true toRebuild 0 y 1)).isSome = true) := by
  refine ⟨?_, ?_, ?_, ?_, ?_⟩
  all_goals decide +kernel

/-- The group of the mirror. -/
def mirrorGroup (members : List MState) : Group :=
  { groupOf .closed 0 0 1 with k := 1, m := 2, members := (members.zip [0, 100000, 200000]).map (fun e => ⟨e.2, e.1⟩) }

/-- A mirror all of whose members are lost, and a READ that waits for its bench. -/
def lost : State :=
  let s := mirrored .closed 1 [.missing, .missing, .missing]
  working (cmdOf (entryOf 1 0 0 1 5 4096) .reading) { s with
    cooper := { s.cooper with reads := [readOf true false (.host 0 7)] } }

/-- A mirror with one member lost and a bench read again. -/
def twoOnly : State :=
  let s := mirrored .closed 1 [.ok, .ok, .missing]
  { s with cooper := { s.cooper with reads := [readOf true true .scrub] } }

/-- What a bench read comes to: 0 good and compared, 1 good, 2 more, 3 mismatch, 4 unrecoverable. -/
def cameTo (s : State) (grp : Group) (r : BenchRead) (setts : List SettRead) : Nat :=
  match judge s 0 grp r setts with
  | .good _ _ _ c => if c then 0 else 1
  | .more => 2
  | .mismatch => 3
  | .unrecoverable => 4

/-- A bench read whole comes to what its comparisons come to. -/
theorem cameTo_whole (s : State) (grp : Group) (r : BenchRead) (setts : List SettRead) (ok : Tab Bytes)
    (hw : r.whole = true)
    (he : ¬grp.m < ((List.range grp.size).filter (settErased s 0 grp r.bench (dedup (r.failed ++ failedSetts setts)))).length)
    (ho : settsRead s 0 grp r.bench (dedup (r.failed ++ failedSetts setts)) setts = ok) (hk : grp.k < ok.length) :
    cameTo s grp r setts = if comparesEqual grp.k ok settBytes then 0 else 3 := by
  subst ho
  have h : decide (grp.k < (settsRead s 0 grp r.bench (dedup (r.failed ++ failedSetts setts)) setts).length) = true :=
    decide_eq_true hk
  unfold cameTo judge
  simp only [he, hw, if_neg (Nat.lt_asymm hk), Bool.not_true, Bool.false_and]
  cases comparesEqual grp.k (settsRead s 0 grp r.bench (dedup (r.failed ++ failedSetts setts)) setts) settBytes <;>
    simp [hk]

/-- Three copies that agree, and three of which one differs. -/
theorem copies_agree (n : Nat) (h : 0 < n) : comparesEqual 1 [(0, [1]), (1, [1]), (2, [1])] n = true ∧
    comparesEqual 1 [(0, [1]), (1, [1]), (2, [2])] n = false ∧
    comparesEqual 1 [(0, [1]), (1, [2])] n = false ∧
    locate 1 [(0, [1]), (1, [1]), (2, [2])] n = some 2 := by
  have e (a b : Byte) := fit_single n a b h
  simp [comparesEqual_mirror, e, locate, -beq_iff_eq, -BitVec.reduceEq]

/-- A mirror that is encrypted, its key absent. -/
def locked : State :=
  let s := reading (readOf true false .scrub)
  { s with tabs := { s.tabs with vols := [(0, { mirror with vcflags := 1, keyId := 9 })] } }

theorem witness_BenchOutcomes :
    (∀ s ∈ [reading (readOf true false .scrub), reading (readOf true true .scrub)], dataRuns s = true ∧
      getGroup s 0 = some (mirrorGroup [.ok, .ok, .ok]) ∧ groupReady s (mirrorGroup [.ok, .ok, .ok]) = true ∧
      (∀ l ∈ [threeSetts 1 1 1, threeSetts 1 1 2], openSetts s (mirrorGroup [.ok, .ok, .ok]) 0 l = l)) ∧
    (dataRuns locked = true ∧ getGroup locked 0 = some (mirrorGroup [.ok, .ok, .ok]) ∧
      groupReady locked (mirrorGroup [.ok, .ok, .ok]) = false) ∧
    ((reading (readOf true false .scrub)).cooper.reads.find? (fun x => x.group == 0 && x.bench == 0 && !x.again) =
        some (readOf true false .scrub) ∧
      cameTo (reading (readOf true false .scrub)) (mirrorGroup [.ok, .ok, .ok]) (readOf true false .scrub)
        (threeSetts 1 1 1) = 0 ∧
      cameTo (reading (readOf true false .scrub)) (mirrorGroup [.ok, .ok, .ok]) (readOf true false .scrub)
        (threeSetts 1 1 2) = 3) ∧
    (dataRuns lost = true ∧ getGroup lost 0 = some (mirrorGroup [.missing, .missing, .missing]) ∧
      lost.cooper.reads.find? (fun x => x.group == 0 && x.bench == 0 && !x.again) = some (readOf true false (.host 0 7)) ∧
      cameTo lost (mirrorGroup [.missing, .missing, .missing]) (readOf true false (.host 0 7)) [] = 4 ∧
      Waiting 0 7 (cmdOf (entryOf 1 0 0 1 5 4096) .reading) (outOf (entryOf 1 0 0 1 5 4096)) lost) ∧
    ((reading (readOf true true .scrub)).cooper.reads.find? (fun x => x.group == 0 && x.bench == 0 && x.again) =
        some (readOf true true .scrub) ∧
      cameTo (reading (readOf true true .scrub)) (mirrorGroup [.ok, .ok, .ok]) (readOf true true .scrub)
        (threeSetts 1 1 1) = 0 ∧
      cameTo (reading (readOf true true .scrub)) (mirrorGroup [.ok, .ok, .ok]) (readOf true true .scrub)
        (threeSetts 1 1 2) = 3 ∧
      ((List.range 3).filter (settErased (reading (readOf true true .scrub)) 0 (mirrorGroup [.ok, .ok, .ok]) 0 [])) = [] ∧
      locate 1 (settsRead (reading (readOf true true .scrub)) 0 (mirrorGroup [.ok, .ok, .ok]) 0 [] (threeSetts 1 1 2))
        settBytes = some 2 ∧
      (reading (readOf true true .scrub)).tabs.repair.length < 65536) ∧
    (dataRuns twoOnly = true ∧ getGroup twoOnly 0 = some (mirrorGroup [.ok, .ok, .missing]) ∧
      cameTo twoOnly (mirrorGroup [.ok, .ok, .missing]) (readOf true true .scrub) ((threeSetts 1 2 0).take 2) = 3 ∧
      ((List.range 3).filter (settErased twoOnly 0 (mirrorGroup [.ok, .ok, .missing]) 0 [])).length = 1 ∧
      twoOnly.tabs.poison.length < 65536) := by
  refine ⟨?_, ?_, ⟨?_, ?_, ?_⟩, ⟨?_, ?_, ?_, ?_, waits _ _ _ rfl⟩, ⟨?_, ?_, ?_, ?_, ?_, ?_⟩, ⟨?_, ?_, ?_, ?_, ?_⟩⟩
  case refine_4 | refine_11 =>
    rw [cameTo_whole _ _ _ _ [(0, [1]), (1, [1]), (2, [1])] rfl (by decide +kernel) (by decide +kernel) (by decide)]
    exact if_pos (copies_agree _ (by decide)).1
  case refine_5 | refine_12 =>
    rw [cameTo_whole _ _ _ _ [(0, [1]), (1, [1]), (2, [2])] rfl (by decide +kernel) (by decide +kernel) (by decide)]
    exact if_neg (by rw [show (mirrorGroup [.ok, .ok, .ok]).k = 1 from rfl, (copies_agree _ (by decide)).2.1]; decide)
  case refine_18 =>
    rw [cameTo_whole _ _ _ _ [(0, [1]), (1, [2])] rfl (by decide +kernel) (by decide +kernel) (by decide)]
    exact if_neg (by rw [show (mirrorGroup [.ok, .ok, .missing]).k = 1 from rfl, (copies_agree _ (by decide)).2.2.1]; decide)
  case refine_14 =>
    rw [show settsRead (reading (readOf true true .scrub)) 0 (mirrorGroup [.ok, .ok, .ok]) 0 [] (threeSetts 1 1 2) =
      [(0, [1]), (1, [1]), (2, [2])] by decide +kernel]
    exact (copies_agree _ (by decide)).2.2.2
  all_goals decide +kernel

/-- A mirror whose member 1 is being rebuilt, or copied from an old chunk. -/
def rebuildOf (copy : Bool) (progress : Nat) (members : List MState) : State :=
  let s := mirrored .closed 1 members
  { s with
    tabs := { s.tabs with chunks := s.tabs.chunks ++ [(300000, {
      state := .allocated, hdrPending := false, relocate := true, dense := false, drive := 3, group := some 0
      member := 1, kind := 1, volume := 0, allocCount := 1, errTally := 0, allocTime := 0, spoilJseq := 0 })] }
    cooper := { s.cooper with rebuilds := [
      { group := 0, member := 1, oldChunk := 300000, cursor := 1, progress := progress, copy := copy }] } }

/-- A mirror that is to be scrubbed first. -/
def toScrub : State :=
  let s := mirrored .closed 1 [.ok, .ok, .ok]
  { s with cooper := { s.cooper with scrubFirst := [0] } }

/-- Setts 0 and 2 of the bench. -/
def two : List SettRead := [⟨0, .good [1]⟩, ⟨2, .good [1]⟩]

/-- A mirror with a missing member whose chunk is there again. -/
def oneBack : State := mirrored .closed 1 [.ok, .missing, .ok]

/-- A relocation of more benches. -/
def copying : State :=
  let s := rebuildOf true 0 [.ok, .rebuilding, .ok]
  { s with cooper := { s.cooper with rebuilds := s.cooper.rebuilds.map (fun q => { q with cursor := 5 }) } }

theorem witness_RebuildAndScrub :
    (∀ m ∈ [[MState.ok, .rebuilding, .ok], [.missing, .rebuilding, .missing]],
      serving (rebuildOf false 0 m) = true ∧ getGroup (rebuildOf false 0 m) 0 = some (mirrorGroup m) ∧
      getVol (rebuildOf false 0 m) 0 = some mirror ∧ cipherReady (rebuildOf false 0 m) 0 mirror = true ∧
      0 ∈ rebuilding (rebuildOf false 0 m) ∧ rebuildsAt (rebuildOf false 0 m) 0 0 ≠ [] ∧ failedSetts two = [] ∧
      (rebuildOf false 0 m).cooper.reads = []) ∧
    (cfgRebuildVerify (rebuildOf false 0 [.ok, .rebuilding, .ok]) = 0 ∧
      1 ≤ (settsRead (rebuildOf false 0 [.ok, .rebuilding, .ok]) 0 (mirrorGroup [.ok, .rebuilding, .ok]) 0 [] two).length ∧
      ∀ q ∈ rebuildsAt (rebuildOf false 0 [.ok, .rebuilding, .ok]) 0 0,
        (((mirrorGroup [.ok, .rebuilding, .ok]).chunk? q.member).bind
          (chunkDrive (rebuildOf false 0 [.ok, .rebuilding, .ok]))).isSome = true) ∧
    ((settsRead (rebuildOf false 0 [.missing, .rebuilding, .missing]) 0
        (mirrorGroup [.missing, .rebuilding, .missing]) 0 [] []).length < 1 ∧
      presentMembers (rebuildOf false 0 [.missing, .rebuilding, .missing]) 0
        (mirrorGroup [.missing, .rebuilding, .missing]) 0 = []) ∧
    ((findRebuild (rebuildOf false 1 [.ok, .rebuilding, .ok]) 0 1).isSome = true ∧
      (mirrorGroup [.ok, .rebuilding, .ok]).members[1]? = some ⟨100000, .rebuilding⟩ ∧
      (findRebuild (rebuildOf false 1 [.ok, .rebuilding, .ok]) 0 1).map
        (fun r => decide (r.cursor ≤ rebuiltTo (rebuildOf false 1 [.ok, .rebuilding, .ok]) r)) = some true) ∧
    ((findRebuild (rebuildOf true 0 [.ok, .rebuilding, .ok]) 0 1).map (·.copy) = some true ∧
      (getChunk (rebuildOf true 0 [.ok, .rebuilding, .ok]) 100000).hdrPending = false ∧
      0 ∈ rebuilding (rebuildOf true 0 [.ok, .rebuilding, .ok]) ∧
      (getChunk (rebuildOf true 0 [.ok, .rebuilding, .ok]) 300000).state = .allocated ∧
      (getChunk (rebuildOf true 0 [.ok, .rebuilding, .ok]) 300000).relocate = true) ∧
    ((findRebuild (rebuildOf true 1 [.ok, .rebuilding, .ok]) 0 1).map (fun q => decide (q.cursor ≤ q.progress ∧
        q.cursor ≤ rebuiltTo (rebuildOf true 1 [.ok, .rebuilding, .ok]) q)) = some true ∧
      (findRebuild copying 0 1).map (fun q => (q.copy, decide (q.progress + 1 < q.cursor), q.decode)) =
        some (true, true, false) ∧
      repairEntry copying 0 0 1 = false ∧ (chunkDrive copying 100000).isSome = true ∧
      SettResult.bytes (.recovered [1]) = some [1]) ∧
    (serving oneBack = true ∧ (mirrorGroup [.ok, .missing, .ok]).holds = true ∧ chunkUp oneBack 100000 = true ∧
      (0, 1) ∉ oneBack.cooper.noReturn) ∧
    (serving toScrub = true ∧ nextScrub toScrub = some 0 ∧ toScrub.cooper.scrubGroup = none ∧
      toScrub.cooper.scrubBad = 0 ∧ scrubWhole toScrub 0 (mirrorGroup [.ok, .ok, .ok]) [threeSetts 1 1 1] = true ∧
      failedSetts (threeSetts 1 1 1) = [] ∧
      openSetts toScrub (mirrorGroup [.ok, .ok, .ok]) 0 (threeSetts 1 1 1) = threeSetts 1 1 1 ∧
      cameTo toScrub (mirrorGroup [.ok, .ok, .ok]) ⟨0, 0, true, [], .scrub, false, []⟩ (threeSetts 1 1 1) = 0) := by
  refine ⟨?_, ?_, ?_, ?_, ?_, ?_, ?_, ?_, ?_, ?_, ?_, ?_, ?_, ?_, ?_⟩
  case refine_15 =>
    rw [cameTo_whole _ _ _ _ [(0, [1]), (1, [1]), (2, [1])] rfl (by decide +kernel) (by decide +kernel) (by decide)]
    exact if_pos (copies_agree _ (by decide)).1
  all_goals decide +kernel

/-! ### Witnesses: drives -/

/-- A device that does not answer. -/
def silentInfo : DriveInfo := { blankInfo with answered := false, path := [10] }

/-- The array with that device found. -/
def silenced : State := go (.driveFound silentInfo) A

/-- The array with lane group 0 configured. -/
def grouped (n : Nat) : State := { A with dict := { A.dict with objs := A.dict.objs ++ [(objKey 0 0x4800 1, .num n)] } }

/-- The drive of those numbered `n`, as it stands on the array. -/
def aBlank : Drive := { drive 0 with state := .blank }

/-- A device whose label is of the array and newer than that of drive 0. -/
def newerInfo : DriveInfo :=
  { foreignInfo with
    guid := fit 16 [55], path := [8]
    label := some { foreignLabel with
      arrayId := fit 16 [1], epoch := 1, driveNo := 0, driveGuid := fit 16 [55], ckptId := 9 } }

/-- The array in START, with drive 0 by its label. -/
def outdone : State :=
  modPw (fun p => { p with state := .start }) (withDrive { drive 0 with label := some { foreignLabel with
    arrayId := fit 16 [1], epoch := 1, driveNo := 0, driveGuid := fit 16 [1], ckptId := 3 } })

theorem witness_DrivesFound :
    (enumerating A = true ∧ groupHeld A 9 = false ∧ silentOn A blankInfo.path = none ∧
      A.drv.drives.find? (fun e => blankInfo.answered && e.2.guid == fit 16 blankInfo.guid &&
        !decide (e.1 ∈ A.drv.silent)) = none ∧ outranked A blankInfo = none ∧ (numberFor A blankInfo).isSome = true) ∧
    (enumerating outdone = true ∧ groupHeld outdone 8 = false ∧ silentOn outdone newerInfo.path = none ∧
      newerInfo.answered = true ∧
      outdone.drv.drives.find? (fun e => e.2.guid == fit 16 newerInfo.guid && !decide (e.1 ∈ outdone.drv.silent)) = none ∧
      (outranked outdone newerInfo).map (·.1) = some 0) ∧
    (enumerating silenced = true ∧ groupHeld silenced 10 = false ∧
      (∃ d ∈ silenced.drv.silent, outranked (dropDrive d silenced) { silentInfo with answered := true } = none ∧
        (numberFor (dropDrive d silenced) { silentInfo with answered := true }).isSome = true)) ∧
    (enumerating (withDrive aBlank) = true ∧ getDrive (withDrive aBlank) 0 = some aBlank ∧
      heldChunks (withDrive aBlank) 0 = 0 ∧ getDrive A 0 = some (drive 0) ∧ (drive 0).state = .online) ∧
    (∀ n ∈ [1, 2], enumerating (grouped n) = true ∧ groupHeld (grouped n) 0 = false ∧
      bitsOf (cfgGroupCfg (grouped n) 0) 1 0 = n) := by
  refine ⟨?_, ?_, ?_, ?_, ?_⟩
  all_goals decide +kernel

/-- The array with a blank drive 0 that has no span yet, of an array or of none. -/
def toAdopt (array : Bool) : State :=
  let s := withDrive aBlank
  { s with
    tabs := { s.tabs with spans := s.tabs.spans.filter (fun e => e.1 != 0) }
    dur := if array then s.dur else Durability.reset }

/-- Drive 0 in another state, with the reason it left. -/
def leaving (st : DState) (why : DWhy) : Drive := { drive 0 with state := st, why := why }

/-- A face whose chunk 0 has a header on its way to drive 0. -/
def headerDue : State :=
  let s := faced []
  { s with tabs := { s.tabs with
      chunks := s.tabs.chunks.map (fun e => if e.1 = 0 then (0, { e.2 with hdrPending := true }) else e) } }

/-- Drive 0 with an operation outstanding, on some array. -/
def opSent (what : OpWhat) (s : State) : State :=
  { s with drv := { s.drv with nextOp := 5, drives := Tab.put 0 { drive 0 with ops := [opened what] } s.drv.drives } }

/-- A copy of that header is on its way. -/
def headerSent (b : Bool) : State := opSent (.header 0 b []) headerDue

/-- A label of drive 0. -/
def aLabel : Label :=
  { drive := 0, seq := 3, arrayId := [], guid := [], epoch := 1, base := 0, count := 1, domain := 0, driveCount := 1
    ckpt0 := Ckpt.empty, ckpt1 := Ckpt.empty, iv := [] }

/-- A copy of a label is on its way. -/
def labelSent (b : Bool) : State := opSent (.label b aLabel) (faced [])

/-- What `Quiet` asks, evaluated. -/
def isQuiet (s : State) (d : Nat) : Bool :=
  s.dur.taking.isNone && s.drv.drives.all (fun e => !e.2.labelDue && (headersOwed s e.1).isEmpty) &&
    (getDrive s d).all (fun v => v.state != .adopting)

theorem isQuiet_sound (s : State) (d : Nat) (h : isQuiet s d = true) : Quiet s d := by
  simp only [isQuiet, Bool.and_eq_true, Option.isNone_iff_eq_none, List.all_eq_true, Bool.not_eq_true',
    List.isEmpty_iff, Option.all_eq_true, bne_iff_ne] at h
  exact ⟨h.1.1, fun e he => (h.1.2 e he).1, fun e he => (h.1.2 e he).2, fun v hv => h.2 v hv⟩

theorem witness_AdoptionAndRemoval :
    (∀ a ∈ [true, false], getDrive (toAdopt a) 0 = some aBlank ∧ dictRuns (toAdopt a) = true ∧
      chanSession (toAdopt a) (.rxmp 1) = some sess1 ∧ available (toAdopt a) 0x4803 = true ∧
      selNum (toAdopt a) (.rxmp 1) 0x3802 1 = 0 ∧ aBlank.present = true ∧
      (spanStart (leaveSpan 0 (toAdopt a)) (chunkCount aBlank.capacity)).isSome = true) ∧
    ((toAdopt false).dur.arrayId = zeros 16 ∧ (toAdopt true).dur.arrayId ≠ zeros 16) ∧
    (∀ d ∈ [leaving .adopting .none, leaving .evacuating .remove, leaving .unreachable .none, aBlank, drive 0],
      getDrive (withDrive d) 0 = some d ∧ dictRuns (withDrive d) = true ∧
      chanSession (withDrive d) (.rxmp 1) = some sess1 ∧ available (withDrive d) 0x4803 = true ∧
      selNum (withDrive d) (.rxmp 1) 0x3802 1 = 0) ∧
    (driveUp (withDrive (drive 0)) 0 = true ∧ driveUp (withDrive aBlank) 0 = false ∧
      heldChunks (withDrive (leaving .evacuating .remove)) 0 = 0 ∧ Tab.at? 0 (withDrive (drive 0)).tabs.spans =
        some ⟨0, 100000, false⟩) ∧
    (∀ b ∈ [true, false], getDrive (headerSent b) 0 = some { drive 0 with ops := [opened (.header 0 b [])] } ∧
      liveOp (headerSent b) 0 4 = some (opened (.header 0 b [])) ∧ (getChunk (headerSent b) 0).hdrPending = true ∧
      (getChunk (headerSent b) 0).state = .allocated ∧ (headerSent b).etu.merges = [] ∧
      (headerSent b).dur.taking = none) ∧
    (∀ b ∈ [true, false], liveOp (labelSent b) 0 4 = some (opened (.label b aLabel)) ∧ isQuiet (labelSent b) 0 = true ∧
      (getDrive (labelSent b) 0).map (·.ops) = some [opened (.label b aLabel)]) := by
  refine ⟨?_, ?_, ?_, ?_, ?_, ?_⟩
  all_goals decide +kernel

/-- Drive 0 with a read outstanding, under a table whose one row leads to state 5 after two timeouts. -/
def counted : State :=
  let s := busyDrive (.readSett 0 0 0) 0
  { s with drv := { s.drv with drives := s.drv.drives.map (fun e => (e.1, { e.2 with
      rcv := { e.2.rcv with timer := 7, counts := [(1, 2)], table := { defaultTable 0 with rows := [⟨0, 1, 1, 2, 5, 1, 50⟩] } } })) } }

/-- Which of the three cases of the recovery engine an event is in: 0 a row taken, 1 a row past its limit, 2 another
past, 3 no row. -/
def rowCase (s : State) (d ev : Nat) : Option Nat :=
  (getDrive s d).map (fun v => match matchRow v.rcv.table v.rcv.state ev with
    | some (n, r) =>
      if r.limit = 0 ∨ Tab.atD v.rcv.counts n 0 + 1 ≤ r.limit then 0
      else if r.past ≠ 0 ∧ matchRow v.rcv.table r.past 11 = none then 1 else 2
    | none => 3)

theorem witness_RecoveryEngine :
    (∀ x ∈ [OpWhat.readSett 0 0 0, .writeSett 0 0 0 [1]], liveOp (busyDrive x 0) 0 4 = some (opened x) ∧
      (getDrive (busyDrive x 0) 0).isSome = true ∧ (opened x).isRead = (x == .readSett 0 0 0)) ∧
    ((getDrive (busyDrive (.readSett 0 0 0) 3) 0).map (fun v => v.rcv.state) = some 3 ∧
      liveOp (busyDrive (.readSett 0 0 0) 3) 0 4 = some (opened (.readSett 0 0 0))) ∧
    (getDrive A 0 = some (drive 0) ∧ (getDrive counted 0).map (fun v => decide (v.rcv.timer ≠ 0)) = some true) ∧
    ([1, 6, 8].map (rowCase (busyDrive (.readSett 0 0 0) 0) 0), [1, 6, 8].map (rowCase counted 0)) =
      ([some 0, some 0, some 3], [some 1, some 3, some 3]) := by
  refine ⟨?_, ?_, ?_, ?_⟩
  all_goals decide +kernel

/-- A health report of drive `n`. -/
def health (n : Nat) (temp : Int) : HealthReport :=
  { drive := n, wear := 300, temp := temp, spareLow := false, overTemp := false, linkFull := true }

/-- The array with four operations given out, none of which is outstanding. -/
def lateDrive : State := { A with drv := { A.drv with nextOp := 5 } }

theorem witness_DriveCommandsAndHealth :
    (liveOp (busyDrive (.readSett 0 0 0) 0) 0 4 = some (opened (.readSett 0 0 0)) ∧
      (getDrive (busyDrive (.readSett 0 0 0) 0) 0).map (fun v => (v.rcv.state, v.ops)) =
        some (0, [opened (.readSett 0 0 0)]) ∧ isQuiet (busyDrive (.readSett 0 0 0) 0) 0 = true ∧ driveUp (busyDrive (.readSett 0 0 0) 0) 0 = true) ∧
    (liveOp (opSent (.segment 3) A) 0 4 = some (opened (.segment 3)) ∧ isQuiet (opSent (.segment 3) A) 0 = true ∧
      (getDrive (opSent (.segment 3) A) 0).map (·.rcv.state) = some 0) ∧
    (liveOp lateDrive 0 4 = none ∧ 4 < lateDrive.drv.nextOp) ∧
    (awake A = true ∧ ([health 0 70, health 2 20, health 9 5].map (·.drive)).Nodup ∧ getDrive A 0 = some (drive 0) ∧
      (drive 0).warnings.any (fun x => x.cause == 3) = false ∧
      ¬((cfgEwTemp A : Int) ≤ 20) ∧ (cfgEwTemp A : Int) ≤ 70) := by
  refine ⟨?_, ?_, ?_, ?_⟩
  all_goals decide +kernel

/-! ### Witnesses: cache, vault -/

/-- The array with two read-cache pages, a slot in a state, and a map page in pool slot 2. -/
def kept (st : WState) (dirty : Bool) : State :=
  { A with
    cache := { A.cache with rc := [⟨0, 1, 0, 0, []⟩, ⟨1, 1, 0, 0, []⟩], slots := [(3, { dirtyPage 3 with state := st })] }
    qm := { A.qm with residency := [(5, { slot := 2, resident := true, dirty := dirty, fetching := false, pinned := false
                                          used := false, oldest := 0 })] } }

/-- The array with a checkpoint whose copies are on their way. -/
def taking : State := go (.checkpoint 0) { A with dur := { A.dur with requested := true } }

theorem witness_MemoryErrors :
    (∀ st ∈ [WState.clean, .dirty, .destaging, .fetching, .staged], ∀ d ∈ [true, false],
      (kept st d).cache.stacksOk.toNat.testBit 3 = true ∧ serving (kept st d) = true ∧
      (kept st d).cache.corrected.length = 4 ∧ (kept st d).cache.uncorrected.length = 4 ∧
      (Tab.at? (3 * 4096 / 4096) (kept st d).cache.slots).map (·.state) = some st ∧
      ((kept st d).qm.residency.find? (fun e => e.2.slot == (2 ^ 32 + 2 * 65536 - 2 ^ 32) / 65536)).map (·.2.dirty) = some d) ∧
    (0 < protectedBytes ∧ protectedBytes < stagingEnd) ∧
    (taking.cache.stacksOk.toNat.testBit 3 = true ∧ serving taking = true ∧
      taking.dur.taking.map (·.labels) = some false) := by
  refine ⟨?_, ?_, ?_⟩
  all_goals decide +kernel

/-- The array with a fill of the map cache outstanding. -/
def filling (drop : Bool) : State :=
  { A with mc := { A.mc with fills := [{ line := 77, way := 3, merged := 0, drop := drop }], busy := drop } }

/-- The value of an operation on the map cache. -/
def mcBlock (scope op : Nat) : Bytes := [BitVec.ofNat 8 op, BitVec.ofNat 8 scope] ++ leBytes 2 1 ++ zeros 12

theorem witness_CacheModes :
    (dictRuns A = true ∧ chanSession A (.rxmp 1) = some sess1 ∧ available A 0x5010 = true ∧ serving A = true) ∧
    (∀ d ∈ [true, false], ((filling d).mc.fills.find? (fun g => g.line == 77)).map (·.drop) = some d ∧
      dictRuns (filling d) = true ∧ chanSession (filling d) (.rxmp 1) = some sess1 ∧ available (filling d) 0x5020 = true ∧
      (filling d).mc.busy = d) ∧
    (∀ scope ∈ [0, 1, 2], ∀ op ∈ [1, 2, 3], (mcBlock scope op).length = 16 ∧ field (mcBlock scope op) 1 1 = scope ∧
      mcOpOk (filling false) (mcacheValue op (mcBlock scope op)) = true) ∧
    (mcBlock 9 1).length = 16 ∧ mcOpOk (filling false) (mcacheValue 1 (mcBlock 9 1)) = false := by
  refine ⟨?_, ?_, ?_, ?_, ?_⟩
  all_goals decide +kernel

/-- A set of the vault. -/
def set0 : VSet := { state := .opened, mode := 0, valid := 0, wear := 5, rewrites := 0, worst := 0, stripe := 0, closedAt := 0 }

/-- The array with sets of the vault, and open log blocks. -/
def vaulted (sets : Tab VSet) (logs : List Nat) : State :=
  { A with vault := { A.vault with sets := sets, logBlocks := logs } }

/-- All log blocks are in use, full, with nothing valid in them. -/
def logsFull : State :=
  { A with vault := { A.vault with
      logBlocks := 0 :: List.replicate 255 1, openRows := [(0, slcRows), (1, slcRows)] } }

/-- The same, the sets named to leave use, or not. -/
def logsWorn (named : Bool) : State :=
  { logsFull with vault := { logsFull.vault with condemned := if named then [0, 1] else [] } }

/-- The array with a closed stripe of two sets. -/
def striped : State :=
  { A with vault := { A.vault with
      stripes := [{ id := 3, target := 0, tlc := false, sets := [40, 4136], parity := 8232, closed := true }]
      sets := [(40, { set0 with state := .closed, valid := 1 }), (4136, { set0 with state := .closed }),
               (8232, { set0 with state := .parity })] } }

/-- All log blocks are in use and full, and set 0 holds the pages of store block 0. -/
def toSwitch : State :=
  { A with vault := { A.vault with
      logBlocks := 0 :: List.replicate 255 1, openRows := [(0, slcRows), (1, slcRows)]
      sets := [(0, { set0 with valid := slcRows }), (1, { set0 with valid := slcRows })]
      logPages := (List.range slcRows).map (fun r => (r, r)) } }

/-- A log block holds store block `b` in page order where its first page and each page's place say so. -/
theorem switchBlock_of (s : State) (i b : Nat)
    (hf : ((s.vault.logPages.filter (fun e => e.2 / slcRows == i)).head?.map (fun e => e.1 / 512)) = some b)
    (h : ∀ r ∈ List.range slcRows, Tab.at? (b * 512 + r) s.vault.logPages = some (i * slcRows + r)) :
    switchBlock s i = some b := by
  unfold switchBlock
  cases hs : s.vault.logPages.filter (fun e => e.2 / slcRows == i) with
  | nil => rw [hs] at hf; cases hf
  | cons x l =>
    rw [hs] at hf
    have e : x.1 / 512 = b := Option.some.inj hf
    simp only [e]
    exact if_pos (List.all_eq_true.2 (fun r hr => beq_iff_eq.2 (h r hr)))

/-- Log block 0 of that state holds store block 0 in page order. -/
theorem toSwitch_block : switchBlock toSwitch 0 = some 0 := by
  refine switchBlock_of _ _ _ (by decide +kernel) (fun r hr => ?_)
  rw [Nat.zero_mul, Nat.zero_add, Nat.zero_mul, Nat.zero_add]
  have e : toSwitch.vault.logPages = (List.range slcRows).map (fun r => (r, r)) := by simp only [toSwitch]
  rw [e]
  exact at?_map (fun r => r) (List.range slcRows) r hr

theorem witness_StoreWrites :
    (storeRuns (vaulted [(100, set0)] [100]) = true ∧ 17 < storePages ∧
      openLogBlock (vaulted [(100, set0)] [100]) = some 100) ∧
    (storeRuns logsFull = true ∧ (needLogBlock logsFull).isNone = true ∧ 17 ∉ logsFull.vault.writes ∧
      openLogBlock logsFull = none ∧ logBlocksMax ≤ logsFull.vault.logBlocks.length ∧
      (collectVictim logsFull).map (fun i => (getSet logsFull i).valid) = some 0) ∧
    (storeRuns toSwitch = true ∧ openLogBlock toSwitch = none ∧ logBlocksMax ≤ toSwitch.vault.logBlocks.length ∧
      collectVictim toSwitch = some 0 ∧ (getSet toSwitch 0).valid ≠ 0 ∧ switchBlock toSwitch 0 = some 0) ∧
    (storeRuns striped = true ∧ striped.vault.collects = [] ∧
      (striped.vault.stripes.find? (fun y => y.id == 3 && y.closed)).map (fun x =>
        x.sets.all (fun i => setState striped i == .closed && i != x.parity && !decide (i ∈ striped.vault.condemned) &&
          dieOk striped (setDie i))) = some true ∧
      (getSet striped 40).valid ≠ 0 ∧ (getSet striped 4136).valid = 0) ∧
    (collectVictim (logsWorn true) = collectVictim logsFull ∧ collectVictim (logsWorn false) = collectVictim logsFull ∧
      (collectVictim logsFull).map (fun i => decide (i ∈ (logsWorn true).vault.condemned)) = some true) := by
  refine ⟨?_, ?_, ⟨?_, ?_, ?_, ?_, ?_, toSwitch_block⟩, ?_, ?_⟩
  all_goals decide +kernel

/-- The array with a dump set that has been used, and rearming due. -/
def toRearm : State := { A with vault := { A.vault with rearming := true, sets := [(0, { set0 with state := .dumpUsed })] } }

/-- A set to erase, and a page under program. -/
def vaultBusy : State :=
  { A with vault := { A.vault with
      erasing := [40], sets := [(40, { set0 with state := .free }), (100, set0)], logBlocks := [100]
      programs := [⟨3, 100, 0, false, []⟩] } }

theorem witness_VaultCare :
    (∀ s ∈ [toRearm, vaultBusy, vaulted [(40, { set0 with state := .closed })] [], A],
      serving s = true ∧ s.vault.failed = false ∧ s.dump.image = none ∧ vaultHeld s = false ∧ vaultUp s = true) ∧
    (toRearm.vault.rearming = true ∧ 0 ∈ dumpSets toRearm ∧ setState toRearm 0 = .dumpUsed ∧
      (getSet toRearm 0).wear + 1 < ratedWear) ∧
    (setState A 1 = .dumpArmed ∧ 1 ∈ dumpSets A ∧ inMaint A (0x1D + setDie 1 % 8) = false) ∧
    (setState (vaulted [(40, { set0 with state := .closed })] []) 40 = .closed ∧ 3 ≤ cfgRewriteBits A ∧
      (vaulted [(40, { set0 with state := .closed })] []).vault.collects = []) ∧
    (openLogBlock vaultBusy = some 100 ∧ 17 < storePages ∧ setDie 100 < 64 ∧ 40 ∈ vaultBusy.vault.erasing ∧
      (getSet vaultBusy 40).wear + (if (getSet vaultBusy 40).mode = 2 then 10 else 1) < ratedWear ∧
      vaultBusy.vault.stripes = [] ∧
      vaultBusy.vault.programs.find? (fun p => p.set == 100 && !p.own) = some ⟨3, 100, 0, false, []⟩) ∧
    (dictRuns A = true ∧ chanSession A (.rxmp 1) = some sess1 ∧ available A 0x5802 = true ∧
      curveOk 0 curveBlock = true ∧ curveOk 0 (zeros 64) = false) := by
  refine ⟨?_, ?_, ?_, ?_, ?_, ?_⟩
  all_goals decide +kernel

/-! ### Witnesses: energy store -/

/-- An OCV table of straight rows. -/
def ocvBlock : Bytes :=
  [1, 21, 0, 0, 0xF6, 0, 10, 20, 30, 40, 50, 60, 0, 0, 0, 0] ++
    (List.range 168).flatMap (fun n => leBytes 2 (3000 + 57 * (n % 21)))

/-- A resistance table with its temperatures. -/
def resBlock : Bytes :=
  [2, 11, 0, 0, 0xF6, 0, 10, 20, 30, 40, 50, 60, 0, 0, 0, 0] ++ (List.range 264).flatMap (fun _ => leBytes 2 240)

/-- A module with that OCV table stored. -/
def tabled (s : State) : State := { s with dict := { s.dict with objs := [(objKey 0 0x6006 1, .bytes ocvBlock)] } }

/-- Cells of one voltage. -/
def cells4 (mv : Nat) : List Nat := [mv, mv, mv, mv]

/-- The pack not latched yet. -/
def unlatched : State :=
  let s := powered .done (cells4 4150)
  { s with tally := { s.tally with pack := { s.tally.pack with latched := false } } }

/-- Charging, twenty hours after the last reference. -/
def toRest : State :=
  { powered .cc (cells4 4000) with clk := { svc.clk with now := 999999000000000 + 20 * hourNs } }

/-- A rest window is open. -/
def resting (extended : Bool) : State :=
  { toRest with tally := { toRest.tally with charger := { toRest.tally.charger with
      restOpen := true, restSince := 999999000000001, extended := extended } } }

theorem witness_PackAndCharger :
    ((powered .done (cells4 4150)).pw.state ≠ .off ∧ packIdState 1701 = 0 ∧ packIdState 1240 = 1 ∧ packIdState 1700 ≠ 1 ∧
      ntcBad 50 = true ∧ ntcBad 900 = false ∧ 4250 < greatestCell [4251, 4000, 4000, 4000]) ∧
    (unlatched.tally.pack.latched = false ∧ unlatched.tally.gauge.running = true ∧ awake unlatched = true) ∧
    (powered .done (cells4 4150)).tally.pack.latched = true ∧
    (∀ v ∈ [4100, 4099, 2500, 2499], (powered .qualify [v, 4150, 4150, 4150]).tally.charger.state = .qualify ∧
      leastCell (powered .qualify [v, 4150, 4150, 4150]).tally.pack.cells = v ∧
      (powered .qualify [v, 4150, 4150, 4150]).tally.pack.state = 1) ∧
    (awake (powered .qualify [4100, 4150, 4150, 4150]) = true ∧
      (powered .qualify [4100, 4150, 4150, 4150]).tally.charger.state ≠ .fault) ∧
    ((powered .cv (cells4 4150)).tally.charger.state = .cv ∧ awake (powered .cv (cells4 4150)) = true) ∧
    (coreRuns toRest = true ∧ toRest.tally.gauge.refTime + 20 * hourNs ≤ toRest.clk.now ∧ restMayOpen toRest = true) ∧
    (∀ e ∈ [true, false], (resting e).tally.charger.restOpen = true ∧ (resting e).tally.charger.extended = e ∧
      (resting e).tally.gauge.refTime < (resting e).tally.charger.restSince) ∧
    Carries (.rxmp 1) 1 0x6002 toRest := by
  refine ⟨?_, ?_, ?_, ?_, ?_, ?_, ?_, ?_, carried _ _ _ ?_ ?_ ?_ ?_⟩
  all_goals decide +kernel

/-- At rest, the pack discharging nothing. -/
def rested : State := powered .done (cells4 3300)

/-- The estimator not running. -/
def stopped : State :=
  let s := powered .done (cells4 4150)
  { s with tally := { s.tally with gauge := { s.tally.gauge with running := false } } }

/-- A slot of the pack that is fitted, left by a learn cycle. -/
def slotOf : NvSlot :=
  { NvSlot.empty with valid := true, seq := 3, inserted := 5, capLearned := 41000, rScale := List.replicate 8 1100
                      refTime := 77, learnActive := true }

/-- The estimator not running, with that slot. -/
def stoppedSlot : State := { stopped with tally := { stopped.tally with slot0 := slotOf } }

/-- A slot was written a moment ago. -/
def slotRecent : State :=
  let s := powered .done (cells4 4150)
  { s with tally := { s.tally with lastSlot := s.clk.uptime - 5 } }

theorem witness_Estimator :
    (∀ c ∈ [ChState.done, .cc], coreRuns (powered c (cells4 4000)) = true ∧
      (powered c (cells4 4000)).tally.gauge.running = true ∧ (powered c (cells4 4000)).tally.pack.state = 1 ∧
      (powered c (cells4 4000)).tally.gauge.stale = false) ∧
    (restHolds (tabled (powered .cc (cells4 4000))) = false ∧ rateIndex (powered .cc (cells4 4000)) ≠ 0 ∧
      restHolds (tabled rested) = true ∧ coreRuns (tabled rested) = true ∧ rested.tally.gauge.running = true) ∧
    (coreRuns stopped = true ∧ stopped.tally.gauge.running = false ∧ newestSlot stopped.tally = none ∧ stopped.tally.pack.state = 1) ∧
    (stoppedSlot.tally.gauge.running = false ∧ newestSlot stoppedSlot.tally = some slotOf ∧
      stoppedSlot.tally.pack.latched = true ∧ stoppedSlot.tally.pack.inserted = slotOf.inserted ∧ slotOf.learnActive = true) ∧
    ((powered .done (cells4 4000)).tally.lastSlot = 0 ∧ coreRuns slotRecent = true ∧ slotRecent.tally.gauge.running = true ∧
      slotRecent.tally.lastSlot ≠ 0 ∧ slotRecent.clk.uptime < slotRecent.tally.lastSlot + 60 * secNs) := by
  refine ⟨?_, ?_, ?_, ?_, ?_⟩
  all_goals decide +kernel

/-- A module that may start a learn cycle, and one that starts it by itself. -/
def mayLearn (auto : Bool) : State :=
  let s := powered .done (cells4 4150)
  { s with
    clk := { s.clk with now := 999999000000000 + 5 }
    dict := if auto then { s.dict with objs := [(objKey 0 0x6004 8, .num 1)] } else s.dict
    tally := { s.tally with learn := { s.tally.learn with due := true } } }

/-- A learn cycle at its rest, its discharge ended as given, after `sec` seconds of it. -/
def learned (onVoltage : Bool) (sec : Nat) : State :=
  let s := tabled (learning .resting .rest)
  { s with tally := { s.tally with
      learn := { s.tally.learn with onVoltage := onVoltage, step2 := 0, step3 := sec * secNs, refStart := 97 }
      pack := { s.tally.pack with cells := cells4 3150 } } }

/-- A learn cycle that discharges in LEARN, a sensor at its level or not, or in DUMP. -/
def discharging (st : PState) (hot : Bool) : State :=
  let s := modPw (fun p => { p with state := st }) (learning .discharging .learn)
  if hot then modSide (fun x => { x with levels := .none :: .throttle :: List.replicate 6 .none }) s else s

/-- Is the result of a learn cycle valid? -/
def resultHolds (s : State) : Bool :=
  let e := socFromOcv (ocvAt s (packTempC s)) (leastCell s.tally.pack.cells)
  decide (s.tally.learn.onVoltage = true ∧ e ≤ 20 ∧ 20 ≤ learnQ s e ∧ learnQ s e ≤ 55)

theorem witness_LearnCycle :
    (learnMayStart (mayLearn false) = true ∧ Carries (.rxmp 1) 1 0x6004 (mayLearn false)) ∧
    (cfgLearnAuto (mayLearn true) = 1 ∧ learnDue (mayLearn true) = true ∧ learnMayStart (mayLearn true) = true) ∧
    (learnMayStart toRest = false ∧ learnRunning toRest = false ∧ Carries (.rxmp 1) 1 0x6004 toRest) ∧
    (learnRunning (learning .preparing .done) = true ∧ (learning .preparing .done).pw.state = .service ∧
      dirtySlots (learning .preparing .done) = [] ∧ Carries (.rxmp 1) 1 0x6004 (learning .preparing .done)) ∧
    (∀ h ∈ [true, false], (discharging .learn h).tally.learn.state = .discharging ∧
      (discharging .learn h).pw.state = .learn ∧ learnRunning (discharging .learn h) = true ∧
      sensorsHot (discharging .learn h) = h) ∧
    ((discharging .dump false).pw.state = .dump ∧ coreRuns (learned true 900) = true ∧ coreRuns (mayLearn true) = true ∧
      (learned true 900).tally.learn.state = .resting) ∧
    (resultHolds (learned true 900) = true ∧ resultHolds (learned true 100) = false) ∧
    (Carries (.rxmp 1) 2 0x6006 svc ∧ ocvBlock.length = 352 ∧ ocvTableOk ocvBlock = true ∧
      ocvTableOk (zeros 352) = false ∧ resBlock.length = 544 ∧ resTableOk svc resBlock = true ∧
      resTableOk svc (zeros 544) = false) := by
  refine ⟨⟨?_, carried _ _ _ ?_ ?_ ?_ ?_⟩, ?_, ⟨?_, ?_, carried _ _ _ ?_ ?_ ?_ ?_⟩,
    ⟨?_, ?_, ?_, carried _ _ _ ?_ ?_ ?_ ?_⟩, ?_, ?_, ?_, ⟨svc_carries _ _ ?_ ?_, ?_⟩⟩
  all_goals decide +kernel

/-! ### Witnesses: keys, tests, images, quotes -/

/-- A blob of a volume key under parent 5. -/
def keyBlob : Bytes := (blobOf 3 1 9 5).take 32 ++ zeros 72

/-- A blob of a metadata key under parent 5. -/
def metaBlob : Bytes := (blobOf 2 1 9 5).take 32 ++ zeros 72

/-- A module with a select object of KEY_EXPORT. -/
def exporting (s : State) (a b : Nat) : State :=
  { s with dict := { s.dict with selects := [(objKey (chanKey R1) 0x6801 3, .bytes (leBytes 4 a ++ leBytes 4 b))] } }

/-- A CUSTODIAN_KEK, and with it a volume key under it. -/
def kek : List Key := [keyOf 1 5 0 0]

theorem witness_Keys :
    (∀ s ∈ [svc, keyed kek, exporting (keyed (kek ++ [keyOf 3 9 5 2])) 9 5, exporting (keyed (kek ++ [keyOf 3 9 5 1])) 9 5,
        exporting svc 9 6],
      dictRuns s = true ∧ chanSession s R1 = some sess1 ∧ available s 0x6801 = true) ∧
    ((zeros 104).length = 104 ∧ blobHeaderOk (zeros 104) = false ∧ keyBlob.length = 104 ∧ blobHeaderOk keyBlob = true ∧
      svc.lock.drbg ≠ 2 ∧ svc.lock.engineOk = true ∧ blobParent svc R1 keyBlob = none ∧
      (keyed kek).lock.drbg ≠ 2 ∧ (keyed kek).lock.engineOk = true ∧
      (blobParent (keyed kek) R1 keyBlob).isSome = true) ∧
    (attrOk keyBlob (keyPlain (keyOf 3 9 5 1)) = true ∧
      allZero (blobKey keyBlob (keyPlain (keyOf 3 9 5 1))).value = false ∧
      (blobKey keyBlob (keyPlain (keyOf 3 9 5 1))).kind = 3 ∧
      (heldKeys (keyed kek)).any (sameKey (blobKey keyBlob (keyPlain (keyOf 3 9 5 1)))) = false ∧
      (blobKey keyBlob (keyPlain (keyOf 3 9 5 1))).id = 9 ∧
      (∀ x ∈ (keyed kek).lock.keys ++ (keyed kek).lock.metaKey.toList, x.id = 5) ∧ storeFull (keyed kek) 3 = false) ∧
    (∀ f ∈ [1, 2], selBytes (exporting (keyed (kek ++ [keyOf 3 9 5 f])) 9 5) R1 0x6801 3 (zeros 8) =
        leBytes 4 9 ++ leBytes 4 5 ∧
      ((keyed (kek ++ [keyOf 3 9 5 f])).lock.keys ++ (keyed (kek ++ [keyOf 3 9 5 f])).lock.metaKey.toList).find?
        (fun k => k.id == 9) = some (keyOf 3 9 5 f) ∧
      getKey (keyed (kek ++ [keyOf 3 9 5 f])) 5 = some (keyOf 1 5 0 0) ∧ bit f 1 = (f == 2)) ∧
    (getKey svc 6 = none ∧ (blobKey metaBlob (keyPlain (keyOf 2 9 5 1))).kind = 2 ∧ blobHeaderOk metaBlob = true ∧
      attrOk metaBlob (keyPlain (keyOf 2 9 5 1)) = true ∧ allZero (keyed kek).dur.arrayId = true ∧
      (heldKeys (keyed kek)).any (sameKey (blobKey metaBlob (keyPlain (keyOf 2 9 5 1)))) = false ∧
      storeFull (keyed kek) 2 = false) := by
  refine ⟨?_, ?_, ?_, ?_, ?_⟩
  all_goals decide +kernel

theorem witness_KeyDestroy :
    (dictRuns (keyed (kek ++ [keyOf 3 9 5 1])) = true ∧ chanSession (keyed (kek ++ [keyOf 3 9 5 1])) R1 = some sess1 ∧
      available (keyed (kek ++ [keyOf 3 9 5 1])) 0x6801 = true) ∧
    (∀ k ∈ heldKeys (keyed (kek ++ [keyOf 3 9 5 1])), k.id ≠ 77) ∧
    ((heldKeys (keyed (kek ++ [keyOf 3 9 5 1]))).find? (fun x => x.id == 5) = some (keyOf 1 5 0 0) ∧
      ∃ x ∈ heldKeys (keyed (kek ++ [keyOf 3 9 5 1])), x.kind ≠ 1 ∧ x.parent = 5) ∧
    ((heldKeys (keyed (kek ++ [keyOf 3 9 5 1]))).find? (fun x => x.id == 9) = some (keyOf 3 9 5 1) ∧
      (keyed (kek ++ [keyOf 3 9 5 1])).tabs.vols = []) ∧
    ((heldKeys (exporting svc 0 0)).find? (fun x => x.id == 9) = none) := by
  refine ⟨?_, ?_, ?_, ?_, ?_⟩
  all_goals decide +kernel

/-- The module with FAULT lit by a key engine test. -/
def untested : State := { svc with pw := { svc.pw with faults := [.lockKat] } }

/-- Cooper's tests wait to be repeated. -/
def katWaits : State := { svc with cooper := { svc.cooper with katPending := true } }

theorem witness_GenerationsAndTests :
    (∀ s ∈ [svc, owning vol, owning (sealedVol 20 5), owning (sealedVol 6 5)],
      dictRuns s = true ∧ chanSession s R1 = some sess1 ∧ available s 0x6802 = true) ∧
    (getVol svc 1 = none ∧ getVol (owning vol) 0 = some vol ∧ vol.encrypted = false ∧
      (sealedVol 20 5).encrypted = true ∧ rollAllowed (sealedVol 20 5) = false ∧
      getVol (owning (sealedVol 6 5)) 0 = some (sealedVol 6 5) ∧ rollAllowed (sealedVol 6 5) = true) ∧
    (let s : State := { svc with lock := { svc.lock with drbg := 1 } }; awake s = true ∧ s.lock.drbg = 1) ∧
    (serving untested = true ∧ Carries R1 1 0x6805 untested ∧ untested.pw.state = .service ∧
      (dedup [50]).filter (fun n => decide (n < 48) && untested.lock.lanesOk.toNat.testBit n) = [] ∧
      (dedup [3, 4, 3]).filter (fun n => decide (n < 48) && untested.lock.lanesOk.toNat.testBit n) = [3, 4]) ∧
    (Carries R1 1 0x4001 svc ∧ svc.pw.state = .service ∧ serving katWaits = true ∧ katWaits.cooper.katPending = true ∧
      Carries R1 1 0x4001 (dumping .trip12V false) ∧ Carries R1 1 0x6805 (dumping .trip12V false) ∧
      (dumping .trip12V false).pw.state = .dump) := by
  refine ⟨?_, ?_, ?_, ⟨?_, carried _ _ _ ?_ ?_ ?_ ?_, ?_⟩, ⟨svc_carries _ _ ?_ ?_, ?_, ?_, ?_, carried _ _ _ ?_ ?_ ?_ ?_,
    carried _ _ _ ?_ ?_ ?_ ?_, ?_⟩⟩
  all_goals decide +kernel

/-- The module with an update in a state, owned by a channel. -/
def updatingBy (st : FwState) (o : Option Nat) : State :=
  { imaged with lock := { imaged.lock with fwState := st, fwOwner := o } }

/-- A nonce kept for the session. -/
def quoting : State := { svc with lock := { svc.lock with quotes := [⟨5, zeros 64, none⟩] } }

theorem witness_ImagesAndQuotes :
    (∀ s ∈ [imaged, updatingBy .idle none, updatingBy .receiving (some 5), updatingBy .receiving (some 7), svc],
      dictRuns s = true ∧ chanSession s R1 = some sess1 ∧ available s 0x6806 = true ∧ available s 0x6807 = true) ∧
    (0 < imaged.lock.fuses ∧ imaged.lock.fuses = 1 ∧ imageSvn (imageSlot imaged imaged.pw.bootImage) = 5 ∧ chanKey R1 = 5) ∧
    (updating (updatingBy .idle none) = false ∧ (updatingBy .receiving (some 5)).lock.fwOwner = some (chanKey R1) ∧
      (updatingBy .receiving (some 5)).lock.fwState = .receiving ∧
      (updatingBy .receiving (some 5)).lock.fwData.length + 4096 ≤ imageMax ∧
      updating (updatingBy .receiving (some 7)) = true ∧
      (updatingBy .receiving (some 7)).lock.fwOwner ≠ some (chanKey R1)) ∧
    (findQuote quoting (chanKey R1) = some ⟨5, zeros 64, none⟩ ∧ awake quoting = true) := by
  refine ⟨?_, ?_, ?_, ?_⟩
  all_goals decide +kernel

/-! ### Witnesses: dictionary, sessions -/

/-- The module in service, the session of a role. -/
def whose (role : Nat) (st : PState) : State :=
  { svc with
    pw := { svc.pw with state := st }
    sess := { svc.sess with sessions := [{ sess1 with role := role }] } }

/-- The row of an object. -/
def rowAt (i n : Nat) : ObjRow := (defRow i n).getD (countRow 0 0)

theorem witness_DictionaryChecks :
    (let s : State := { svc with sess := { svc.sess with sessions := [] } }; dictRuns s = true ∧ chanSession s R1 = none) ∧
    (∀ r ∈ [0, 1, 2], ∀ st ∈ [PState.service, .standby], dictRuns (whose r st) = true ∧
      chanSession (whose r st) R1 = some { sess1 with role := r }) ∧
    (defRow 0x9999 1 = none ∧ [(0x1000, 1), (0x1101, 1), (0x6801, 1), (0x2410, 1), (0x1000, 0)].all (fun x =>
      (defRow x.1 x.2).isSome) = true) ∧
    ([(0x1000, 1), (0x1101, 1), (0x6801, 1), (0x2410, 1), (0x1000, 0)].map (fun x => ((rowAt x.1 x.2).access,
      (rowAt x.1 x.2).role)) = [(1, 0), (3, 2), (3, 2), (2, 1), (1, 0)]) ∧
    (available (whose 0 .service) 0x1000 = true ∧ available (whose 2 .standby) 0x2410 = false ∧
      available (whose 2 .service) 0x2410 = true ∧ lengthOk (rowAt 0x7030 1) [1] = true ∧
      lengthOk (rowAt 0x7030 1) [1, 2] = false ∧ rangeOk (rowAt 0x7030 1) (decodeVal true (rowAt 0x7030 1) [0xFF]) = false ∧
      rangeOk (rowAt 0x7030 1) (decodeVal true (rowAt 0x7030 1) [1]) = true) := by
  refine ⟨?_, ?_, ?_, ?_, ?_⟩
  all_goals decide +kernel

/-- An OPEN of the name of the waiting session, as Custodian. -/
def openMessage : Bytes := netMsg 1 0 0 0 (fit 32 [3] ++ [2] ++ zeros 39)

/-- A PROVE for session 5. -/
def proveMessage : Bytes := netMsg 3 5 0 0 (zeros 64)

/-- A state of the sessions with `n` failed attempts on the waiting session's name. -/
def failedTimes (n : Nat) : State :=
  netted (fun e => { e with
    pending := [waiting], creds := [credOf 3 2 false], fails := List.replicate n (fit 32 [3], svc.clk.uptime) })

/-- Every session is taken. -/
def allTaken : State := netted (fun e => { e with sessions := (List.range 32).map (fun i => { sess1 with id := i + 1 }) })

/-- An address has sent sixteen OPENs within the minute. -/
def flooding : State := netted (fun e => { e with opens := List.replicate 16 ([1], svc.clk.uptime) })

theorem witness_SessionOpens :
    (∀ s ∈ [netted id, flooding, allTaken, failedTimes 4], netUp s = true) ∧
    (malformed true openMessage = false ∧ msgType openMessage = 1 ∧ malformed true proveMessage = false ∧
      msgType proveMessage = 3 ∧ msgSession true proveMessage = 5) ∧
    (flooded flooding [1] = true ∧ flooded allTaken [1] = false ∧ 32 ≤ rxmpOpen allTaken ∧ flooded (netted id) [1] = false ∧
      rxmpOpen (netted id) < 32 ∧ (netted id).sess.pending.length < 64) ∧
    ((netted id).sess.pending.find? (fun x => x.id == 5 && x.port == none) = none ∧
      (failedTimes 4).sess.pending.find? (fun x => x.id == 5 && x.port == none) = some waiting ∧
      4 ≤ ((failedTimes 4).sess.fails.filter (fun f =>
        decide ((failedTimes 4).clk.uptime < f.2 + 60 * secNs) && f.1 == waiting.name)).length ∧
      rxmpOpen (failedTimes 4) < 32) := by
  refine ⟨?_, ?_, ?_, ?_⟩
  all_goals decide +kernel

/-- The session has had message 3, and its reply is kept. -/
def third : State := netted (fun e => { e with sessions := [{ sess1 with last := 3, cached := some [9, 9] }] })

theorem witness_SessionMessages :
    (netUp third = true ∧ malformed true [1, 2] = true) ∧
    (∀ q ∈ [3, 4, 9], malformed true (netMsg 5 1 1 q [1, 1, 0x10, 0, 0, 0, 0, 0]) = false ∧
      msgType (netMsg 5 1 1 q [1, 1, 0x10, 0, 0, 0, 0, 0]) = 5 ∧
      msgSeq true (netMsg 5 1 1 q [1, 1, 0x10, 0, 0, 0, 0, 0]) = q) ∧
    (malformed true (netMsg 7 1 0 4 []) = false ∧ msgType (netMsg 7 1 0 4 []) = 7) ∧
    (namedSession none third 9 = none ∧ namedSession none third 1 = some { sess1 with last := 3, cached := some [9, 9] }) := by
  refine ⟨?_, ?_, ?_, ?_⟩
  all_goals decide +kernel

/-- A credential block. -/
def credBlock (slot role : Nat) (name : Byte) : Bytes :=
  leBytes 1 slot ++ leBytes 1 role ++ [1, 0] ++ zeros 4 ++ zeros 16 ++ fit 32 [name] ++ zeros 40

/-- The factory credential, and one of a Viewer. -/
def credentials : State :=
  netted (fun e => { e with creds := [credOf 0 2 true, { credOf 3 0 false with name := fit 32 [65] }] })

/-- Two Custodians. -/
def twoCustodians : State := netted (fun e => { e with creds := [credOf 0 2 true, credOf 1 2 false] })

theorem witness_SessionsAndCredentials :
    (∀ s ∈ [third, credentials, twoCustodians], dictRuns s = true ∧ available s 0x1020 = true ∧ available s 0x1030 = true) ∧
    ((chanSession third R1).map (fun x => (x.setup, x.role)) = some (false, 2) ∧ chanSession credentials R1 = some sess1 ∧
      chanSession twoCustodians R1 = some sess1) ∧
    ((∀ x ∈ third.sess.sessions, x.id ≠ 7) ∧ ∃ x ∈ third.sess.sessions, x.id = 1) ∧
    ((zeros 96).length = 96 ∧ credOk (zeros 96) = false ∧ (credBlock 4 2 65).length = 96 ∧ credOk (credBlock 4 2 65) = true ∧
      (∃ c ∈ credentials.sess.creds, c.name = slice (credBlock 4 2 65) 24 32 ∧ c.slot ≠ field (credBlock 4 2 65) 0 1)) ∧
    (credOk (credBlock 5 2 66) = true ∧
      (∀ c ∈ credentials.sess.creds, c.name = slice (credBlock 5 2 66) 24 32 → c.slot = field (credBlock 5 2 66) 0 1) ∧
      ∀ c ∈ credentials.sess.creds, c.setup = true → c.slot = 0) ∧
    (credentials.sess.creds.find? (fun c => c.slot == 9) = none ∧
      (credentials.sess.creds.find? (fun c => c.slot == 0)).map (·.role) = some 2 ∧
      (credentials.sess.creds.filter (fun x => x.role == 2)).length ≤ 1 ∧
      (credentials.sess.creds.find? (fun c => c.slot == 3)).map (·.role) = some 0 ∧
      (twoCustodians.sess.creds.find? (fun c => c.slot == 1)).map (·.role) = some 2 ∧
      2 ≤ (twoCustodians.sess.creds.filter (fun x => x.role == 2)).length) := by
  refine ⟨?_, ?_, ?_, ?_, ?_, ?_⟩
  all_goals decide +kernel

/-! ### Witnesses: mailboxes, paths, addresses, clock -/

/-- The mailbox of the anonymous request. -/
def asking (busy discard : Bool) : State := mailing (mailOf anonMsg busy discard)

/-- A module with one object stored. -/
def storing (i n : Nat) (s : State) : State :=
  { s with dict := { s.dict with objs := [(objKey 0 (i / 256) (i % 256), .num n)] } }

/-- The management restarts. -/
def restarting : State := modPw (fun p => { p with mgmtRestarting := true }) (asking false false)

theorem witness_Mailboxes :
    (∀ s ∈ [asking false false, asking true false, asking true true, restarting, mailing (mailOf [1, 2, 3] false false)],
      mailboxUp s 0 = true) ∧
    bit (1 : BitVec 32).toNat 0 = true ∧
    ((asking true false).ports.get 0).mailbox.busy = true ∧ ((asking false false).ports.get 0).mailbox.busy = false ∧
    ((restarting.ports.get 0).mailbox.busy = false ∧ restarting.pw.mgmtRestarting = true ∧
      (asking false false).pw.mgmtRestarting = false) ∧
    malformed false (mailboxMessage ((mailing (mailOf [1, 2, 3] false false)).ports.get 0).mailbox) = true ∧
    (malformed false anonMsg = false ∧ msgType anonMsg = 5 ∧ msgSession false anonMsg = 0 ∧
      allZero (anonMsg.drop (anonMsg.length - 32)) = true ∧ cfgMbAnonRead (storing 0x704001 0 (asking false false)) 0 = 0 ∧
      mailboxUp (storing 0x704001 0 (asking false false)) 0 = true) ∧
    (((asking true false).ports.get 0).mailbox.discard = false ∧ ((asking true true).ports.get 0).mailbox.discard = true) := by
  refine ⟨?_, ?_, ?_, ?_, ?_, ?_, ?_, ?_⟩
  all_goals decide +kernel

/-- The contacts hold the right. -/
def pathsHeld : State :=
  let s := pathed .active .standby false
  { s with side := { s.side with pathHold := true } }

theorem witness_ManagementPaths :
    (pathsHeld.side.pathHold = true ∧ Carries R1 1 0x7004 pathsHeld) ∧
    (svc.side.pathHold = false ∧ pathsRun svc = true ∧ ∀ b, (svc.paths.path b).state = .down ∧ pathEnabled svc b = true ∧
      1 ≤ cfgPathRateMax svc (b2n b)) ∧
    (∀ o ∈ [PathState.down, .active], ∀ r ∈ [true, false], pathsRun (pathed .syncing o r) = true ∧
      ((pathed .syncing o r).paths.path false).state = .syncing ∧ (pathed .syncing o r).paths.right = r ∧
      ((pathed .syncing o r).paths.path true).state = o) ∧
    (∀ o ∈ [PathState.down, .standby], pathsRun (pathed .active o false) = true ∧
      (pathed .active o false).side.pathHold = false ∧
      ((pathed .active o false).paths.path false).link ≠ 0 ∧ ((pathed .active o false).paths.path false).state ≠ .failed ∧
      inMaint (pathed .active o false) (pathInterface true) = false ∧
      ((pathed .active o false).paths.path true).state = o ∧ dictRuns (pathed .active o false) = true ∧
      chanSession (pathed .active o false) R1 = some sess1 ∧ available (pathed .active o false) 0x7004 = true ∧
      available (pathed .active o false) 0x7002 = true) := by
  refine ⟨⟨?_, carried _ _ _ ?_ ?_ ?_ ?_⟩, ?_, ?_, ?_⟩
  all_goals decide +kernel

theorem witness_AddressesAndClock :
    (let s := storing 0x701002 3 (pathed .active .standby false)
     pathsRun s = true ∧ (s.paths.path s.paths.right).state = .active ∧ bit (cfgAddrMode s) 0 = true ∧
      bit (cfgAddrMode s) 1 = true) ∧
    (Carries R1 1 0x1010 svc ∧ 5 < svc.clk.now ∧ svc.clk.now + 7 < 2 ^ 64 ∧ Carries R1 1 0x7030 svc) ∧
    (let s := storing 0x101004 1 (pathed .active .standby false)
     ptpRuns s = true ∧ (cfgPtpStepThreshold s : Int) < 10 ^ 9 ∧ -(-100 : Int) ≤ cfgPtpStepThreshold s) := by
  refine ⟨?_, ⟨svc_carries _ _ ?_ ?_, ?_, ?_, svc_carries _ _ ?_ ?_⟩, ?_⟩
  all_goals decide +kernel

/-! ### Witnesses: ledger, MAINTENANCE, tests -/

/-- Two events of a module in service. -/
def logged2 : State := event 0xBA02 0 0 [1, 2] (event 0x5106 2 0 [3] svc)

/-- No token is left for an event. -/
def spent : State := { svc with led := { svc.led with buckets := [(0xBA02, ⟨0, svc.clk.uptime⟩)] } }

theorem witness_LedgerRecordsAndCommands :
    (svc.led.mounted = true ∧ svc.led.full = false ∧ svc.vault.failed = false ∧ ledFits svc.led (ledLen [1]) = true ∧
      ledRoom svc.led (ledLen [1]) = true ∧ tokenUnit ≤ bucketLevel svc 0xBA02 ∧ limitRate svc 0xBA02 ≠ 0 ∧
      (noticePorts ported 0x1003 0).length = 4 ∧ ported.led.mounted = true) ∧
    (bucketLevel spent 0xBA02 < tokenUnit ∧ neverSuppressed 0xBA02 0 = false ∧ limitRate spent 0xBA02 ≠ 65535) ∧
    (logged2.led.mounted = true ∧ logged2.vault.failed = false ∧ flushMayRun logged2 = true ∧
      (unflushed logged2).any (fun r => r.sev == 2) = true ∧ dictRuns logged2 = true ∧
      chanSession logged2 R1 = some sess1 ∧ available logged2 0x7801 = true ∧ available logged2 0x7804 = true ∧
      logged2.pw.state = .service) ∧
    (Carries R1 2 0x7804 (dumping .trip12V false) ∧ (dumping .trip12V false).pw.state = .dump) ∧
    (ledgerReadFrom svc (selNum svc R1 0x7802 1) = none ∧ Carries R1 0 0x7802 svc ∧
      (ledgerReadFrom logged2 (selNum logged2 R1 0x7802 1)).isSome = true ∧ available logged2 0x7802 = true) := by
  refine ⟨?_, ?_, ?_, ⟨carried _ _ _ ?_ ?_ ?_ ?_, ?_⟩, ⟨?_, svc_carries _ _ ?_ ?_, ?_, ?_⟩⟩
  all_goals decide +kernel

/-- Every interface has failed a test. -/
def allBad (s : State) : State :=
  { s with test := { s.test with bad := (List.range 0x28).map (fun i => (i, 1)) } }

theorem witness_Maintenance :
    (∀ s ∈ [A, testing [] none, testing [1] none, testing [5] none, testing [0x1E] none], dictRuns s = true ∧
      chanSession s R1 = some sess1 ∧ available s 0x7C00 = true) ∧
    (ifaceOf 0 = none ∧ (ifaceOf 1).isSome = true ∧ (ifaceOf 5).isSome = true ∧ (ifaceOf 0x1E).isSome = true ∧
      (ifaceOf 0x25).isSome = true) ∧
    ((ifaceOf 1).map (maintRefused A) = some true ∧ (ifaceOf 2).map (maintRefused A) = some false ∧ inMaint A 2 = false ∧
      (ifaceOf 5).map (maintRefused (testing [] none)) = some false ∧ inMaint (testing [] none) 5 = false ∧
      (ifaceOf 0x26).map (maintRefused (testing [] none)) = some false ∧ inMaint (testing [] none) 0x26 = false) ∧
    (∀ i ∈ [1, 5, 0x1E, 0x25], inMaint (testing [i] none) i = true ∧ testOn (testing [i] none) i = false ∧
      (testing [i] none).test.bad = [] ∧ inMaint (allBad (testing [i] none)) i = true ∧
      testOn (allBad (testing [i] none)) i = false ∧ ∃ e ∈ (allBad (testing [i] none)).test.bad, e.1 = i) ∧
    (∀ r ∈ [none, some (testOf 0x1E 6)],
      (testing [1, 0x1E] r).test.maint.find? (fun n => decide (0x1D ≤ n) && decide (n ≤ 0x24)) = some 0x1E) := by
  refine ⟨?_, ?_, ?_, ?_, ?_⟩
  all_goals decide +kernel

theorem witness_Tests :
    (∀ s ∈ [testing [1] none, testing [1] (some (testOf 1 2)), testing [] none], dictRuns s = true ∧
      chanSession s R1 = some sess1 ∧ available s 0x7C01 = true) ∧
    (ifaceOf (field (reqBytes 0 1) 0 1) = none ∧ ∀ d ∈ [1, 11], (reqBytes 1 d).length = 16) ∧
    ((ifaceOf 1).map (fun f => (requestOk (testing [1] none) f (reqBytes 1 1), requestOk (testing [1] none) f (reqBytes 1 11))) =
        some (true, false) ∧
      (ifaceOf 1).map (fun f => requestBusy (testing [1] none) none 1 f 1) = some false ∧
      (ifaceOf 1).map (fun f => requestBusy (testing [1] (some (testOf 1 2))) none 1 f 1) = some true) ∧
    ((testing [1] (some (testOf 1 2))).test.running = some (testOf 1 2) ∧ attemptOk (testOf 1 2) (verdict 0) = true ∧
      attemptOk (testOf 1 2) (verdict 1) = false) ∧
    (∀ c ∈ [ChState.done, .fault], (powered c (cells4 4000)).tally.pack.state = 1 ∧
      (powered c (cells4 4000)).tally.charger.state = c ∧ (testOf 0x27 10).interface = 0x27) ∧
    (serving svc = true ∧ cfgPatrolInterval svc ≠ 0) := by
  refine ⟨?_, ?_, ?_, ?_, ?_, ?_⟩
  all_goals decide +kernel

/-! ### Steps -/

theorem witness_StepRunsFront : ({ svc with pending := [.smbStatus, .fold] } : State).pending = .smbStatus :: [.fold] := rfl

theorem witness_StepKeepsSettled : ∃ s s' : State, Settled s ∧ step s = .next s' ∧ s.tally.pack.latched = true := by
  have h : (settle (powered .done (cells4 4150))).pending = [] := by decide +kernel
  refine ⟨settle (powered .done (cells4 4150)), idle (settle (powered .done (cells4 4150))), settle_settled _, ?_, ?_⟩
  · unfold step; rw [h]
  · decide +kernel

/-- A command leaves the queue as its step begins. -/
theorem test_step_front : (match step { svc with pending := [Instr.p12vRise, Instr.fold] } with
    | .next t => t.pending
    | _ => []) = [Instr.fold] := by decide +kernel

/-! ### Well-formed commands: one ill-formed term for each check -/

theorem test_ill_ring : (Instr.ringCreate 0 256).wellFormed = false := by decide
theorem test_ill_volume : (Instr.logBenchWrite 4096).wellFormed = false := by decide
theorem test_ill_drive : (Instr.driveGone 512).wellFormed = false := by decide
theorem test_ill_bench : (Instr.benchOnMedia 0 2048).wellFormed = false := by decide
theorem test_ill_member : (Instr.memberReplace 0 28).wellFormed = false := by decide
theorem test_ill_extent : (Instr.mergeStart 0 (2 ^ 32)).wellFormed = false := by decide
theorem test_ill_group : (Instr.rebuildStart (2 ^ 32)).wellFormed = false := by decide
theorem test_ill_page : (Instr.pageDestage 0 (2 ^ 42)).wellFormed = false := by decide
theorem test_ill_vector : (Instr.msixUnmask 0 2048).wellFormed = false := by decide
theorem test_ill_tag : (Instr.read 0 (2 ^ 32)).wellFormed = false := by decide
theorem test_ill_request_tag : (Instr.tagWithholdExpiry 0 (2 ^ 14)).wellFormed = false := by decide
theorem test_ill_optional_tag : (Instr.poisonedTlp 0 (some (2 ^ 14))).wellFormed = false := by decide
theorem test_ill_byte : (Instr.maintEnter R1 256).wellFormed = false := by decide
theorem test_ill_index : (Instr.dictRead R1 (2 ^ 32) 1).wellFormed = false := by decide
theorem test_ill_set : (Instr.vaultOperationDone (2 ^ 32) .read).wellFormed = false := by decide
theorem test_ill_sett : (Instr.benchReadDone 0 0 [⟨28, .failed⟩]).wellFormed = false := by decide
theorem test_ill_label :
    (Instr.driveFound { blankInfo with label := some { foreignLabel with arrayId := [] } }).wellFormed = false := by decide
theorem test_ill_info : (Instr.driveFound { blankInfo with guid := [] }).wellFormed = false := by decide
theorem test_ill_bar : (Instr.registerWrite 0 1 0 4 0).wellFormed = false := by decide
theorem test_ill_size : (Instr.registerWrite 0 0 0 3 0).wellFormed = false := by decide
theorem test_well_formed : (Instr.driveFound blankInfo).wellFormed = true ∧ (Instr.registerWrite 0 0 0 4 0).wellFormed = true ∧
    (Instr.dictRead R1 0x1000 1).wellFormed = true := by decide

/-! ### The spec's worked examples -/

/-- 06, below R189: block 251,424 of an extent of a 16+3 volume. -/
theorem test_geometry : 1300000 / ({ vol with k := 16, m := 3 } : Volume).extentBlocks = 1 ∧ pageBench 16 251424 = 491 ∧
    pageSett 16 251424 = 1 ∧ settMember 19 491 1 = 17 ∧ [16, 17, 18].map (settMember 19 491) = [13, 14, 15] ∧
    mirror.extentBlocks = 65536 ∧ pageBench 1 34464 = 1077 ∧ [0, 1, 2].map (settMember 3 1077) = [0, 1, 2] := by decide +kernel

/-- 09, below R292: the parities of a 3+2 bench. -/
theorem test_generator : gfEncode 3 2 [[0x12], [0x34], [0x56]] 1 = [[0x70], [0xF9]] := by decide +kernel

/-- 09: either lost data sett comes back from the parities. -/
theorem test_decode : gfPass 3 [(2, [0x56]), (3, [0x70]), (4, [0xF9])] 0 1 = [0x12] ∧
    gfPass 3 [(2, [0x56]), (3, [0x70]), (4, [0xF9])] 1 1 = [0x34] := by decide +kernel

/-- 11, below R369: the sets of two lines of the map cache. -/
theorem test_map_cache : (normalPlace 0x050D4000).1 = 0x6272 ∧ (normalPlace 0x050DC000).1 = 0x6277 := by decide +kernel

/-- 04, below R130: positions in the RING_DB format. -/
theorem test_ring_position : Pos.word ⟨true, 0⟩ = 0x80000000 ∧ Pos.ofWord 0x80000F00 = ⟨true, 0xF00⟩ ∧
    Pos.distance 4096 ⟨true, 0⟩ ⟨true, 0xF00⟩ = 0xF00 ∧ (Pos.advance ⟨true, 0xF00⟩ 4096 0x100) = ⟨false, 0⟩ := by decide +kernel

/-- 08, below R267: the chunks of a drive of 64 TB. -/
theorem test_chunks : chunkCount 64000000000000 = 238402 ∧ 256 * chunkCount 64000000000000 = 61030912 := by decide +kernel

/-- 16, below R527: sixty events a minute accrue one token in a second. -/
theorem test_bucket : bucketLevel { spent with clk := { svc.clk with uptime := svc.clk.uptime + secNs } } 0xBA02 = tokenUnit := by
  decide +kernel

/-- The row at 20 °C of R429 as a stored table. -/
def ocv20Block : Bytes :=
  [1, 21, 0, 0, 0xF6, 0, 10, 20, 30, 40, 50, 60, 0, 0, 0, 0] ++ (List.range 168).flatMap (fun n =>
    leBytes 2 ((ocv20.getD (n % 21 / 2) 0 + ocv20.getD ((n % 21 + 1) / 2) 0) / 2))

/-- 13, below R438: a pack fitted at 20 °C whose weakest cell reads 3,800 mV. -/
theorem test_pack_insert :
    (let s := { unlatched with dict := { svc.dict with objs := [(objKey 0 0x6006 1, .bytes ocv20Block)] }
                               tally := { unlatched.tally with pack := { unlatched.tally.pack with cells := cells4 3800 } } }
     (insertEstimate s).tally.gauge.e = 50 + 10 * 30 / 70) := by decide +kernel

end Sys2Proof.Tests
end

section
/-! # Every command answers a settled state

Each meaning is a tree of tests whose every leaf is `finish`, so each command answers a next state that settling has
gone over; and a cycle of the device clock changes nothing that settling compares. -/

namespace Sys2Proof.Machine

/-- The outcome of a meaning that ends in `finish`. -/
def Settles (o : Host.Outcome State Fault Refusal) : Prop := ∃ u, o = finish u

theorem settles_finish (u : State) : Settles (finish u) := ⟨u, rfl⟩

theorem settles_ite {p : Prop} [Decidable p] {a b : Host.Outcome State Fault Refusal} (ha : Settles a)
    (hb : Settles b) : Settles (if p then a else b) := by
  split
  · exact ha
  · exact hb

/-- A meaning that ends in `finish` answers a settled next state. -/
theorem Settles.next {o : Host.Outcome State Fault Refusal} (h : Settles o) : ∃ t, o = .next t ∧ Settled t := by
  obtain ⟨u, rfl⟩ := h
  exact ⟨settle u, rfl, settle_settled u⟩

/-- Every command ends in `finish`. The first group of cases tests more than one thing before, the second group a
single guard, and the others nothing. -/
theorem exec_settles (c : Instr) (s : State) : Settles (exec c s) := by
  cases c
  case' thermalWithdraw | dumpEnd | autoRestart | mgmtWatchdogExpiry | surpriseLinkDown | completionTimeout |
      portRelease | portCauseClear | acceptResume | noticeRepeatExpiry | invalidOpcode | slotReserve |
      writeThroughCommit | flushComplete | faceBenchWrite | faceHoldExpiry | logBenchWrite | benchOnMedia |
      mergeStart | mergeDone | fastLimitTick | driveDispatch | driveFailedQueue | rebuildStart | rebuildBench |
      rebuildComplete | relocationCopy | staleMemberReturn | benchReadDone | mismatchReread | scrubGroup |
      katIntervalExpiry | katRepeat | switchPortChange | identifyRetry | driveAdopt | adoptDone | evacuationDone |
      driveLossWaitExpiry | driveCmdOk | driveCmdTimeout | driveReadMedia | driveWriteFail | driveTransport |
      driveRecovered | recoveryTimerExpiry | driveCmdHardLimit | eccCorrected | logBlockCollect | fold | stripeVerify |
      vaultOpFail | packInsert | packRemove | restWindowEnd | qualifyEnd | learnStart | quoteSigned | pathLinkUp |
      ptpMessage | vaultMaintExpiry | testEnd | chargerSelftest | vaultOperationDone | metadataOnMedia |
      addressAutoconfig =>
    dsimp only [exec, execThermalWithdraw, execDumpEnd, execAutoRestart, execMgmtWatchdogExpiry, execSurpriseLinkDown,
      execCompletionTimeout, execPortRelease, execPortCauseClear, execAcceptResume, execNoticeRepeatExpiry,
      execInvalidOpcode, execSlotReserve, execWriteThroughCommit, execFlushComplete, execFaceBenchWrite,
      execFaceHoldExpiry, execLogBenchWrite, execBenchOnMedia, execMergeStart, execMergeDone, execFastLimitTick,
      execDriveDispatch, execDriveFailedQueue, execRebuildStart, execRebuildBench, execRebuildComplete,
      execRelocationCopy, execStaleMemberReturn, execBenchReadDone, execMismatchReread, execScrubGroup,
      execKatIntervalExpiry, execKatRepeat, execSwitchPortChange, execIdentifyRetry, execDriveAdopt, execAdoptDone,
      execEvacuationDone, execDriveLossWaitExpiry, execDriveCmdOk, execDriveCmdTimeout, execDriveReadMedia,
      execDriveWriteFail, execDriveTransport, execDriveRecovered, execRecoveryTimerExpiry, execDriveCmdHardLimit,
      execEccCorrected, execLogBlockCollect, execFold, execStripeVerify, execVaultOpFail, execPackInsert,
      execPackRemove, execRestWindowEnd, execQualifyEnd, execLearnStart, execQuoteSigned, execPathLinkUp,
      execPtpMessage, execVaultMaintExpiry, execTestEnd, execChargerSelftest, execVaultOperationDone,
      execMetadataOnMedia, execAddressAutoconfig]
    repeat' first | exact settles_finish _ | split
  case' standbyRailPowerUp | modResetNAssert | modResetNRelease | smbAlertResponse | thermalThrottle | thermalCritical |
      thermalTrip | inletLimit | pllLockLossShort | clockFault | restoreRound | driveWaitExpiry | serviceSetLoss |
      hostLinkUp | hotInsert | hotReset | flr | busMasterClear | busMasterSet | d3hotEntry | d3hotExit |
      unexpectedCompletion | releaseComplete | intPendingClear | msixUnmask | coalesceTimerExpiry | registerWrite |
      ringCreate | ringReset | ringResetDiscard | ringDelete | ringDb | pushWrite | phaseRefetch | ringFetchRetry |
      lockGrant | lockTableFree | writeDataEnd | pageDestage | logHoldExpiry | memberReplace | mergeAbandon |
      journalFlushExpiry | importScan | bgShareTick | freeChunksLow | mapPageFetch | mapFetchDone | mapWriteBack |
      errDecaySweep | groupLanesLost | driveFound | broadcastChange | driveLateCompletion | healthPollExpiry |
      eccUncorrectable | dumpRearm | armCheck | storeWrite | mediaJournalFlush | vaultRefresh | vaultPageLost |
      vaultTempSample | packSample | estimateUpdate | estimateStale | restWindowOpen | cvHoldEnd | chargerFault |
      learnDischargeBegin | learnDischargeEnd | learnResult | nvSlotWrite | nvSlotPeriodExpiry | estimatorStart |
      drbgHealthFail | pathSyncDone | pathLinkLoss | ledgerFlushExpiry | ledgerFlush | configWrite =>
    exact settles_ite (settles_finish _) (settles_finish _)
  all_goals exact settles_finish _

/-- Nothing that settling compares reads the device clock (R53). -/
theorem idle_settled {s : State} (h : Settled s) : Settled (idle s) := by
  unfold idle
  split
  · exact ⟨h.cache, h.causes, h.degraded, h.rate, h.status, h.vault, h.volumes⟩
  · exact h

/-- Settles O1: a step is a command, which ends in `finish`, or a cycle of the device clock. -/
theorem stepKeepsSettled : Obligations.StepKeepsSettled := by
  refine ⟨fun s s' h e => ?_, fun c s => (exec_settles c s).next⟩
  unfold step at e
  split at e
  · cases e
    exact idle_settled h
  · rename_i c rest _
    obtain ⟨t, k, ht⟩ := (exec_settles c { s with pending := rest }).next
    rw [k] at e
    cases e
    exact ht

/-- Settles O2: the reset state is in OFF, so the cache serves nothing and neither vault nor volumes are compared. -/
theorem resetSettled : Obligations.ResetSettled := by
  refine ⟨rfl, rfl, rfl, rfl, rfl, ?_, ?_⟩
  · intro h
    cases h
  · intro h
    cases h

end Sys2Proof.Machine
end

section
/-! # SMBus (R39 to R42)

The bits that a packed number holds, what the SMBus answers are made of, and the readings that a pass over the sensors
leaves. -/

namespace Sys2Proof.Machine

/-! ### Bytes and bits -/

/-- The number that `packBits` makes holds each flag in its bit. -/
theorem packBits_testBit (l : List Bool) (i : Nat) : (packBits l).testBit i = l.getD i false := by
  induction l generalizing i with
  | nil => simp [packBits]
  | cons b l ih =>
    cases i with
    | zero => cases b <;> simp [packBits, b2n, Nat.add_mod]
    | succ i =>
      have h : packBits (b :: l) / 2 = packBits l := by
        have hb : b2n b ≤ 1 := by cases b <;> decide
        rw [packBits]
        omega
      rw [Nat.testBit_succ, h, ih]
      rfl

theorem packBits_lt (l : List Bool) : packBits l < 2 ^ l.length := by
  induction l with
  | nil => simp [packBits]
  | cons b l ih =>
    have h : b2n b ≤ 1 := by cases b <;> decide
    simp only [packBits, List.length_cons, Nat.pow_succ]
    omega

@[simp] theorem leBytes_one (n : Nat) : leBytes 1 n = [BitVec.ofNat 8 n] := rfl

@[simp] theorem slice_length (b : Bytes) (off n : Nat) : (slice b off n).length = n := by
  simp only [slice, zeros, List.length_append, List.length_replicate, List.length_take, List.length_drop]
  omega

@[simp] theorem fit_length (n : Nat) (b : Bytes) : (fit n b).length = n := slice_length b 0 n

/-! ### Answers (R39) -/

/-- A read is answered with its data and one byte of Packet Error Code (R39). -/
theorem smbAnswer_reply (code : Nat) (d : Bytes) (s : State) : ∃ p : BitVec 8,
    smbAnswer code d s = modSide (fun x => { x with smbReply := some (d ++ [p]) }) s := ⟨_, rfl⟩

theorem smbRead_railed {s : State} (h : s.pw.rail = true) (code : Nat) (d : Bytes) :
    smbRead code d s = smbAnswer code d s := if_pos h

/-- A command that makes a read while the standby rail is present is answered with its data and one byte more. -/
theorem gives_smbRead {c : Instr} {s u : State} {code : Nat} {d : Bytes} (h : exec c s = finish (smbRead code d u))
    (hr : u.pw.rail = true) :
    ∃ p : BitVec 8, Gives c s (modSide (fun x => { x with smbReply := some (d ++ [p]) }) u) := by
  obtain ⟨p, hp⟩ := smbAnswer_reply code d u
  rw [smbRead_railed hr, hp] at h
  exact ⟨p, gives_of_finish h⟩

/-- What is answered last and SMB_ALERT_N are compared by nothing that settles (R39). -/
theorem settled_reply {s : State} (h : Settled s) (alert : Bool) (reply : Option Bytes) :
    Settled (modSide (fun x => { x with alert := alert, smbReply := reply }) s) :=
  ⟨h.cache, h.causes, h.degraded, h.rate, h.status, h.vault, h.volumes⟩

/-! ### Sensors read at the moment (R40) -/

/-- What `n` sensors read that are asked in turn. -/
def freeReadings (k n : Nat) : List Int := (List.range' k n).map Config.freeReading

theorem freeReadings_length (k n : Nat) : (freeReadings k n).length = n := by simp [freeReadings]

/-- Sensors that are asked in turn take the free readings in turn. -/
theorem foldl_senseNow (l : List Sensor) (s : State) : l.foldl (fun s x => senseNow x s) s =
    (l.zip (freeReadings s.free l.length)).foldl (fun s e => senseAt e.1 e.2 s)
      { s with free := s.free + l.length } := by
  induction l generalizing s with
  | nil => rfl
  | cons x l ih =>
    have e : s.free + 1 + l.length = s.free + (x :: l).length := by simp; omega
    rw [List.foldl_cons, ih]
    show List.foldl _ { senseNow x s with free := s.free + 1 + l.length } _ = _
    rw [e]
    rfl

/-- After a pass over the sensors of the module each reads what it was asked (R40). -/
theorem readings_sensed (rs : List Int) (hn : rs.length = 7) (s : State) (h : s.side.readings.length = 8) :
    moduleSensors.map (reading ((moduleSensors.zip rs).foldl (fun s e => senseAt e.1 e.2 s) s)) = rs := by
  match rs, hn with
  | [r1, r2, r3, r4, r5, r6, r7], _ =>
    simp [moduleSensors, senseAt, reading, sensorIndex, modSide, h]

/-- The highest reading is one of the readings, and no reading is above it (R40). -/
theorem tempMax_spec (s : State) : tempMax s ∈ moduleSensors.map (reading s) ∧
    ∀ r ∈ moduleSensors.map (reading s), r ≤ tempMax s := by
  have h : (reading s .die :: moduleSensors.map (reading s)).max? = some (tempMax s) := rfl
  obtain ⟨hm, hle⟩ := List.max?_eq_some_iff.1 h
  refine ⟨?_, fun r hr => hle r (List.mem_cons_of_mem _ hr)⟩
  rcases List.mem_cons.1 hm with e | m
  · rw [e]
    exact List.mem_cons_self
  · exact m

/-! ### The commands -/

/-- STATUS is answered as R41 packs it. -/
theorem smbStatus_replies {s : State} (h : s.pw.rail = true) : ∃ n, n < 128 ∧
    (∃ p : BitVec 8, Gives .smbStatus s
      (modSide (fun x => { x with smbReply := some ([BitVec.ofNat 8 n] ++ [p]) }) s)) ∧
    n.testBit 0 = serving s ∧ n.testBit 1 = (s.cache.mode == 1) ∧ n.testBit 2 = s.side.dumpAct ∧
    n.testBit 3 = faultLit s ∧ n.testBit 4 = moduleSensors.any (fun x => atOrAbove s x .throttle) ∧
    n.testBit 5 = (s.tally.pack.state == 1 && s.tally.gauge.reserveOk) ∧ n.testBit 6 = s.paths.right := by
  have b : ∀ i, (statusByte s).testBit i = _ := packBits_testBit _
  exact ⟨statusByte s, packBits_lt _, gives_smbRead rfl h, b 0, b 1, b 2, b 3, b 4, b 5, b 6⟩

/-- SMB_TEMP_INLET is answered with what the inlet reads at the moment (R40). -/
theorem smbTempInlet_replies {s : State} (h : s.pw.rail = true) (hl : s.side.readings.length = 8) :
    ∃ (r : Int) (p : BitVec 8), Gives .smbTempInlet s (modSide (fun x => { x with
      smbReply := some [BitVec.ofNat 8 (toTwos 8 r), p] }) (senseAt .inlet r { s with free := s.free + 1 })) := by
  have hr : reading (senseNow .inlet s) .inlet = Config.freeReading s.free := by
    simp [reading, senseNow, senseAt, sensorIndex, hl]
  obtain ⟨p, hp⟩ := smbAnswer_reply 1 (leBytes 1 (toTwos 8 (Config.freeReading s.free))) (senseNow .inlet s)
  refine ⟨Config.freeReading s.free, p, gives_of_finish (?_ : exec .smbTempInlet s = finish _)⟩
  show execSmbTempInlet s = _
  unfold execSmbTempInlet
  rw [if_pos h]
  simp only [hr, hp]
  rfl

/-- SMB_TEMP_MAX is answered with the highest of what the sensors on the module read at the moment (R40). -/
theorem smbTempMax_replies {s : State} (h : s.pw.rail = true) (hl : s.side.readings.length = 8) :
    ∃ (rs : List Int) (m : Int) (p : BitVec 8), rs.length = 7 ∧ m ∈ rs ∧ (∀ r ∈ rs, r ≤ m) ∧
      Gives .smbTempMax s (modSide (fun x => { x with smbReply := some [BitVec.ofNat 8 (toTwos 8 m), p] })
        ((moduleSensors.zip rs).foldl (fun s e => senseAt e.1 e.2 s) { s with free := s.free + 7 })) := by
  have hs := foldl_senseNow moduleSensors s
  have hrs := readings_sensed (freeReadings s.free 7) (freeReadings_length _ _) { s with free := s.free + 7 } hl
  generalize hu : (moduleSensors.zip (freeReadings s.free 7)).foldl (fun s e => senseAt e.1 e.2 s)
    { s with free := s.free + 7 } = u at hrs
  obtain ⟨hm, hle⟩ := tempMax_spec u
  rw [hrs] at hm hle
  obtain ⟨p, hp⟩ := smbAnswer_reply 2 (leBytes 1 (toTwos 8 (tempMax u))) u
  refine ⟨_, tempMax u, p, freeReadings_length _ _, hm, hle, gives_of_finish (?_ : exec .smbTempMax s = finish _)⟩
  show execSmbTempMax s = _
  unfold execSmbTempMax
  rw [if_pos h]
  have e : moduleSensors.foldl (fun s x => senseNow x s) s = u := hs.trans hu
  simp only [e, hu, hp]
  rfl

/-- The Alert Response Address is answered with the module's address, and SMB_ALERT_N is released (R39). -/
theorem smbAlertResponse_answers {s : State} (h : s.pw.rail = true) (hs : Settled s) (ha : s.side.alert = true) :
    ∃ p : BitVec 8, exec .smbAlertResponse s = .next (modSide (fun x => { x with
      alert := false, smbReply := some [BitVec.ofNat 8 (2 * (0x58 + s.side.smbAddr.toNat)), p] }) s) := by
  refine ⟨BitVec.ofNat 8 (pec (leBytes 1 0x19 ++ leBytes 1 (2 * smbAddress s))), ?_⟩
  show execSmbAlertResponse s = _
  unfold execSmbAlertResponse
  rw [if_pos (by simp [h, ha])]
  exact congrArg Host.Outcome.next (settle_of_settled _ (settled_reply hs _ _))

/-- Settles O4: each read is the answer of its row of the table. -/
theorem smbusReads : Obligations.SmbusReads := by
  intro s hr
  refine ⟨⟨smbStatus_replies hr, smbTempInlet_replies hr, smbTempMax_replies hr, ?_, ?_⟩, ?_,
    smbAlertResponse_answers hr⟩
  · obtain ⟨p, hp⟩ := gives_smbRead (c := .smbPowerIn) (s := s) rfl hr
    exact ⟨_, _, p, hp⟩
  · exact gives_smbRead rfl hr
  · intro code
    exact gives_of_finish rfl

/-- Settles O5: the block is its length and its 32 bytes, and IDENT is a read like the others. -/
theorem identBlock : Obligations.IdentBlock := by
  intro s hr
  have hl : ∀ t, t = "YE-4800-E" ∨ t = "YE-4800-A" → (ascii t).length = 9 := by
    rintro t (rfl | rfl) <;> rfl
  have hc : (ascii (if Config.isE then "YE-4800-E" else "YE-4800-A")).length = 9 := hl _ (by split <;> simp)
  have ho : orderCode = ascii (if Config.isE then "YE-4800-E" else "YE-4800-A") ++ List.replicate 7 0x20 := by
    unfold orderCode
    simp only [hc]
  obtain ⟨p, hp⟩ := gives_smbRead (c := .smbIdent) (s := s) rfl hr
  refine ⟨_, _, p, rfl, rfl, ?_, ?_⟩
  · simp only [List.length_append, hc, fit_length, slice_length]
    rfl
  · rw [← ho]
    exact hp

end Sys2Proof.Machine
end

section
/-! # What settling and recorded events leave to read

A value that is read from neither the ledger, the notice queues nor what settling compares is the same in the settled
state; and a recorded event before a named update is one behind it. -/

namespace Sys2Proof.Machine

/-! ### Reading a settled state -/

/-- What two states that agree apart from events and settling both show. -/
theorem apart_read {α : Type} {s t : State} (h : t.apart = s.apart) (f : State → α)
    (hf : ∀ u : State, f u = f u.apart) : f t = f s := by
  rw [hf t, h, ← hf s]

/-- What the settled state shows as the state did before. -/
theorem settle_read {α : Type} (f : State → α) (hf : ∀ u : State, f u = f u.apart) (s : State) : f (settle s) = f s :=
  apart_read (settle_apart s) f hf

section
variable (s : State)
@[simp] theorem settle_pw_state : (settle s).pw.state = s.pw.state := settle_read (·.pw.state) (fun _ => rfl) s
@[simp] theorem settle_pw_cause : (settle s).pw.cause = s.pw.cause := settle_read (·.pw.cause) (fun _ => rfl) s
@[simp] theorem settle_pw_capped : (settle s).pw.capped = s.pw.capped := settle_read (·.pw.capped) (fun _ => rfl) s
@[simp] theorem settle_pw_p12v : (settle s).pw.p12v = s.pw.p12v := settle_read (·.pw.p12v) (fun _ => rfl) s
@[simp] theorem settle_pw_hold : (settle s).pw.hold = s.pw.hold := settle_read (·.pw.hold) (fun _ => rfl) s
@[simp] theorem settle_pw_holdover : (settle s).pw.holdover = s.pw.holdover :=
  settle_read (·.pw.holdover) (fun _ => rfl) s
@[simp] theorem settle_pw_faults : (settle s).pw.faults = s.pw.faults := settle_read (·.pw.faults) (fun _ => rfl) s
@[simp] theorem settle_side_dumpAct : (settle s).side.dumpAct = s.side.dumpAct :=
  settle_read (·.side.dumpAct) (fun _ => rfl) s
@[simp] theorem settle_side_pwrGood : (settle s).side.pwrGood = s.side.pwrGood :=
  settle_read (·.side.pwrGood) (fun _ => rfl) s
@[simp] theorem settle_clk : (settle s).clk = s.clk := settle_read State.clk (fun _ => rfl) s
@[simp] theorem settle_rings : (settle s).rings = s.rings := settle_read State.rings (fun _ => rfl) s
@[simp] theorem settle_ce : (settle s).ce = s.ce := settle_read State.ce (fun _ => rfl) s
@[simp] theorem settle_dump : (settle s).dump = s.dump := settle_read State.dump (fun _ => rfl) s
@[simp] theorem settle_dict : (settle s).dict = s.dict := settle_read State.dict (fun _ => rfl) s
@[simp] theorem settle_paths : (settle s).paths = s.paths := settle_read State.paths (fun _ => rfl) s
@[simp] theorem settle_pack : (settle s).tally.pack = s.tally.pack := settle_read (·.tally.pack) (fun _ => rfl) s
@[simp] theorem settle_charger : (settle s).tally.charger = s.tally.charger :=
  settle_read (·.tally.charger) (fun _ => rfl) s
@[simp] theorem settle_learn : (settle s).tally.learn = s.tally.learn := settle_read (·.tally.learn) (fun _ => rfl) s
@[simp] theorem settle_reserveOk : (settle s).tally.gauge.reserveOk = s.tally.gauge.reserveOk :=
  settle_read (·.tally.gauge.reserveOk) (fun _ => rfl) s
@[simp] theorem settle_energyLow : (settle s).tally.gauge.energyLow = s.tally.gauge.energyLow :=
  settle_read (·.tally.gauge.energyLow) (fun _ => rfl) s
@[simp] theorem settle_u0 : (settle s).tally.gauge.u0 = s.tally.gauge.u0 :=
  settle_read (·.tally.gauge.u0) (fun _ => rfl) s
@[simp] theorem settle_capLearned : (settle s).tally.gauge.capLearned = s.tally.gauge.capLearned :=
  settle_read (·.tally.gauge.capLearned) (fun _ => rfl) s
end

/-! ### Ports that agree apart from their notice queues -/

theorem apart_get (q : Ports) (p : PortId) : q.apart.get p = (q.get p).apart := by
  unfold Ports.get
  repeat' split
  all_goals rfl

/-- What two states show of a port that agree apart from events and settling. -/
theorem port_read {α : Type} {q q' : Ports} (h : q'.apart = q.apart) (p : PortId) (f : Port → α)
    (hf : ∀ v : Port, f v = f v.apart) : f (q'.get p) = f (q.get p) := by
  rw [hf (q'.get p), ← apart_get, h, apart_get, ← hf]

theorem settle_ports_apart (s : State) : (settle s).ports.apart = s.ports.apart :=
  Part.same_of_apart (settle_apart s) .ports

section
variable (s : State) (p : PortId)
@[simp] theorem settle_port_cfg : ((settle s).ports.get p).cfg = (s.ports.get p).cfg :=
  port_read (settle_ports_apart s) p Port.cfg (fun _ => rfl)
@[simp] theorem settle_port_link : ((settle s).ports.get p).link = (s.ports.get p).link :=
  port_read (settle_ports_apart s) p Port.link (fun _ => rfl)
@[simp] theorem settle_port_reqs : ((settle s).ports.get p).reqs = (s.ports.get p).reqs :=
  port_read (settle_ports_apart s) p Port.reqs (fun _ => rfl)
@[simp] theorem settle_port_intPending : ((settle s).ports.get p).intPending = (s.ports.get p).intPending :=
  port_read (settle_ports_apart s) p Port.intPending (fun _ => rfl)
@[simp] theorem settle_port_isHeld : ((settle s).ports.get p).isHeld = (s.ports.get p).isHeld :=
  port_read (settle_ports_apart s) p Port.isHeld (fun _ => rfl)
end

/-! ### Recorded events before an update -/

theorem Recorded.modPw {s t : State} (h : Recorded s t) (f : Power → Power) :
    Recorded (Machine.modPw f s) (Machine.modPw f t) := by
  obtain ⟨h1, h2, h3⟩ := h
  refine ⟨?_, h2, h3⟩
  rw [h1]
  rfl

/-- A command gives what its meaning settles, but for recorded events. -/
theorem gives_of_recorded {c : Instr} {s u v : State} (h : exec c s = finish u) (k : Recorded v u) : Gives c s v :=
  gives_of_finish_apart h k.apart

/-- The power state is the one entered, and the change is recorded (R58). -/
theorem setPower_recorded (st : PState) (s : State) :
    Recorded (modPw (fun p => { p with state := st }) s) (setPower st s) := by
  unfold setPower
  split
  · rename_i h
    have e : modPw (fun p => { p with state := st }) s = s := by
      rw [← h]
      rfl
    rw [e]
    exact .rfl
  · exact event_recorded _ _ _ _ _

@[simp] theorem setPower_pw (st : PState) (s : State) : (setPower st s).pw = { s.pw with state := st } := by
  have h := (setPower_recorded st s).1
  rw [h]
  rfl

@[simp] theorem setPower_side (st : PState) (s : State) : (setPower st s).side = s.side := by
  have h := (setPower_recorded st s).1
  rw [h]
  rfl

@[simp] theorem setPower_ce (st : PState) (s : State) : (setPower st s).ce = s.ce := by
  have h := (setPower_recorded st s).1
  rw [h]
  rfl

@[simp] theorem setPower_tally (st : PState) (s : State) : (setPower st s).tally = s.tally := by
  have h := (setPower_recorded st s).1
  rw [h]
  rfl

end Sys2Proof.Machine
end

section
/-! # The energy store's operations (13)

Which parts of the energy store its shared operations change, and what each leaves to read. -/

namespace Sys2Proof.Machine

/-! ### Slots (R443, R444) -/

/-- `t` differs from `s` in the two NOR slots and their times at most. -/
def SlotsOnly (s t : State) : Prop :=
  ∃ a b l d, t = { s with tally := { s.tally with slot0 := a, slot1 := b, lastSlot := l, slotDue := d } }

theorem writeSlot_slotsOnly (s : State) : SlotsOnly s (writeSlot s) := by
  unfold writeSlot
  dsimp only
  split
  · exact ⟨_, s.tally.slot1, _, _, rfl⟩
  · exact ⟨s.tally.slot0, _, _, _, rfl⟩

theorem slotFallsDue_slotsOnly (s : State) : SlotsOnly s (slotFallsDue s) := by
  unfold slotFallsDue
  split
  · exact writeSlot_slotsOnly s
  · exact ⟨s.tally.slot0, s.tally.slot1, s.tally.lastSlot, true, rfl⟩

theorem SlotsOnly.onlyChanges {s t : State} (h : SlotsOnly s t) : OnlyChanges [.tally] s t := by
  obtain ⟨a, b, l, d, rfl⟩ := h
  exact onlyChanges_modTally (f := fun t => { t with slot0 := a, slot1 := b, lastSlot := l, slotDue := d })

/-- What is read apart from the slots is as it was. -/
theorem SlotsOnly.read {α : Type} {s t : State} (h : SlotsOnly s t) (f : State → α)
    (hf : ∀ (u : State) a b l d, f { u with tally := { u.tally with slot0 := a, slot1 := b, lastSlot := l, slotDue := d } } =
      f u) : f t = f s := by
  obtain ⟨a, b, l, d, rfl⟩ := h
  exact hf s a b l d

section
variable (s : State)
@[simp] theorem writeSlot_pack : (writeSlot s).tally.pack = s.tally.pack :=
  (writeSlot_slotsOnly s).read (·.tally.pack) (fun _ _ _ _ _ => rfl)
@[simp] theorem writeSlot_learn : (writeSlot s).tally.learn = s.tally.learn :=
  (writeSlot_slotsOnly s).read (·.tally.learn) (fun _ _ _ _ _ => rfl)
@[simp] theorem writeSlot_pw : (writeSlot s).pw = s.pw :=
  (writeSlot_slotsOnly s).read (·.pw) (fun _ _ _ _ _ => rfl)
@[simp] theorem slotFallsDue_pack : (slotFallsDue s).tally.pack = s.tally.pack :=
  (slotFallsDue_slotsOnly s).read (·.tally.pack) (fun _ _ _ _ _ => rfl)
@[simp] theorem slotFallsDue_charger : (slotFallsDue s).tally.charger = s.tally.charger :=
  (slotFallsDue_slotsOnly s).read (·.tally.charger) (fun _ _ _ _ _ => rfl)
@[simp] theorem slotFallsDue_gauge : (slotFallsDue s).tally.gauge = s.tally.gauge :=
  (slotFallsDue_slotsOnly s).read (·.tally.gauge) (fun _ _ _ _ _ => rfl)
@[simp] theorem slotFallsDue_learn : (slotFallsDue s).tally.learn = s.tally.learn :=
  (slotFallsDue_slotsOnly s).read (·.tally.learn) (fun _ _ _ _ _ => rfl)
end

/-! ### Events of the store -/

@[simp] theorem packEvent_tally (s : State) : (packEvent s).tally = s.tally := event_tally _ _ _ _ _

@[simp] theorem learnEvent_tally (sev q : Nat) (s : State) : (learnEvent sev q s).tally = s.tally :=
  event_tally _ _ _ _ _

@[simp] theorem learnEvent_pw (sev q : Nat) (s : State) : (learnEvent sev q s).pw = s.pw := event_pw _ _ _ _ _

theorem onlyChanges_packEvent {l : List Part} {s : State} : OnlyChanges l s (packEvent s) := onlyChanges_event

theorem onlyChanges_learnEvent {l : List Part} {sev q : Nat} {s : State} : OnlyChanges l s (learnEvent sev q s) :=
  onlyChanges_event

/-! ### The charger (R423 to R426) -/

/-- `t` differs from `s` in the charger's state and cause, ENERGY_LOW and RESERVE_OK, and in what is recorded. -/
structure ChargerMoved (s t : State) : Prop where
  parts : OnlyChanges [.tally] s t
  pack : t.tally.pack = s.tally.pack
  learn : t.tally.learn = s.tally.learn
  restOpen : t.tally.charger.restOpen = s.tally.charger.restOpen
  u0 : t.tally.gauge.u0 = s.tally.gauge.u0
  capLearned : t.tally.gauge.capLearned = s.tally.gauge.capLearned

theorem ChargerMoved.refl (s : State) : ChargerMoved s s := ⟨.refl, rfl, rfl, rfl, rfl, rfl⟩

theorem chargerMoved_modCharger {f : Charger → Charger} (s : State) (h : ∀ c, (f c).restOpen = c.restOpen) :
    ChargerMoved s (modCharger f s) := ⟨onlyChanges_modCharger, rfl, rfl, h _, rfl, rfl⟩

/-- The charger enters FAULT with the cause where a pack is there and it is not in FAULT yet (R425). -/
theorem chargerFaultWith_fault {cause : Nat} {s : State} (hp : s.tally.pack.state = 1)
    (hc : s.tally.charger.state ≠ .fault) :
    (chargerFaultWith cause s).tally.charger.state = .fault ∧ (chargerFaultWith cause s).tally.charger.fault = cause ∧
      (chargerFaultWith cause s).tally.gauge.reserveOk = false ∧
      (chargerFaultWith cause s).tally.gauge.energyLow = 0 := by
  unfold chargerFaultWith
  simp [hp, hc]

theorem chargerFaultWith_moved (cause : Nat) (s : State) : ChargerMoved s (chargerFaultWith cause s) := by
  unfold chargerFaultWith
  split
  · exact .refl s
  · refine ⟨?_, ?_, ?_, ?_, ?_, ?_⟩
    · exact (onlyChanges_modCharger.trans onlyChanges_modGauge).trans onlyChanges_packEvent
    all_goals simp

theorem beginCharge_moved (s : State) : ChargerMoved s (beginCharge s) := by
  unfold beginCharge
  split
  · exact chargerFaultWith_moved 4 s
  · exact chargerMoved_modCharger s (fun _ => rfl)

theorem chargerStep_moved (s : State) : ChargerMoved s (chargerStep s) := by
  unfold chargerStep
  dsimp only
  split
  · exact .refl s
  split
  · exact chargerMoved_modCharger s (fun _ => rfl)
  split
  · exact beginCharge_moved s
  · exact chargerMoved_modCharger s (fun _ => rfl)

/-- Without a pack the charger is in NO_PACK (R424). -/
theorem chargerStep_noPack {s : State} (h : s.tally.pack.state ≠ 1) :
    (chargerStep s).tally.charger.state = .noPack := by
  have n : chargerNext s = .noPack := by
    unfold chargerNext
    simp [h]
  unfold chargerStep
  simp only [n]
  split
  · rename_i e
    exact e.symm
  · simp [ChState.charging]

/-- In FAULT the charger stays (R425). -/
theorem chargerStep_fault {s : State} (hp : s.tally.pack.state = 1) (hc : s.tally.charger.state = .fault) :
    chargerStep s = s := by
  have n : chargerNext s = .fault := by
    unfold chargerNext
    simp [hp, hc]
  unfold chargerStep
  simp [n, hc]

/-- DONE is entered, and a slot falls due (R444). -/
theorem onlyChanges_chargerDone {s : State} : OnlyChanges [.tally] s (chargerDone s) :=
  onlyChanges_modCharger.trans (slotFallsDue_slotsOnly _).onlyChanges

@[simp] theorem chargerDone_state (s : State) : (chargerDone s).tally.charger.state = .done := by
  unfold chargerDone
  simp

/-! ### The gauge (R431, R433, R437, R438) -/

theorem onlyChanges_gaugeBounds {s : State} : OnlyChanges [.tally] s (gaugeBounds s) :=
  (onlyChanges_modGauge.trans onlyChanges_modGauge).trans onlyChanges_modGauge

section
variable (s : State)
@[simp] theorem gaugeBounds_pack : (gaugeBounds s).tally.pack = s.tally.pack := rfl
@[simp] theorem gaugeBounds_charger : (gaugeBounds s).tally.charger = s.tally.charger := rfl
@[simp] theorem gaugeBounds_learn : (gaugeBounds s).tally.learn = s.tally.learn := rfl
@[simp] theorem gaugeBounds_u0 : (gaugeBounds s).tally.gauge.u0 = s.tally.gauge.u0 := rfl
@[simp] theorem gaugeBounds_capLearned : (gaugeBounds s).tally.gauge.capLearned = s.tally.gauge.capLearned := rfl
end

/-- An insertion starts the estimate anew and leaves the pack (R438). -/
theorem insertEstimate_spec (s : State) : OnlyChanges [.tally] s (insertEstimate s) ∧
    (insertEstimate s).tally.pack = s.tally.pack ∧ (insertEstimate s).tally.gauge.u0 = 5 ∧
    (insertEstimate s).tally.gauge.capLearned = 0 ∧ (insertEstimate s).tally.learn.due = true := by
  unfold insertEstimate
  refine ⟨?_, ?_, ?_, ?_, ?_⟩
  · refine OnlyChanges.trans ?_ (slotFallsDue_slotsOnly _).onlyChanges
    refine OnlyChanges.trans ?_ onlyChanges_modCharger
    refine OnlyChanges.trans ?_ onlyChanges_modGauge
    refine OnlyChanges.trans ?_ onlyChanges_gaugeBounds
    exact onlyChanges_modGauge.trans onlyChanges_modLearn
  all_goals simp

/-! ### The learn cycle (R442) -/

theorem abandonLearn_of_not_running {s : State} (h : learnRunning s = false) : abandonLearn s = s := by
  unfold abandonLearn
  simp [h]

theorem onlyChanges_throttled {s : State} : OnlyChanges [.pw] s (throttled s) := by
  unfold throttled
  split
  · exact (onlyChanges_modPw (f := fun p => { p with capped := true })).trans onlyChanges_setPower
  · exact .refl

theorem onlyChanges_enterService {s : State} : OnlyChanges [.pw] s (enterService s) := by
  unfold enterService throttleNow
  split
  · exact onlyChanges_setPower.trans onlyChanges_throttled
  · exact onlyChanges_setPower

/-- What abandoning a learn cycle can change (R442). -/
theorem onlyChanges_abandonLearn {s : State} : OnlyChanges [.pw, .tally] s (abandonLearn s) := by
  unfold abandonLearn
  extract_lets a b c d
  split
  · have hb : OnlyChanges [.pw, .tally] s b :=
      (onlyChanges_modLearn.mono (by decide)).trans onlyChanges_learnEvent
    have hc : OnlyChanges [.pw, .tally] s c := hb.trans ((writeSlot_slotsOnly b).onlyChanges.mono (by decide))
    have hd : OnlyChanges [.pw, .tally] s d := by
      simp only [d]
      split
      · exact hc.trans (onlyChanges_enterService.mono (by decide))
      · exact hc
    split
    · exact hd.trans (onlyChanges_modCharger.mono (by decide))
    · exact hd
  · exact .refl

/-- In SERVICE or in a THROTTLE already capped, THROTTLE follows with its input capped (R49, R58). -/
theorem throttled_pw {s : State} (h : s.pw.state = .service ∨ s.pw.state = .throttle ∧ s.pw.capped = true) :
    (throttled s).pw.state = .throttle ∧ (throttled s).pw.capped = true := by
  unfold throttled
  rcases h with h | ⟨h, hc⟩
  · simp [h]
  · simp [h, hc]

@[simp] theorem throttled_tally (s : State) : (throttled s).tally = s.tally := by
  unfold throttled
  split
  · simp
  · rfl

/-- SERVICE is entered, or at once THROTTLE with its input capped (R58). -/
theorem enterService_pw (s : State) : (enterService s).pw.state = .service ∨
    (enterService s).pw.state = .throttle ∧ (enterService s).pw.capped = true := by
  unfold enterService throttleNow
  split
  · exact .inr (throttled_pw (.inl (by simp)))
  · exact .inl (by simp)

@[simp] theorem enterService_tally (s : State) : (enterService s).tally = s.tally := by
  unfold enterService throttleNow
  split <;> simp

/-- A cycle that runs in LEARN is abandoned, and LEARN gives way to SERVICE (R442). -/
theorem abandonLearn_learn {s : State} (hl : learnRunning s = true) (hs : s.pw.state = .learn) :
    (abandonLearn s).tally.learn.state = .abandoned ∧ ((abandonLearn s).pw.state = .service ∨
      (abandonLearn s).pw.state = .throttle ∧ (abandonLearn s).pw.capped = true) := by
  unfold abandonLearn
  extract_lets a b c d
  have hd : d = enterService c := if_pos (by simp [c, b, a, hs])
  have hlearn : d.tally.learn.state = .abandoned := by simp [hd, c, b, a]
  have hpw := enterService_pw c
  rw [← hd] at hpw
  rw [if_pos (by simp [hl, hs])]
  split
  · exact ⟨hlearn, hpw⟩
  · exact ⟨hlearn, hpw⟩

/-- Abandoning a learn cycle leaves the pack as it is. -/
@[simp] theorem abandonLearn_pack (s : State) : (abandonLearn s).tally.pack = s.tally.pack := by
  unfold abandonLearn
  extract_lets a b c d
  have hd : d.tally.pack = s.tally.pack := by
    simp only [d]
    split <;> simp [c, b, a]
  repeat' split
  · simpa using hd
  · exact hd
  · rfl

/-- A dump is neither begun nor left by abandoning a learn cycle (R442). -/
theorem abandonLearn_dump (s : State) : (abandonLearn s).pw.state = .dump ↔ s.pw.state = .dump := by
  by_cases hd : s.pw.state = .dump
  · have e : abandonLearn s = s := by
      unfold abandonLearn
      simp [hd]
    rw [e]
  · refine ⟨fun h => absurd h ?_, fun h => absurd h hd⟩
    unfold abandonLearn
    extract_lets a b c e
    have he : e.pw.state ≠ .dump := by
      simp only [e]
      split
      · rcases enterService_pw c with k | ⟨k, -⟩ <;> simp [k]
      · simpa [c, b, a] using hd
    repeat' split
    · exact he
    · exact he
    · exact hd

end Sys2Proof.Machine
end

section
/-! # Thermal levels (R49) -/

namespace Sys2Proof.Machine

/-! ### Sensors -/

theorem sensorIndex_injective : Function.Injective sensorIndex := by
  intro x y
  cases x <;> cases y <;> decide

/-- A sensor that is set to a level stands at it, and every other one as it did. -/
theorem levelOf_setReading (s : State) (x y : Sensor) (r : Int) (l : Level) (h : sensorIndex x < s.side.levels.length) :
    levelOf (setReading x r l s) y = if y = x then l else levelOf s y := by
  unfold levelOf setReading
  by_cases e : y = x
  · subst e
    simp [h]
  · have n : sensorIndex x ≠ sensorIndex y := fun k => e (sensorIndex_injective k.symm)
    simp [List.getD_eq_getElem?_getD, List.getElem?_set_ne n, e]

/-- A sensor that stands at a level is among those the sideband holds. -/
theorem sensorIndex_lt_of_levelOf {s : State} {x : Sensor} (h : levelOf s x ≠ .none) :
    sensorIndex x < s.side.levels.length := by
  refine Nat.lt_of_not_le (fun n => h ?_)
  simp [levelOf, List.getD_eq_getElem?_getD, List.getElem?_eq_none n]

/-- A reading at a threshold that the sensor does not stand at yet reaches its level (R49). -/
theorem reaches_of_le {s : State} {x : Sensor} {l : Level} {th r : Int} (hr : s.pw.rail = true)
    (hl : levelCode (levelOf s x) < levelCode l) (ht : threshold x l = some th) (h : th ≤ r) :
    reaches s x l r = true := by
  simp [reaches, hr, hl, ht, h]

/-- The thresholds of R49 for the throttle level. -/
theorem threshold_throttle {x : Sensor} {th : Int} (h : (x, th) ∈ ([(.die, 100), (.hbm0, 85), (.hbm1, 85), (.hbm2, 85),
    (.hbm3, 85), (.vault, 70), (.regulator, 110)] : List (Sensor × Int))) : threshold x .throttle = some th := by
  simp only [List.mem_cons, Prod.mk.injEq, List.not_mem_nil, or_false] at h
  rcases h with ⟨rfl, rfl⟩ | ⟨rfl, rfl⟩ | ⟨rfl, rfl⟩ | ⟨rfl, rfl⟩ | ⟨rfl, rfl⟩ | ⟨rfl, rfl⟩ | ⟨rfl, rfl⟩ <;> rfl

/-- The thresholds of R49 for the critical level of the sensors on the module. -/
theorem threshold_critical {x : Sensor} {th : Int} (h : (x, th) ∈ ([(.die, 110), (.hbm0, 95), (.hbm1, 95), (.hbm2, 95),
    (.hbm3, 95), (.vault, 85), (.regulator, 120)] : List (Sensor × Int))) :
    threshold x .critical = some th ∧ x ≠ .inlet := by
  simp only [List.mem_cons, Prod.mk.injEq, List.not_mem_nil, or_false] at h
  rcases h with ⟨rfl, rfl⟩ | ⟨rfl, rfl⟩ | ⟨rfl, rfl⟩ | ⟨rfl, rfl⟩ | ⟨rfl, rfl⟩ | ⟨rfl, rfl⟩ | ⟨rfl, rfl⟩ <;>
    exact ⟨rfl, by decide⟩

/-- The thresholds of R49 for the trip level. -/
theorem threshold_trip {x : Sensor} {th : Int} (h : (x, th) ∈ ([(.die, 118), (.hbm0, 105), (.hbm1, 105), (.hbm2, 105),
    (.hbm3, 105), (.regulator, 125)] : List (Sensor × Int))) : threshold x .trip = some th := by
  simp only [List.mem_cons, Prod.mk.injEq, List.not_mem_nil, or_false] at h
  rcases h with ⟨rfl, rfl⟩ | ⟨rfl, rfl⟩ | ⟨rfl, rfl⟩ | ⟨rfl, rfl⟩ | ⟨rfl, rfl⟩ | ⟨rfl, rfl⟩ <;> rfl

/-! ### Levels reached (R49) -/

theorem thermalEvent_recorded (x : Sensor) (l : Level) (sev : Nat) (r : Int) (s : State) :
    Recorded s (thermalEvent x l sev r s) := event_recorded _ _ _ _ _

/-- A thermal event leaves the learn cycle as it was. -/
theorem learnRunning_thermalEvent (x : Sensor) (l k : Level) (sev : Nat) (r : Int) (s : State) :
    learnRunning (thermalEvent x k sev r (setReading x r l s)) = learnRunning s := by
  simp [learnRunning, thermalEvent, setReading]

/-- SERVICE gives way to THROTTLE with its input capped, but for the record (R49, R58). -/
theorem throttled_recorded (s : State) : Recorded
    (if s.pw.state = .service then modPw (fun p => { p with state := .throttle, capped := true }) s else s)
    (throttled s) := by
  unfold throttled
  split
  · exact setPower_recorded .throttle (modPw (fun p => { p with capped := true }) s)
  · exact .rfl

/-- With no learn cycle in progress a level reached sets the sensor and leaves SERVICE for THROTTLE (R49). -/
theorem enterThrottle_recorded (x : Sensor) (l : Level) (sev : Nat) (r : Int) (s : State) (h : learnRunning s = false) :
    Recorded (setReading x r l (if s.pw.state = .service then
        modPw (fun p => { p with state := .throttle, capped := true }) s else s))
      (enterThrottle (thermalEvent x l sev r (setReading x r l s))) := by
  have e := thermalEvent_recorded x l sev r (setReading x r l s)
  have hl := learnRunning_thermalEvent x l l sev r s
  have hs : (thermalEvent x l sev r (setReading x r l s)).pw.state = s.pw.state :=
    congrArg Power.state (event_pw _ _ _ _ _)
  unfold enterThrottle
  rw [abandonLearn_of_not_running (hl.trans h)]
  refine Recorded.trans ?_ (throttled_recorded _)
  rw [hs]
  split
  · exact e.modPw (fun p => { p with state := .throttle, capped := true })
  · exact e

/-- THERMAL_THROTTLE at its threshold with no learn cycle in progress (R49). -/
theorem gives_thermalThrottle {s : State} {x : Sensor} {r : Int} (h : reaches s x .throttle r = true)
    (hl : learnRunning s = false) : Gives (.thermalThrottle x r) s (setReading x r .throttle
      (if s.pw.state = .service then modPw (fun p => { p with state := .throttle, capped := true }) s else s)) :=
  gives_of_recorded (if_pos h) (enterThrottle_recorded x .throttle 1 r s hl)

/-- THERMAL_THROTTLE at its threshold in LEARN abandons the cycle and enters THROTTLE (R49, R442). -/
theorem ends_thermalThrottle_learn {s : State} {x : Sensor} {r : Int} (h : reaches s x .throttle r = true)
    (hs : s.pw.state = .learn) (hl : learnRunning s = true) :
    Ends (.thermalThrottle x r) s [.pw, .side, .tally, .vault, .lock] (fun t =>
      t.pw.state = .throttle ∧ t.pw.capped = true ∧ t.tally.learn.state = .abandoned) := by
  have hev := learnRunning_thermalEvent x .throttle .throttle 1 r s
  have hst : (thermalEvent x .throttle 1 r (setReading x r .throttle s)).pw.state = s.pw.state :=
    congrArg Power.state (event_pw _ _ _ _ _)
  have hc : OnlyChanges [.pw, .side, .tally, .vault, .lock] s
      (thermalEvent x .throttle 1 r (setReading x r .throttle s)) :=
    (onlyChanges_modSide.mono (by decide)).trans onlyChanges_event
  have e : exec (.thermalThrottle x r) s =
    finish (enterThrottle (thermalEvent x .throttle 1 r (setReading x r .throttle s))) := if_pos h
  generalize thermalEvent x .throttle 1 r (setReading x r .throttle s) = t at *
  obtain ⟨hlearn, hpw⟩ := abandonLearn_learn (hev.trans hl) (hst.trans hs)
  obtain ⟨hthr, hcap⟩ := throttled_pw hpw
  refine ends_of_finish e ?_ ?_
  · exact (hc.trans (onlyChanges_abandonLearn.mono (by decide))).trans (onlyChanges_throttled.mono (by decide))
  · simp [enterThrottle, hthr, hcap, hlearn]

/-- THERMAL_CRITICAL at the threshold of a sensor on the module with no learn cycle in progress (R49). -/
theorem gives_thermalCritical {s : State} {x : Sensor} {r : Int} (h : reaches s x .critical r = true) (hx : x ≠ .inlet)
    (hl : learnRunning s = false) : Gives (.thermalCritical x r) s (setReading x r .critical
      (if s.pw.state = .service then modPw (fun p => { p with state := .throttle, capped := true }) s else s)) :=
  gives_of_recorded (if_pos (by simp [h, hx])) (enterThrottle_recorded x .critical 2 r s hl)

/-- INLET_LIMIT at its code's limit plus 5 °C (R49). -/
theorem gives_inletLimit {s : State} {r : Int} (h : reaches s .inlet .critical r = true) :
    Gives (.inletLimit r) s (setReading .inlet r .critical s) :=
  gives_of_recorded (if_pos h) (thermalEvent_recorded _ _ _ _ _)

/-! ### Levels withdrawn (R49) -/

/-- From its throttle level a sensor falls to none 5 °C below the threshold (R49). -/
theorem levelAfter_throttle {x : Sensor} {th r : Int} (ht : threshold x .throttle = some th) (h : r ≤ th - 5) :
    levelAfter x .throttle r = .none := by
  have n : ¬(th - 5 < r) := by omega
  simp [levelAfter, List.find?, levelCode, ht, n]

/-- THROTTLE ends with the last level withdrawn (R49, R58). -/
theorem gives_thermalWithdraw {s : State} {x : Sensor} {th r : Int} (hr : s.pw.rail = true)
    (ht : threshold x .throttle = some th) (h : r ≤ th - 5) (hx : levelOf s x = .throttle) (hs : s.pw.state = .throttle)
    (ho : ∀ y ∈ moduleSensors, y ≠ x → levelOf s y = .none) :
    Gives (.thermalWithdraw x r) s (setReading x r .none
      (modPw (fun p => { p with state := .service, capped := false }) s)) := by
  have hlen : sensorIndex x < s.side.levels.length := sensorIndex_lt_of_levelOf (by simp [hx])
  have e := thermalEvent_recorded x .none 1 r (setReading x r .none s)
  have hst : (thermalEvent x .none 1 r (setReading x r .none s)).pw.state = .throttle :=
    (congrArg Power.state (event_pw _ _ _ _ _)).trans hs
  have hcool : sensorsHot (thermalEvent x .none 1 r (setReading x r .none s)) = false := by
    have hsame : sensorsHot (thermalEvent x .none 1 r (setReading x r .none s)) = sensorsHot (setReading x r .none s) :=
      e.same sensorsHot (fun _ _ _ _ => rfl)
    rw [hsame]
    unfold sensorsHot
    rw [List.any_eq_false]
    intro y hy
    rw [levelOf_setReading s x y r .none hlen]
    by_cases hyx : y = x
    · simp [hyx]
    · simp [hyx, ho y hy hyx]
  have hex : exec (.thermalWithdraw x r) s = finish (setPower .service (modPw (fun p => { p with capped := false })
      (thermalEvent x .none 1 r (setReading x r .none s)))) := by
    show execThermalWithdraw x r s = _
    unfold execThermalWithdraw
    simp [hx, levelAfter_throttle ht h, hr, hst, hcool]
  refine gives_of_recorded hex (Recorded.trans ?_ (setPower_recorded _ _))
  exact e.modPw (fun p => { p with state := .service, capped := false })

/-- Settles O6: each command by its own rule, its threshold read from R49's table. -/
theorem thermalLevels : Obligations.ThermalLevels := by
  intro s x th r hr
  refine ⟨fun hx hle hl => ?_, fun hx hle hl hrun => ?_, fun hle hl => ?_, fun hx hle hl hs ho => ?_⟩
  · have hre : reaches s x .throttle r = true :=
      reaches_of_le hr (by simp [hl, levelCode]) (threshold_throttle hx) hle
    exact ⟨gives_thermalThrottle hre, ends_thermalThrottle_learn hre⟩
  · obtain ⟨ht, hi⟩ := threshold_critical hx
    have hlt : levelCode (levelOf s x) < levelCode .critical := by
      rcases hl with hl | hl <;> simp [hl, levelCode]
    exact gives_thermalCritical (reaches_of_le hr hlt ht hle) hi hrun
  · have ht : inletLimit + 5 ≤ r := by
      unfold inletLimit
      split
      · rename_i e
        simpa [e] using hle
      · rename_i e
        simpa [e] using hle
    exact gives_inletLimit (reaches_of_le hr (by simp [hl, levelCode]) rfl ht)
  · exact gives_thermalWithdraw hr (threshold_throttle hx) hle hl hs ho

end Sys2Proof.Machine
end

section
/-! # What begins a dump (R58) -/

namespace Sys2Proof.Machine

/-! ### What cancelling commands leaves (R101) -/

/-- Giving up a command's slots leaves the commands in work (R101). -/
theorem cancelSlots_ce (p : PortId) (tag : Nat) (s : State) : (cancelSlots p tag s).ce = s.ce :=
  onlyChanges_cancelSlots (p := p) (tag := tag) (s := s) .ce (by decide)

/-- The Command Engine without what the commands of a list have in it: they and their locks (R101). -/
def CmdEngine.without (l : List Cmd) (k : CmdEngine) : CmdEngine :=
  { k with
    cmds := k.cmds.filter (fun d => l.all (fun c => !(d.port == c.port && d.tag == c.tag)))
    locks := k.locks.filter (fun d => l.all (fun c => !(d.port == c.port && d.tag == c.tag))) }

/-- A cancelled command is in work no more and holds no lock, and every other one stays (R101). -/
theorem cancelCmd_ce (c : Cmd) (s : State) : (cancelCmd c s).ce = s.ce.without [c] := by
  rw [← cancelSlots_ce c.port c.tag s]
  simp only [CmdEngine.without, List.all_cons, List.all_nil, Bool.and_true]
  rfl

/-- Once each of a list of commands has been cancelled, the engine is without them. -/
theorem foldl_cancelCmd_ce (l : List Cmd) (s : State) :
    (l.foldl (fun s c => cancelCmd c s) s).ce = s.ce.without l := by
  induction l generalizing s with
  | nil => simp [CmdEngine.without, List.filter_eq_self.2]
  | cons c l ih =>
    rw [List.foldl_cons, ih, cancelCmd_ce]
    simp only [CmdEngine.without, List.filter_filter, List.all_cons, List.all_nil, Bool.and_true]
    congr 2 <;> (funext d; exact Bool.and_comm _ _)

theorem foldl_modPort_ce (f : Port → Port) (l : List PortId) (s : State) :
    (l.foldl (fun s p => modPort p f s) s).ce = s.ce := by
  induction l generalizing s with
  | nil => rfl
  | cons p l ih => exact ih _

/-- Stopping every port leaves no command in work (R58). -/
theorem stopPorts_cmds (s : State) : (stopPorts s).ce.cmds = [] := by
  unfold stopPorts
  dsimp only
  rw [foldl_modPort_ce, foldl_cancelCmd_ce, CmdEngine.without, List.filter_eq_nil_iff]
  intro d hd h
  simpa using List.all_eq_true.1 h d hd

/-! ### Entering DUMP (R58) -/

/-- The power part as a dump begins: its cause stands, START and the capped input are over. -/
def dumpPower (cause : DumpCause) (p : Power) : Power :=
  { p with cause := some cause, startStep := 0, capped := false, state := .dump }

/-- What entering DUMP from a state but OFF and DUMP leaves: the power part but the degraded set last compared, and
what `DumpBegun` asks for. -/
theorem enterDump_spec {cause : DumpCause} {s : State} (ho : s.pw.state ≠ .off) (hd : s.pw.state ≠ .dump) :
    (enterDump cause s).pw.apart = (dumpPower cause s.pw).apart ∧
      DumpBegun cause (s.side.pwrGood && cause != .trip12V) (enterDump cause s) := by
  have a : OnlyChanges (.free :: .test :: .paths :: cancelParts) s (stopPorts (endMaint (abortTest 2 s))) :=
    ((onlyChanges_abortTest.mono (by decide)).trans (onlyChanges_endMaint.mono (by decide))).trans
      (onlyChanges_stopPorts.mono (by decide))
  have hcmds := stopPorts_cmds (endMaint (abortTest 2 s))
  unfold enterDump
  rw [if_neg (by simp [ho, hd])]
  dsimp only
  generalize stopPorts (endMaint (abortTest 2 s)) = u at *
  have hpw : u.pw.apart = s.pw.apart := a .pw (by decide)
  have hside : u.side.apart = s.side.apart := a .side (by decide)
  have hgood : u.side.pwrGood = s.side.pwrGood := (congrArg Sideband.pwrGood hside :)
  refine ⟨?_, ?_, ?_, ?_, ?_, ?_⟩
  · simp only [setPower_pw, modDump_pw, modSide_pw, modPw_pw]
    exact (congrArg (dumpPower cause) hpw :)
  · simp
  · simp
  · simp
  · simp [hgood]
  · simp [hcmds]

/-- A dump that has begun has begun in the settled state. -/
theorem DumpBegun.settle {c : DumpCause} {good : Bool} {t : State} (h : DumpBegun c good t) :
    DumpBegun c good (settle t) := by
  obtain ⟨h1, h2, h3, h4, h5⟩ := h
  exact ⟨by simp [h1], by simp [h2], by simp [h3], by simp [h4], by simp [h5]⟩

/-- A command that enters DUMP after changes to the parts a dump changes begins a dump. -/
theorem ends_enterDump {c : Instr} {s u : State} {cause : DumpCause} (h : exec c s = finish (enterDump cause u))
    (hc : cause ≠ .trip12V) (o : OnlyChanges dumpParts s u) (hu : u.pw.state = s.pw.state)
    (hg : u.side.pwrGood = s.side.pwrGood) (ho : s.pw.state ≠ .off) (hd : s.pw.state ≠ .dump) :
    Ends c s dumpParts (fun t => DumpBegun cause s.side.pwrGood t ∧ t.pw.apart = ((dumpPower cause u.pw).apart)) := by
  obtain ⟨hpw, hb⟩ := enterDump_spec (cause := cause) (s := u) (by rwa [hu]) (by rwa [hu])
  rw [hg, show (cause != .trip12V) = true by simpa using hc, Bool.and_true] at hb
  exact ends_of_finish h (o.trans onlyChanges_enterDump)
    ⟨hb.settle, (Part.same_of_apart (settle_apart _) .pw : (settle (enterDump cause u)).pw.apart = _).trans hpw⟩

theorem Ends.imp {c : Instr} {s : State} {l : List Part} {Q R : State → Prop} (h : Ends c s l Q)
    (k : ∀ t, Q t → R t) : Ends c s l R := by
  obtain ⟨t, he, hq, ho⟩ := h
  exact ⟨t, he, k t hq, ho⟩

/-! ### The causes -/

theorem awake_of {s : State} (ho : s.pw.state ≠ .off) (hd : s.pw.state ≠ .dump) : awake s = true := by
  simp [awake, ho, hd]

/-- The loss of 12 V begins a dump, PWR_GOOD falls and the charger loses its input (R45, R58, R424). -/
theorem ends_p12vTrip {s : State} (ho : s.pw.state ≠ .off) (hd : s.pw.state ≠ .dump) :
    Ends .p12vTrip s (dumpParts ++ [.tally]) (fun t => DumpBegun .trip12V false t ∧ t.pw.p12v = false) := by
  obtain ⟨hpw, hb⟩ := enterDump_spec (cause := .trip12V) (s := modPw (fun p => { p with p12v := false }) s) ho hd
  have o : OnlyChanges (dumpParts ++ [.tally]) s (enterDump .trip12V (modPw (fun p => { p with p12v := false }) s)) :=
    (onlyChanges_modPw.mono (by decide)).trans (onlyChanges_enterDump.mono (by decide))
  have e : exec .p12vTrip s = finish (modSide (fun x => { x with pwrGood := false })
    (chargerStep (enterDump .trip12V (modPw (fun p => { p with p12v := false }) s)))) := rfl
  generalize enterDump .trip12V (modPw (fun p => { p with p12v := false }) s) = u at *
  have hch : OnlyChanges [.tally] u (chargerStep u) := (chargerStep_moved u).parts
  have hpw' : (chargerStep u).pw.apart = u.pw.apart := hch .pw (by decide)
  have hside : (chargerStep u).side.apart = u.side.apart := hch .side (by decide)
  have hce : (chargerStep u).ce = u.ce := hch .ce (by decide)
  refine ends_of_finish e ((o.trans (hch.mono (by decide))).trans (onlyChanges_modSide.mono (by decide))) ⟨?_, ?_⟩
  · refine DumpBegun.settle ⟨?_, ?_, ?_, rfl, ?_⟩
    · exact (congrArg Power.state hpw' :).trans hb.state
    · exact (congrArg Power.cause hpw' :).trans hb.cause
    · exact (congrArg Sideband.dumpAct hside :).trans hb.act
    · exact (congrArg CmdEngine.cmds hce).trans hb.stopped
  · rw [settle_pw_p12v]
    exact (congrArg Power.p12v (hpw'.trans hpw) :)

/-- An assertion of MOD_RESET_N begins a dump and ends a fault hold (R36, R58). -/
theorem ends_modResetNAssert {s : State} (ho : s.pw.state ≠ .off) (hd : s.pw.state ≠ .dump)
    (h : s.side.modReset = true) : Ends .modResetNAssert s dumpParts (fun t =>
      DumpBegun .modReset s.side.pwrGood t ∧ t.pw.hold = false) := by
  refine (ends_enterDump (c := .modResetNAssert) (s := s) (if_pos h) (by decide) ?_ ?_ ?_ ho hd).imp
    (fun t k => ⟨k.1, ?_⟩)
  · exact (onlyChanges_modSide.mono (by decide)).trans (onlyChanges_modPw.mono (by decide))
  · rfl
  · rfl
  · exact (congrArg Power.hold k.2 :)

/-- A reading at the trip threshold begins a dump (R49, R58). -/
theorem ends_thermalTrip {s : State} {x : Sensor} {r : Int} (ho : s.pw.state ≠ .off) (hd : s.pw.state ≠ .dump)
    (h : reaches s x .trip r = true) :
    Ends (.thermalTrip x r) s dumpParts (DumpBegun .thermalTrip s.side.pwrGood) := by
  have e := thermalEvent_recorded x .trip 2 r (setReading x r .trip s)
  refine (ends_enterDump (c := .thermalTrip x r) (s := s) (if_pos h) (by decide) ?_ ?_ ?_ ho hd).imp (fun t k => k.1)
  · exact (onlyChanges_modSide.mono (by decide)).trans onlyChanges_event
  · exact e.same (·.pw.state) (fun _ _ _ _ => rfl)
  · exact e.same (·.side.pwrGood) (fun _ _ _ _ => rfl)

theorem mem_addFault (e : FaultEvent) (s : State) : e ∈ (addFault e s).pw.faults := by
  simp only [addFault, modPw_pw]
  split
  · rename_i h
    exact h
  · simp

/-- A clock fault begins a dump, in holdover and with FAULT lit (R51, R56). -/
theorem ends_clockFault {s : State} (stopped : Bool) (ho : s.pw.state ≠ .off) (hd : s.pw.state ≠ .dump) :
    Ends (.clockFault stopped) s dumpParts (fun t =>
      DumpBegun .clockFault s.side.pwrGood t ∧ t.pw.holdover = true ∧ faultLit t = true) := by
  have e : ∃ u d, exec (.clockFault stopped) s = finish (enterDump .clockFault (event 0x1004 2 0 d u)) ∧
      OnlyChanges dumpParts s u ∧ u.pw.state = s.pw.state ∧ u.side = s.side ∧ u.pw.holdover = true ∧
      .clockFault ∈ u.pw.faults :=
    ⟨_, _, if_pos (by simp [awake_of ho hd]),
      (onlyChanges_modPw.mono (by decide)).trans (onlyChanges_modPw.mono (by decide)), rfl, rfl, rfl, mem_addFault _ _⟩
  obtain ⟨u, d, e, o, hst, hside, hhold, hfault⟩ := e
  refine (ends_enterDump e (by decide) (o.trans onlyChanges_event) (by simp [hst]) (by simp [hside]) ho hd).imp
    (fun t k => ⟨k.1, ?_⟩)
  obtain ⟨-, k⟩ := k
  rw [event_pw] at k
  have hh : t.pw.holdover = u.pw.holdover := (congrArg Power.holdover k :)
  have hf : t.pw.faults = u.pw.faults := (congrArg Power.faults k :)
  refine ⟨hh.trans hhold, ?_⟩
  have hne : t.pw.faults.isEmpty = false := by
    rw [hf, List.isEmpty_eq_false_iff]
    exact List.ne_nil_of_mem hfault
  simp [faultLit, hne]

/-- The loss of a part of the minimal service set begins a dump (R58, R69). -/
theorem ends_serviceSetLoss {s : State} (part : ServicePart) (ho : s.pw.state ≠ .off) (hd : s.pw.state ≠ .dump) :
    Ends (.serviceSetLoss part) s dumpParts (DumpBegun .serviceSet s.side.pwrGood) := by
  refine (ends_enterDump (c := .serviceSetLoss part) (s := s) (if_pos (awake_of ho hd)) (by decide)
    ?_ ?_ ?_ ho hd).imp (fun t k => k.1)
  · cases part
    case managementCores | rootPll | hostPorts => exact onlyChanges_modPw.mono (by decide)
    case hbmStacks => exact onlyChanges_modCache.mono (by decide)
    case cooper => exact onlyChanges_modCooper.mono (by decide)
    all_goals exact .refl
  · cases part <;> rfl
  · cases part <;> rfl

/-- The second watchdog expiry within 10 minutes begins a dump (R63). -/
theorem ends_mgmtWatchdogExpiry {s : State} {w : Nat} (ho : s.pw.state ≠ .off) (hd : s.pw.state ≠ .dump)
    (hw : s.pw.lastWatchdog = some w) (h : s.clk.uptime ≤ w + 600 * secNs) :
    Ends .mgmtWatchdogExpiry s dumpParts (DumpBegun .mgmtWatchdog s.side.pwrGood) := by
  have e : exec .mgmtWatchdogExpiry s =
      finish (enterDump .mgmtWatchdog (modPw (fun p => { p with lastWatchdog := none }) s)) := by
    show execMgmtWatchdogExpiry s = _
    unfold execMgmtWatchdogExpiry
    simp [awake_of ho hd, hw, h]
  exact (ends_enterDump e (by decide) (onlyChanges_modPw.mono (by decide)) rfl rfl ho hd).imp (fun t k => k.1)

/-- Settles O7: each cause enters DUMP, and what it changes before lies in the parts a dump changes. -/
theorem dumpEntry : Obligations.DumpEntry := by
  intro s ho hd
  refine ⟨ends_p12vTrip ho hd, ends_modResetNAssert ho hd, fun x th r hx hr hle hl => ?_, fun stopped =>
    ends_clockFault stopped ho hd, fun part => ends_serviceSetLoss part ho hd, fun w => ends_mgmtWatchdogExpiry ho hd⟩
  have hlt : levelCode (levelOf s x) < levelCode .trip := by
    cases h : levelOf s x
    case trip => exact absurd h hl
    all_goals decide
  exact ends_thermalTrip ho hd (reaches_of_le hr hlt (threshold_trip hx) hle)

end Sys2Proof.Machine
end

section
/-! # Writes of the dictionary (R480, R481)

A channel that carries a write of a value in its row's range brings the write's own effect, and its status is the
outcome of the operation. -/

namespace Sys2Proof.Machine

/-! ### Numbers as a transport carries them (R11, R17) -/

@[simp] theorem leBytes_length (n v : Nat) : (leBytes n v).length = n := by
  induction n generalizing v with
  | zero => rfl
  | succ n ih => simp [leBytes, ih]

theorem leNat_leBytes (n v : Nat) : leNat (leBytes n v) = v % 256 ^ n := by
  induction n generalizing v with
  | zero => simp [leBytes, leNat, Nat.mod_one]
  | succ n ih =>
    simp only [leBytes, leNat, ih, BitVec.toNat_ofNat]
    rw [Nat.pow_succ' (m := 256), Nat.mod_mul (a := 256)]

@[simp] theorem putNum_length (big : Bool) (n v : Nat) : (putNum big n v).length = n := by
  cases big <;> simp [putNum, beBytes]

/-- A number is read back as it was put, in either byte order. -/
theorem takeNum_putNum (big : Bool) {n v : Nat} (h : v < 256 ^ n) : takeNum big (putNum big n v) = v := by
  cases big
  · simp [takeNum, putNum, leNat_leBytes, Nat.mod_eq_of_lt h]
  · simp [takeNum, putNum, beNat, beBytes, leNat_leBytes, Nat.mod_eq_of_lt h]

/-- One byte reads the same in either byte order. -/
theorem takeNum_byte (big : Bool) {n : Nat} (h : n < 256) : takeNum big [BitVec.ofNat 8 n] = n := by
  have e : putNum big 1 n = [BitVec.ofNat 8 n] := by cases big <;> rfl
  rw [← e, takeNum_putNum big h]

/-! ### Writes that pass the checks (R481) -/

/-- A write of a number that passes checks 1 to 6 of R481 answers as its own checks and effect do. -/
theorem writeBy_num {ch : Channel} {role index sub n : Nat} {s : State} {b : Bytes} {r : ObjRow}
    (h : Carries ch role index s) (hr : defRow index sub = some r) (ha : r.access ≠ 1) (hrole : r.role ≤ role)
    (ht : r.ty.isNum = true) (hl : b.length = r.len) (hn : takeNum (bigEnd ch) b = n)
    (hg : rangeOk r (.num n) = true) :
    writeBy ch index sub b s = answered (writeValue none none r ch index sub (.num n) s).1 none
      (writeValue none none r ch index sub (.num n) s).2 := by
  obtain ⟨x, hx, hsetup, hxr⟩ := h.session
  have hb : barred (some x) 2 index sub = false := by simp [barred, hsetup]
  have hc : firstCheck true r (some x) index s = none := by
    simp [firstCheck, ha, mayAccess, roleOf, Nat.le_trans hrole hxr, h.served]
  have hv : decodeVal (bigEnd ch) r b = .num n := by simp [decodeVal, ht, hn]
  have hlen : lengthOk r b = true := by
    unfold lengthOk
    cases e : r.ty <;> simp_all [OTy.isNum]
  unfold writeBy
  rw [writeWith_of_session none none index sub b h.runs hx]
  unfold dictPut
  simp only [hb, hr, hc, hlen, hv, hg]
  simp

/-- A written number that does something does what its object says. -/
theorem writeValue_num {r : ObjRow} {ch : Channel} {index sub n : Nat} {s : State} {x : Nat × State}
    (h : writeNum none none r ch index sub n s = some x) : writeValue none none r ch index sub (.num n) s = x := by
  unfold writeValue
  simp [h]

@[simp] theorem answered_last (st : Nat) (v : Option OVal) (s : State) :
    (answered st v s).dict.last = some (st, v) := rfl

theorem onlyChanges_answered {st : Nat} {v : Option OVal} {s : State} : OnlyChanges [.dict] s (answered st v s) :=
  onlyChanges_modDict

/-! ### The rows of REST_NOW, CLOCK_SET and LOCATE -/

/-- A carried write of REST_NOW opens a rest window for 1 and does nothing for 0 (R426). -/
theorem writeBy_restNow {ch : Channel} {n : Nat} {s : State} (h : Carries ch 1 0x6002 s) (hn : n < 2) :
    writeBy ch 0x6002 5 [BitVec.ofNat 8 n] s = answered stSuccess none (if n = 1 then openRest s else s) := by
  have hr : defRow 0x6002 5 = some ⟨0x6002, 0x05, 0x05, .bool, 1, false, 3, 1, false, false, .num 0, [(0, 1)]⟩ := by
    decide +kernel
  have hg : n ≤ 1 := by omega
  rw [writeBy_num h hr (by decide) (by decide) rfl rfl (takeNum_byte _ (by omega)) (by simp [rangeOk, hg]),
    writeValue_num (x := trigger n (fun s => (stSuccess, openRest s)) s) rfl]
  unfold trigger
  split <;> rfl

/-- A carried write of CLOCK_SET sets the clock (R510). -/
theorem writeBy_clockSet {ch : Channel} {n : Nat} {s : State} (h : Carries ch 1 0x1010 s) (hn : n < 2 ^ 64) :
    writeBy ch 0x1010 2 (putNum (bigEnd ch) 8 n) s = answered (clockSet n s).1 none (clockSet n s).2 := by
  have hr : defRow 0x1010 2 = some ⟨0x1010, 0x02, 0x02, .time, 8, false, 3, 1, false, false, .num 0, []⟩ := by
    decide +kernel
  rw [writeBy_num h hr (by decide) (by decide) rfl (putNum_length _ _ _) (takeNum_putNum _ hn) rfl,
    writeValue_num (x := clockSet n s) rfl]

/-- A carried write of LOCATE is kept (R51, R512). -/
theorem writeBy_locate {ch : Channel} {n : Nat} {s : State} (h : Carries ch 1 0x7030 s) (hn : n < 2) :
    writeBy ch 0x7030 1 [BitVec.ofNat 8 n] s =
      answered stSuccess none (storeAt false (objKey 0 0x7030 1) (.num n) s) := by
  have hr : defRow 0x7030 1 = some ⟨0x7030, 0x01, 0x01, .bool, 1, false, 2, 1, false, false, .num 0, [(0, 1)]⟩ := by
    decide +kernel
  have hg : n ≤ 1 := by omega
  rw [writeBy_num h hr (by decide) (by decide) rfl rfl (takeNum_byte _ (by omega)) (by simp [rangeOk, hg])]
  rfl

end Sys2Proof.Machine
end

section
/-! # Pack and charger (R419 to R426, R438) -/

namespace Sys2Proof.Machine

/-! ### A sample of the pack (R419 to R421) -/

/-- A sample as the gauge's history keeps it. -/
def gaugeSample (sense : PackSense) (s : State) : GaugeSample :=
  ⟨s.clk.uptime, sense.cells, sense.pack, if ntcBad sense.ntc then s.tally.pack.temp else ntcTemp sense.ntc⟩

/-- The pack as the sense contacts show it. -/
def sensedPack (sense : PackSense) (p : BatPack) : BatPack :=
  { p with
    state := packIdState sense.ident, mv := if packIdState sense.ident = 0 then 0 else sense.pack
    cells := if packIdState sense.ident = 0 then [0, 0, 0, 0] else sense.cells
    temp := if ntcBad sense.ntc then p.temp else ntcTemp sense.ntc, ntcFault := ntcBad sense.ntc }

/-- The sample is decoded and joins the history; a change of PACK_STATE is recorded. -/
def sampleTaken (sense : PackSense) (s : State) : State :=
  let t := modPack (sensedPack sense) s
  let t := modGauge (fun g => { g with history := recent t (20 * 60 * secNs) ++ [gaugeSample sense s] }) t
  if packIdState sense.ident = s.tally.pack.state then t else packEvent (gaugeBounds t)

/-- A spread between the cells that a sample shows anew is recorded (R425). -/
def sampleNoted (sense : PackSense) (s t : State) : State :=
  if packIdState sense.ident = 1 ∧ rateIndex t = 0 ∧ 100 < greatestCell sense.cells - leastCell sense.cells ∧
      greatestCell s.tally.pack.cells - leastCell s.tally.pack.cells ≤ 100 then packEvent t else t

/-- The causes of FAULT that a sample shows (R425). -/
def sampleJudged (sense : PackSense) (t : State) : State :=
  if packIdState sense.ident ≠ 1 then t
  else if ntcBad sense.ntc then chargerFaultWith 6 t
  else if 4250 < greatestCell sense.cells then chargerFaultWith 3 t
  else if rateIndex t = 0 ∧ 200 < greatestCell sense.cells - leastCell sense.cells then chargerFaultWith 5 t
  else t

/-- A discharge keeps a sample every 10 s (R440). -/
def sampleKept (smp : GaugeSample) (t : State) : State :=
  if t.tally.learn.state = .discharging ∧
      (t.tally.learn.samples.getLast?.map (·.time)).getD 0 + 10 * secNs ≤ t.clk.uptime then
    modLearn (fun l => { l with samples := l.samples ++ [smp] }) t
  else t

/-- What a sample does before the charger moves. -/
def sampleSeen (sense : PackSense) (s : State) : State :=
  sampleKept (gaugeSample sense s) (sampleJudged sense (sampleNoted sense s (sampleTaken sense s)))

/-- PACK_SAMPLE out of OFF: the sample is taken, noted, judged and kept, and the charger moves. -/
theorem exec_packSample {s : State} (sense : PackSense) (h : s.pw.state ≠ .off) : exec (.packSample sense) s =
    finish (chargerStep (sampleSeen sense s)) := if_neg h

theorem onlyChanges_sampleTaken {sense : PackSense} {s : State} : OnlyChanges [.tally] s (sampleTaken sense s) := by
  unfold sampleTaken
  split
  · exact onlyChanges_modPack.trans onlyChanges_modGauge
  · exact ((onlyChanges_modPack.trans onlyChanges_modGauge).trans onlyChanges_gaugeBounds).trans onlyChanges_packEvent

@[simp] theorem sampleTaken_pack (sense : PackSense) (s : State) :
    (sampleTaken sense s).tally.pack = sensedPack sense s.tally.pack := by
  unfold sampleTaken
  split <;> simp

@[simp] theorem sampleTaken_charger (sense : PackSense) (s : State) :
    (sampleTaken sense s).tally.charger = s.tally.charger := by
  unfold sampleTaken
  split <;> simp

theorem onlyChanges_sampleNoted {sense : PackSense} {s t : State} : OnlyChanges [.tally] t (sampleNoted sense s t) := by
  unfold sampleNoted
  split
  · exact onlyChanges_packEvent
  · exact .refl

@[simp] theorem sampleNoted_tally (sense : PackSense) (s t : State) : (sampleNoted sense s t).tally = t.tally := by
  unfold sampleNoted
  split <;> simp

theorem sampleJudged_moved (sense : PackSense) (t : State) : ChargerMoved t (sampleJudged sense t) := by
  unfold sampleJudged
  split
  · exact .refl t
  split
  · exact chargerFaultWith_moved 6 t
  split
  · exact chargerFaultWith_moved 3 t
  split
  · exact chargerFaultWith_moved 5 t
  · exact .refl t

theorem onlyChanges_sampleKept {smp : GaugeSample} {t : State} : OnlyChanges [.tally] t (sampleKept smp t) := by
  unfold sampleKept
  split
  · exact onlyChanges_modLearn
  · exact .refl

@[simp] theorem sampleKept_pack (smp : GaugeSample) (t : State) : (sampleKept smp t).tally.pack = t.tally.pack := by
  unfold sampleKept
  split <;> simp

@[simp] theorem sampleKept_charger (smp : GaugeSample) (t : State) :
    (sampleKept smp t).tally.charger = t.tally.charger := by
  unfold sampleKept
  split <;> simp

theorem onlyChanges_sampleSeen {sense : PackSense} {s : State} : OnlyChanges [.tally] s (sampleSeen sense s) :=
  ((onlyChanges_sampleTaken.trans onlyChanges_sampleNoted).trans (sampleJudged_moved sense _).parts).trans
    onlyChanges_sampleKept

/-- The pack is as it was sensed. -/
@[simp] theorem sampleSeen_pack (sense : PackSense) (s : State) :
    (sampleSeen sense s).tally.pack = sensedPack sense s.tally.pack := by
  simp [sampleSeen, (sampleJudged_moved sense _).pack]

/-- A sample that is judged a fault leaves the charger in FAULT with its cause (R425). -/
theorem sampleSeen_fault {sense : PackSense} {s : State} (cause : Nat) (hid : packIdState sense.ident = 1)
    (hc : s.tally.charger.state ≠ .fault) (hj : ∀ t, sampleJudged sense t = chargerFaultWith cause t) :
    (sampleSeen sense s).tally.charger.state = .fault ∧ (sampleSeen sense s).tally.charger.fault = cause := by
  obtain ⟨h1, h2, -, -⟩ := chargerFaultWith_fault (cause := cause) (s := sampleNoted sense s (sampleTaken sense s))
    (by simp [sensedPack, hid]) (by simpa using hc)
  simp [sampleSeen, hj, h1, h2]

/-- The charger stays in a FAULT that the sample leaves it in (R425). -/
theorem sampleSeen_stays {sense : PackSense} {s : State} {cause : Nat} (hid : packIdState sense.ident = 1)
    (h : (sampleSeen sense s).tally.charger.state = .fault ∧ (sampleSeen sense s).tally.charger.fault = cause) :
    (chargerStep (sampleSeen sense s)).tally.charger.state = .fault ∧
      (chargerStep (sampleSeen sense s)).tally.charger.fault = cause := by
  rw [chargerStep_fault (by simpa [sensedPack] using hid) h.1]
  exact h

/-- PACK_SAMPLE (R419 to R425). -/
theorem ends_packSample {s : State} (sense : PackSense) (h : s.pw.state ≠ .off) :
    Ends (.packSample sense) s [.tally] (fun t =>
      t.tally.pack.state = packIdState sense.ident ∧ t.tally.pack.ntcFault = ntcBad sense.ntc ∧
      t.tally.pack.temp = (if ntcBad sense.ntc then s.tally.pack.temp else ntcTemp sense.ntc) ∧
      (packIdState sense.ident ≠ 0 → t.tally.pack.cells = sense.cells ∧ t.tally.pack.mv = sense.pack) ∧
      (packIdState sense.ident ≠ 1 → t.tally.charger.state = .noPack) ∧
      (packIdState sense.ident = 1 → s.tally.charger.state ≠ .fault →
        (ntcBad sense.ntc = true → t.tally.charger.state = .fault ∧ t.tally.charger.fault = 6) ∧
        (ntcBad sense.ntc = false → 4250 < greatestCell sense.cells →
          t.tally.charger.state = .fault ∧ t.tally.charger.fault = 3))) := by
  have hstep := chargerStep_moved (sampleSeen sense s)
  refine ends_of_finish (exec_packSample sense h) (onlyChanges_sampleSeen.trans hstep.parts) ?_
  simp only [settle_pack, settle_charger, hstep.pack, sampleSeen_pack]
  refine ⟨rfl, rfl, rfl, fun h0 => ?_, fun h1 => ?_, fun h1 hc => ⟨fun hb => ?_, fun hb hg => ?_⟩⟩
  · simp [sensedPack, h0]
  · exact chargerStep_noPack (by simpa [sensedPack] using h1)
  · exact sampleSeen_stays h1 (sampleSeen_fault 6 h1 hc (fun _ => by simp [sampleJudged, h1, hb]))
  · exact sampleSeen_stays h1 (sampleSeen_fault 3 h1 hc (fun _ => by simp [sampleJudged, h1, hb, hg]))

/-! ### Insertion and removal (R33, R422, R437, R438) -/

/-- PACK_INSERT (R422, R438). -/
theorem ends_packInsert {s : State} (h : s.tally.pack.latched = false) : Ends .packInsert s [.tally] (fun t =>
    t.tally.pack.state = 1 ∧ t.tally.pack.inserted = s.clk.now ∧ t.tally.pack.latched = true ∧
    (s.tally.gauge.running = true → awake s = true →
      t.tally.gauge.u0 = 5 ∧ t.tally.gauge.capLearned = 0 ∧ t.tally.learn.due = true)) := by
  have hp : OnlyChanges [.tally] s
      (modPack (fun p => { p with state := 1, inserted := s.clk.now, latched := true }) s) := onlyChanges_modPack
  by_cases hr : s.pw.state = .off ∨ s.pw.state = .dump ∨ s.tally.gauge.running = false
  · refine ends_of_finish (u := modPack (fun p => { p with state := 1, inserted := s.clk.now, latched := true }) s)
      ?_ hp ?_
    · show execPackInsert s = _
      unfold execPackInsert
      rw [if_neg (by simp [h])]
      exact if_pos hr
    · refine ⟨by simp, by simp, by simp, fun hg ha => ?_⟩
      rcases hr with hr | hr | hr <;> simp_all [awake]
  · have e : exec .packInsert s = finish (packEvent (chargerStep (insertEstimate
        (modPack (fun p => { p with state := 1, inserted := s.clk.now, latched := true }) s)))) := by
      show execPackInsert s = _
      unfold execPackInsert
      rw [if_neg (by simp [h])]
      exact if_neg hr
    obtain ⟨hi, hpack, hu, hc, hd⟩ := insertEstimate_spec
      (modPack (fun p => { p with state := 1, inserted := s.clk.now, latched := true }) s)
    have hstep := chargerStep_moved (insertEstimate
      (modPack (fun p => { p with state := 1, inserted := s.clk.now, latched := true }) s))
    refine ends_of_finish e (((hp.trans hi).trans hstep.parts).trans onlyChanges_packEvent) ?_
    simp [hstep.pack, hstep.u0, hstep.capLearned, hstep.learn, hpack, hu, hc, hd]

/-- The pack that is gone. -/
def packGone (s : State) : State :=
  modPack (fun p => { p with state := 0, mv := 0, cells := [0, 0, 0, 0], inserted := 0, latched := false }) s

/-- What a removal does with the module's state but PACK_STATE's record: the learn cycle is abandoned, the charger and
the reserve are gone, and a dump that is still writing has lost its source (R33, R422, R437). -/
def packRemoved (s : State) : State :=
  let s := modCharger (fun c => { c with state := .noPack, fault := 0, restOpen := false }) (abandonLearn (packGone s))
  let s := modGauge (fun g => { g with reserveOk := false, energyLow := 0 }) s
  modDump (fun d => { d with
    sourceLost := d.sourceLost || (s.pw.state == .dump && s.side.dumpAct && !d.dumped) }) s

theorem exec_packRemove {s : State} (h : s.tally.pack.latched = true) : exec .packRemove s =
    if (packRemoved s).pw.state = .off then finish (modPw (fun p => { p with rail := p.p12v }) (packRemoved s))
    else finish (packEvent (packRemoved s)) := if_pos h

/-- What a removal leaves of pack, charger, reserve and dump, and which parts it changes. -/
theorem packRemoved_spec (s : State) : OnlyChanges [.pw, .tally, .dump] s (packRemoved s) ∧
    (packRemoved s).tally.charger.state = .noPack ∧ (packRemoved s).tally.gauge.reserveOk = false ∧
    (packRemoved s).tally.gauge.energyLow = 0 ∧ (packRemoved s).tally.pack = (abandonLearn (packGone s)).tally.pack ∧
    (s.pw.state ≠ .dump → (packRemoved s).dump = s.dump) ∧
    (s.pw.state = .dump → s.side.dumpAct = true → s.dump.dumped = false →
      (packRemoved s).dump.sourceLost = true) := by
  have ha : OnlyChanges [.pw, .tally] (packGone s) (abandonLearn (packGone s)) := onlyChanges_abandonLearn
  have hdump : (abandonLearn (packGone s)).dump = s.dump := ha .dump (by decide)
  have hside : (abandonLearn (packGone s)).side.apart = s.side.apart := ha .side (by decide)
  have hact : (abandonLearn (packGone s)).side.dumpAct = s.side.dumpAct := (congrArg Sideband.dumpAct hside :)
  have hst := abandonLearn_dump (packGone s)
  refine ⟨?_, rfl, rfl, rfl, rfl, fun hn => ?_, fun hy hd hw => ?_⟩
  · unfold packRemoved
    refine OnlyChanges.trans ?_ (onlyChanges_modDump.mono (by decide))
    refine OnlyChanges.trans ?_ (onlyChanges_modGauge.mono (by decide))
    refine OnlyChanges.trans ?_ (onlyChanges_modCharger.mono (by decide))
    exact (onlyChanges_modPack.mono (by decide)).trans (ha.mono (by decide))
  · have hs : (abandonLearn (packGone s)).pw.state ≠ .dump := fun k => hn (hst.1 k)
    simp [packRemoved, beq_false_of_ne hs, hdump]
  · have hs : (abandonLearn (packGone s)).pw.state = .dump := hst.2 hy
    simp [packRemoved, hs, hact, hd, hdump, hw]

/-- PACK_REMOVE (R33, R422, R437). -/
theorem ends_packRemove {s : State} (h : s.tally.pack.latched = true) :
    Ends .packRemove s [.pw, .tally, .dump] (fun t =>
    t.tally.pack.state = 0 ∧ t.tally.pack.inserted = 0 ∧ t.tally.pack.latched = false ∧
    t.tally.charger.state = .noPack ∧ t.tally.gauge.reserveOk = false ∧ t.tally.gauge.energyLow = 0 ∧
    (s.pw.state ≠ .dump → t.dump = s.dump) ∧
    (s.pw.state = .dump → s.side.dumpAct = true → s.dump.dumped = false → t.dump.sourceLost = true)) := by
  obtain ⟨o, hc, hr, he, hp, hd⟩ := packRemoved_spec s
  have hpack : (packRemoved s).tally.pack = (packGone s).tally.pack := hp.trans (abandonLearn_pack _)
  have q : ∀ u : State, u.tally = (packRemoved s).tally → u.dump = (packRemoved s).dump →
      (settle u).tally.pack.state = 0 ∧ (settle u).tally.pack.inserted = 0 ∧ (settle u).tally.pack.latched = false ∧
      (settle u).tally.charger.state = .noPack ∧ (settle u).tally.gauge.reserveOk = false ∧
      (settle u).tally.gauge.energyLow = 0 ∧ (s.pw.state ≠ .dump → (settle u).dump = s.dump) ∧
      (s.pw.state = .dump → s.side.dumpAct = true → s.dump.dumped = false → (settle u).dump.sourceLost = true) := by
    intro u ht hdu
    simpa [ht, hdu, hpack, hc, hr, he, packGone] using hd
  have e := exec_packRemove h
  split at e
  · exact ends_of_finish e (o.trans (onlyChanges_modPw.mono (by decide))) (q _ rfl rfl)
  · exact ends_of_finish e (o.trans onlyChanges_packEvent) (q _ (packEvent_tally _)
      ((event_recorded _ _ _ _ _).same State.dump (fun _ _ _ _ => rfl)))

/-! ### The charger's states (R423 to R425) -/

/-- Charging begins below 4,100 mV as the weakest cell asks for (R424, R425). -/
theorem beginCharge_spec {s : State} (hc : s.tally.charger.state = .qualify) :
    (leastCell s.tally.pack.cells < 2500 → s.tally.pack.state = 1 →
      (beginCharge s).tally.charger.state = .fault ∧ (beginCharge s).tally.charger.fault = 4) ∧
    (2500 ≤ leastCell s.tally.pack.cells → (beginCharge s).tally.charger.state =
      if leastCell s.tally.pack.cells < 3000 then .precharge else .cc) := by
  unfold beginCharge
  refine ⟨fun hl hp => ?_, fun hl => ?_⟩
  · rw [if_pos hl]
    obtain ⟨h1, h2, -, -⟩ := chargerFaultWith_fault (cause := 4) hp (by simp [hc])
    exact ⟨h1, h2⟩
  · rw [if_neg (by omega)]
    rfl

/-- QUALIFY_END (R424). -/
theorem ends_qualifyEnd {s : State} (hc : s.tally.charger.state = .qualify) (ha : awake s = true) :
    Ends .qualifyEnd s [.tally] (fun t =>
      (4100 ≤ leastCell s.tally.pack.cells → t.tally.charger.state = .done) ∧
      (leastCell s.tally.pack.cells < 2500 → s.tally.pack.state = 1 →
        t.tally.charger.state = .fault ∧ t.tally.charger.fault = 4) ∧
      (2500 ≤ leastCell s.tally.pack.cells → leastCell s.tally.pack.cells < 4100 →
        t.tally.charger.state = if leastCell s.tally.pack.cells < 3000 then .precharge else .cc)) := by
  have e : exec .qualifyEnd s =
      if 4100 ≤ leastCell s.tally.pack.cells then finish (chargerDone s) else finish (beginCharge s) :=
    if_pos ⟨hc, ha⟩
  split at e
  · rename_i hl
    refine ends_of_finish e onlyChanges_chargerDone ⟨fun _ => by simp, fun k => ?_, fun _ k => ?_⟩
    · omega
    · omega
  · rename_i hl
    obtain ⟨h1, h2⟩ := beginCharge_spec hc
    refine ends_of_finish e (beginCharge_moved s).parts ⟨fun k => absurd k hl, ?_, fun k _ => ?_⟩
    · simpa using h1
    · simpa using h2 k

/-- CV_HOLD_END (R423, R424). -/
theorem ends_cvHoldEnd {s : State} (hc : s.tally.charger.state = .cv) (ha : awake s = true) :
    Ends .cvHoldEnd s [.tally] (fun t => t.tally.charger.state = .done) :=
  ends_of_finish (if_pos ⟨hc, ha⟩) onlyChanges_chargerDone (by simp)

/-- CHARGER_FAULT (R425). -/
theorem ends_chargerFault {s : State} {cause : Nat} (h1 : 1 ≤ cause) (h7 : cause ≤ 7) (ha : awake s = true)
    (hp : s.tally.pack.state = 1) (hc : s.tally.charger.state ≠ .fault) :
    Ends (.chargerFault cause) s [.tally] (fun t => t.tally.charger.state = .fault ∧ t.tally.charger.fault = cause ∧
      t.tally.gauge.reserveOk = false ∧ t.tally.gauge.energyLow = 0) := by
  refine ends_of_finish (if_pos ⟨h1, h7, ha⟩) (chargerFaultWith_moved cause s).parts ?_
  simpa using chargerFaultWith_fault hp hc

/-! ### Rest windows (R426) -/

/-- A rest window that may open is open. -/
theorem openRest_spec (s : State) : OnlyChanges [.tally] s (openRest s) ∧
    (openRest s).tally.charger.restOpen = (restMayOpen s || s.tally.charger.restOpen) := by
  unfold openRest
  split
  · rename_i h
    have k := chargerStep_moved (modCharger (fun c => { c with
      restOpen := true, extended := false, restSince := s.clk.now }) s)
    exact ⟨onlyChanges_modCharger.trans k.parts, by simp [k.restOpen, h]⟩
  · rename_i h
    exact ⟨.refl, by simp [h]⟩

/-- REST_WINDOW_OPEN (R426). -/
theorem ends_restWindowOpen {s : State} (hc : coreRuns s = true)
    (hr : s.tally.gauge.refTime = 0 ∨ s.tally.gauge.refTime + 20 * hourNs ≤ s.clk.now) (hm : restMayOpen s = true) :
    Ends .restWindowOpen s [.tally] (fun t => t.tally.charger.restOpen = true) := by
  obtain ⟨o, h⟩ := openRest_spec s
  exact ends_of_finish (if_pos (by simp [hc, hr])) o (by simp [h, hm])

/-- REST_WINDOW_END closes a window that has been extended (R426). -/
theorem ends_restWindowEnd {s : State} (ho : s.tally.charger.restOpen = true)
    (he : s.tally.charger.extended = true) :
    Ends .restWindowEnd s [.tally] (fun t => t.tally.charger.restOpen = false) := by
  have e : exec .restWindowEnd s = finish (chargerStep (modCharger (fun c => { c with restOpen := false }) s)) := by
    show execRestWindowEnd s = _
    simp [execRestWindowEnd, ho, he]
  have k := chargerStep_moved (modCharger (fun c => { c with restOpen := false }) s)
  exact ends_of_finish e (onlyChanges_modCharger.trans k.parts) (by simp [k.restOpen])

/-- REST_WINDOW_END extends once a window without a reference (R426). -/
theorem gives_restWindowEnd {s : State} (ho : s.tally.charger.restOpen = true) (he : s.tally.charger.extended = false)
    (hr : s.tally.gauge.refTime < s.tally.charger.restSince) : Gives .restWindowEnd s { s with tally := { s.tally with
      charger := { s.tally.charger with extended := true } } } := by
  have e : exec .restWindowEnd s = finish (modCharger (fun c => { c with extended := true }) s) := by
    show execRestWindowEnd s = _
    unfold execRestWindowEnd
    rw [if_pos ho, if_pos (by simp [he, hr])]
  exact gives_of_finish e

/-- REST_NOW (R426). -/
theorem ends_restNow {s : State} {ch : Channel} {n : Nat} (h : Carries ch 1 0x6002 s) (hn : n < 2) :
    Ends (.restNow ch [BitVec.ofNat 8 n]) s [.tally, .dict] (fun t => t.dict.last = some (stSuccess, none) ∧
      t.tally.charger.restOpen = ((n == 1 && restMayOpen s) || s.tally.charger.restOpen)) := by
  have e : exec (.restNow ch [BitVec.ofNat 8 n]) s =
      finish (answered stSuccess none (if n = 1 then openRest s else s)) := congrArg finish (writeBy_restNow h hn)
  obtain ⟨o, hr⟩ := openRest_spec s
  have hs : OnlyChanges [.tally] s (if n = 1 then openRest s else s) ∧
      (if n = 1 then openRest s else s).tally.charger.restOpen =
        ((n == 1 && restMayOpen s) || s.tally.charger.restOpen) := by
    split
    · rename_i h1
      exact ⟨o, by simp [h1, hr]⟩
    · rename_i h1
      exact ⟨.refl, by simp [h1]⟩
  refine ends_of_finish e ((hs.1.mono (by decide)).trans (onlyChanges_answered.mono (by decide))) ⟨by simp, ?_⟩
  rw [settle_charger]
  exact hs.2

/-- Settles O44: each command by its own rule. -/
theorem packAndCharger : Obligations.PackAndCharger := by
  intro s
  exact ⟨fun sense => ends_packSample sense, ends_packInsert, ends_packRemove, ends_qualifyEnd, ends_cvHoldEnd,
    fun cause h1 h7 ha hp hc => ends_chargerFault h1 h7 ha hp hc, ends_restWindowOpen,
    fun ho => ⟨gives_restWindowEnd ho, ends_restWindowEnd ho⟩, fun ch n h hn => ends_restNow h hn⟩

end Sys2Proof.Machine
end

section
/-! # Addresses, the device clock and PTP (R51, R509 to R511) -/

namespace Sys2Proof.Machine

/-! ### Addresses (R509) -/

/-- The active path takes what it is given, where ADDR_MODE allows it (R509). -/
theorem gives_addressAutoconfig {s : State} (hp : pathsRun s = true)
    (ha : (s.paths.path s.paths.right).state = .active) :
    (∀ a, bit (cfgAddrMode s) 0 = true → Gives (.addressAutoconfig (.routerAdvertisement a)) s
      { s with paths := { s.paths with slaac := some (fit 16 a) } }) ∧
    (∀ a, bit (cfgAddrMode s) 1 = true → Gives (.addressAutoconfig (.dhcpLease a)) s
      { s with paths := { s.paths with dhcp := some (fit 4 a) } }) ∧
    Gives (.addressAutoconfig .leaseExpired) s { s with paths := { s.paths with dhcp := none } } := by
  have e : ∀ ev, exec (.addressAutoconfig ev) s = match ev with
      | .routerAdvertisement a =>
        finish (if bit (cfgAddrMode s) 0 then modPaths (fun p => { p with slaac := some (fit 16 a) }) s else s)
      | .dhcpLease a =>
        finish (if bit (cfgAddrMode s) 1 then modPaths (fun p => { p with dhcp := some (fit 4 a) }) s else s)
      | .leaseExpired => finish (modPaths (fun p => { p with dhcp := none }) s) :=
    fun ev => if_pos (by simp [hp, ha])
  refine ⟨fun a h => ?_, fun a h => ?_, gives_of_finish (e _)⟩
  · exact gives_of_finish ((e _).trans (congrArg finish (if_pos h)))
  · exact gives_of_finish ((e _).trans (congrArg finish (if_pos h)))

/-! ### The device clock (R510) -/

/-- A step sets the clock and is recorded (R510). -/
theorem stepClock_recorded (t : Nat) (s : State) : Recorded { s with clk := { s.clk with now := t } } (stepClock t s) :=
  event_recorded _ _ _ _ _

@[simp] theorem stepClock_clk (t : Nat) (s : State) : (stepClock t s).clk = { s.clk with now := t } :=
  (stepClock_recorded t s).same State.clk (fun _ _ _ _ => rfl)

@[simp] theorem stepClock_paths (t : Nat) (s : State) : (stepClock t s).paths = s.paths :=
  (stepClock_recorded t s).same State.paths (fun _ _ _ _ => rfl)

theorem onlyChanges_stepClock {t : Nat} {s : State} : OnlyChanges [.clk] s (stepClock t s) := by
  refine OnlyChanges.trans (t := { s with clk := { s.clk with now := t } }) ?_ onlyChanges_event
  intro q h
  cases q <;> first | exact rfl | exact absurd (by simp) h

/-- A time that is not in the past is set (R510). -/
theorem clockSet_spec {n : Nat} {s : State} (h : s.clk.now ≤ n) : (clockSet n s).1 = stSuccess ∧
    OnlyChanges [.clk, .paths] s (clockSet n s).2 ∧ (clockSet n s).2.clk = { s.clk with now := n } ∧
    (clockSet n s).2.paths.source = if s.paths.source = 0 then 1 else s.paths.source := by
  unfold clockSet
  rw [if_neg (by omega)]
  dsimp only
  have o : OnlyChanges [.clk, .paths] s
      (modPaths (fun p => { p with source := if p.source = 0 then 1 else p.source }) s) :=
    onlyChanges_modPaths.mono (by decide)
  split
  · rename_i e
    exact ⟨rfl, o, by rw [e]; rfl, rfl⟩
  · exact ⟨rfl, o.trans (onlyChanges_stepClock.mono (by decide)), by simp, by simp⟩

/-- CLOCK_SET with a time in the past answers VALUE and changes nothing (R510). -/
theorem gives_clockSet_past {s : State} {ch : Channel} {n : Nat} (h : Carries ch 1 0x1010 s) (hn : n < 2 ^ 64)
    (hp : n < s.clk.now) : Gives (.clockSet ch (putNum (bigEnd ch) 8 n)) s (answered stValue none s) := by
  have e : exec (.clockSet ch (putNum (bigEnd ch) 8 n)) s = finish (answered (clockSet n s).1 none (clockSet n s).2) :=
    congrArg finish (writeBy_clockSet h hn)
  have c : clockSet n s = (stValue, s) := if_pos hp
  rw [c] at e
  exact gives_of_finish e

/-- CLOCK_SET steps the clock forward (R510). -/
theorem ends_clockSet {s : State} {ch : Channel} {n : Nat} (h : Carries ch 1 0x1010 s) (hn : n < 2 ^ 64)
    (hf : s.clk.now ≤ n) : Ends (.clockSet ch (putNum (bigEnd ch) 8 n)) s [.clk, .paths, .dict] (fun t =>
      t.dict.last = some (stSuccess, none) ∧ t.clk = { s.clk with now := n } ∧
      t.paths.source = if s.paths.source = 0 then 1 else s.paths.source) := by
  obtain ⟨h1, o, hc, hs⟩ := clockSet_spec hf
  have e : exec (.clockSet ch (putNum (bigEnd ch) 8 n)) s = finish (answered (clockSet n s).1 none (clockSet n s).2) :=
    congrArg finish (writeBy_clockSet h hn)
  rw [h1] at e
  refine ends_of_finish e ((o.mono (by decide)).trans (onlyChanges_answered.mono (by decide))) ⟨by simp, ?_, ?_⟩
  · rw [settle_clk]
    exact hc
  · rw [settle_paths]
    exact hs

/-! ### PTP (R511) -/

/-- An offset above the threshold behind the master steps the clock (R511). -/
theorem ptpOffset_step {o : Int} {s : State} (h : o < 0) (ht : (cfgPtpStepThreshold s : Int) < -o) :
    OnlyChanges [.clk, .paths] s (ptpOffset o s) ∧ (ptpOffset o s).clk.now = s.clk.now + (-o).toNat ∧
      (ptpOffset o s).paths.source = 2 := by
  unfold ptpOffset
  rw [if_pos ⟨h, ht⟩]
  exact ⟨(onlyChanges_stepClock.mono (by decide)).trans (onlyChanges_modPaths.mono (by decide)), by simp, rfl⟩

/-- The servo's rate lies within ±500 ppm and is not above 0 while the clock is ahead (R511). -/
theorem servoRate_spec (o : Int) (s : State) : (servoRate o s).2 = { s with free := s.free + 1 } ∧
    (0 < o → (servoRate o s).1 ≤ 0) ∧ -500000 ≤ (servoRate o s).1 ∧ (servoRate o s).1 ≤ 500000 := by
  unfold servoRate drawNat
  dsimp only
  refine ⟨rfl, fun h => ?_, ?_, ?_⟩
  · rw [if_pos h]
    omega
  · split <;> omega
  · split <;> omega

/-- Any other offset steers the rate; the clock is locked after 16 s within 1 µs (R511). -/
theorem ptpOffset_steer {o : Int} {s : State} (h : ¬(o < 0 ∧ (cfgPtpStepThreshold s : Int) < -o)) :
    OnlyChanges [.free, .clk, .paths] s (ptpOffset o s) ∧ (ptpOffset o s).clk.now = s.clk.now ∧
      (ptpOffset o s).paths.offset = o ∧ (ptpOffset o s).paths.freq = (servoRate o s).1 ∧
      (ptpOffset o s).clk.incr = clockIncr (servoRate o s).1 ∧ ((ptpOffset o s).paths.source = 3 ↔
        (-1000 ≤ o ∧ o ≤ 1000 ∧ s.paths.lockedSince.getD s.clk.uptime + 16000000000 ≤ s.clk.uptime)) := by
  have hs := (servoRate_spec o s).1
  unfold ptpOffset
  rw [if_neg h]
  dsimp only
  rw [hs]
  refine ⟨?_, rfl, rfl, rfl, rfl, ?_⟩
  · intro q k
    cases q <;> first | exact rfl | exact absurd (by simp) k
  · by_cases hi : -1000 ≤ o ∧ o ≤ 1000
    · simp [hi]
    · have hd : (decide (-1000 ≤ o) && decide (o ≤ 1000)) = false := by simpa using hi
      have hn : ¬(-1000 ≤ o ∧ o ≤ 1000 ∧ s.paths.lockedSince.getD s.clk.uptime + 16000000000 ≤ s.clk.uptime) :=
        fun k => hi ⟨k.1, k.2.1⟩
      simp [hd, hn]

/-- Each message that brings an offset has the discipline see it (R511). -/
theorem exec_ptpMessage {s : State} {m : PtpMessage} {o : Int} (hr : ptpRuns s = true)
    (hm : m = .sync o ∨ m = .followUp o ∨ m = .delayResp o) : exec (.ptpMessage m) s = finish (ptpOffset o s) := by
  rcases hm with rfl | rfl | rfl <;> exact if_pos hr

/-- PTP_MESSAGE (R511). -/
theorem ptpMessage_spec {s : State} (hr : ptpRuns s = true) :
    (∀ a, Gives (.ptpMessage (.announce a)) s { s with paths := { s.paths with
      master := fit 8 a, source := if s.paths.source = 3 then 3 else 2 } }) ∧
    (∀ o m, m = .sync o ∨ m = .followUp o ∨ m = .delayResp o →
      (o < 0 → (cfgPtpStepThreshold s : Int) < -o → Ends (.ptpMessage m) s [.clk, .paths] (fun t =>
        t.clk.now = s.clk.now + (-o).toNat ∧ t.paths.source = 2)) ∧
      ((0 ≤ o ∨ -o ≤ (cfgPtpStepThreshold s : Int)) → Ends (.ptpMessage m) s [.free, .clk, .paths] (fun t =>
        t.clk.now = s.clk.now ∧ t.paths.offset = o ∧ (0 < o → t.paths.freq ≤ 0) ∧
        -500000 ≤ t.paths.freq ∧ t.paths.freq ≤ 500000 ∧ t.clk.incr = clockIncr t.paths.freq ∧
        (t.paths.source = 3 ↔ (-1000 ≤ o ∧ o ≤ 1000 ∧
          s.paths.lockedSince.getD s.clk.uptime + 16000000000 ≤ s.clk.uptime))))) := by
  refine ⟨fun a => gives_of_finish (if_pos hr), fun o m hm => ⟨fun h ht => ?_, fun h => ?_⟩⟩
  · obtain ⟨oc, hn, hs⟩ := ptpOffset_step h ht
    exact ends_of_finish (exec_ptpMessage hr hm) oc (by simp [hn, hs])
  · obtain ⟨oc, hn, ho, hf, hi, hs⟩ := ptpOffset_steer (o := o) (s := s) (by omega)
    obtain ⟨-, hneg, hlo, hhi⟩ := servoRate_spec o s
    refine ends_of_finish (exec_ptpMessage hr hm) oc ?_
    rw [settle_clk, settle_paths, hf, hi]
    exact ⟨hn, ho, hneg, hlo, hhi, rfl, hs⟩

/-- Settles O57: addresses, CLOCK_SET, PTP and LOCATE by their own rules. -/
theorem addressesAndClock : Obligations.AddressesAndClock := by
  intro s
  refine ⟨gives_addressAutoconfig, fun ch n h hn => ⟨gives_clockSet_past h hn, ends_clockSet h hn⟩, ptpMessage_spec,
    gives_of_finish rfl, fun ch n h hn => ?_⟩
  exact gives_of_finish (congrArg finish (writeBy_locate h hn))

end Sys2Proof.Machine
end

section
/-! # Ports and their rings (R73, R91, R101 to R103)

What reading a port or a ring gives behind the shared operations: what is sent and the mailbox leave a port still, a
hold gives up its reads, and its rings stop or are discarded. -/

namespace Sys2Proof.Machine

/-! ### Reading ports -/

theorem port_cases : ∀ p : PortId, p = 0 ∨ p = 1 ∨ p = 2 ∨ p = 3 := by decide

theorem ports_get_set (ps : Ports) (p q : PortId) (v : Port) : (ps.set p v).get q = if q = p then v else ps.get q := by
  rcases port_cases p with rfl | rfl | rfl | rfl <;> rcases port_cases q with rfl | rfl | rfl | rfl <;> rfl

@[simp] theorem modPort_get_self (p : PortId) (f : Port → Port) (s : State) :
    (modPort p f s).ports.get p = f (s.ports.get p) := by
  rw [modPort_ports, ports_get_set, if_pos rfl]

/-- A port apart from its notices, what it sends and holds back to send, and its mailbox. -/
def Port.still (q : Port) : Port :=
  { q.apart with inta := false, msiPending := 0#32, msixPending := [], tx := [], mailbox := Mailbox.reset }

/-- Every port is as it was but for notices, what is sent, and the mailboxes. -/
def PortsStill (s t : State) : Prop := ∀ q, (t.ports.get q).still = (s.ports.get q).still

theorem PortsStill.refl (s : State) : PortsStill s s := fun _ => rfl

theorem PortsStill.trans {s t u : State} (h : PortsStill s t) (k : PortsStill t u) : PortsStill s u :=
  fun q => (k q).trans (h q)

theorem PortsStill.of_apart {s t : State} (h : t.ports.apart = s.ports.apart) : PortsStill s t :=
  fun q => port_read h q Port.still (fun _ => rfl)

theorem PortsStill.foldl {α : Type} {f : State → α → State} (h : ∀ s a, PortsStill s (f s a)) (l : List α) (s : State) :
    PortsStill s (l.foldl f s) := by
  induction l generalizing s with
  | nil => exact .refl s
  | cons a l ih => exact (h s a).trans (ih _)

theorem portsStill_modPort {p : PortId} {f : Port → Port} (s : State) (h : ∀ q, (f q).still = q.still) :
    PortsStill s (modPort p f s) := by
  intro q
  rw [modPort_ports, ports_get_set]
  split
  · rename_i e
    rw [e, h]
  · rfl

/-- What is read of a port that is still. -/
theorem PortsStill.read {α : Type} {s t : State} (h : PortsStill s t) (p : PortId) (f : Port → α)
    (hf : ∀ q : Port, f q = f q.still) : f (t.ports.get p) = f (s.ports.get p) := by
  rw [hf, h p, ← hf]

/-! ### What is sent (R89 to R91) -/

theorem portsStill_sendTlp (p : PortId) (m : Tlp) (s : State) : PortsStill s (sendTlp p m s) :=
  portsStill_modPort s (fun _ => rfl)

theorem portsStill_intaSync (p : PortId) (s : State) : PortsStill s (intaSync p s) := by
  unfold intaSync
  dsimp only
  split
  · exact .refl s
  · refine PortsStill.trans ?_ (portsStill_sendTlp _ _ _)
    exact portsStill_modPort s (fun _ => rfl)

theorem portsStill_sendHeld (p : PortId) (s : State) : PortsStill s (sendHeld p s) := by
  unfold sendHeld
  dsimp only
  repeat' split
  · exact portsStill_modPort s (fun _ => rfl)
  · exact portsStill_modPort s (fun _ => rfl)
  · exact .refl s
  · exact .refl s

theorem portsStill_sendAgain (p : PortId) (s : State) : PortsStill s (sendAgain p s) :=
  (portsStill_intaSync p s).trans (portsStill_sendHeld p _)

theorem onlyChanges_sendAgain {p : PortId} {s : State} : OnlyChanges [.ports] s (sendAgain p s) :=
  onlyChanges_intaSync.trans onlyChanges_sendHeld

/-! ### Sessions and mailboxes that end (R499, R503) -/

/-- What the end of a session can change. -/
abbrev sessionParts : List Part := [.ports, .sess, .dict, .lock]

/-- A mailbox whose session has ended holds it no more. -/
def leaveSession (id : Nat) (q : Port) : Port :=
  if q.mailbox.session = some id then { q with mailbox := { q.mailbox with session := none } } else q

theorem leaveSession_still (id : Nat) (q : Port) : (leaveSession id q).still = q.still := by
  unfold leaveSession
  split <;> rfl

/-- The session is gone from the list and from every mailbox. -/
def sessionGone (id : Nat) (s : State) : State :=
  allPorts.foldl (fun s p => modPort p (leaveSession id) s)
    (modSess (fun x => { x with sessions := x.sessions.filter (fun y => y.id != id) }) s)

/-- Beside the session itself its end changes Locksmith and the dictionary at most. -/
theorem endSession_eq (id : Nat) (s : State) :
    ∃ l d, endSession id s = { sessionGone id s with lock := l, dict := d } := by
  unfold endSession
  dsimp only
  split
  · exact ⟨_, _, rfl⟩
  · exact ⟨_, (sessionGone id s).dict, rfl⟩

/-- The end of a session leaves the ports still and changes the parts of sessions. -/
theorem endSession_spec (id : Nat) (s : State) : PortsStill s (endSession id s) ∧
    OnlyChanges sessionParts s (endSession id s) := by
  obtain ⟨l, d, e⟩ := endSession_eq id s
  have hp : PortsStill s (sessionGone id s) :=
    PortsStill.trans (t := modSess (fun x => { x with sessions := x.sessions.filter (fun y => y.id != id) }) s)
      (fun _ => rfl) (.foldl (fun t p => portsStill_modPort t (leaveSession_still id)) _ _)
  have hc : OnlyChanges sessionParts s (sessionGone id s) :=
    (onlyChanges_modSess.mono (by decide)).trans (.foldl (fun _ _ => onlyChanges_modPort.mono (by decide)))
  rw [e]
  refine ⟨hp, hc.trans ?_⟩
  generalize sessionGone id s = t
  intro q k
  cases q
  case lock | dict => exact absurd (by decide) k
  all_goals rfl

/-- A mailbox that is reset (R499, R503): idle, or its request runs on and is answered to no one. -/
def mailboxReset (q : Port) : Port :=
  if q.mailbox.busy then { q with mailbox := { q.mailbox with discard := true, session := none } }
  else { q with mailbox := Mailbox.reset }

theorem mailboxReset_still (q : Port) : (mailboxReset q).still = q.still := by
  unfold mailboxReset
  split <;> rfl

theorem resetMailbox_eq (p : PortId) (s : State) : resetMailbox p s = modPort p mailboxReset
    (modSess (fun x => { x with pending := x.pending.filter (fun y => y.port != some p) })
      ((s.sess.sessions.filter (fun x => x.port == some p)).foldl (fun s x => endSession x.id s) s)) := rfl

/-- A mailbox that is reset leaves the ports still and changes the parts of sessions. -/
theorem resetMailbox_spec (p : PortId) (s : State) : PortsStill s (resetMailbox p s) ∧
    OnlyChanges sessionParts s (resetMailbox p s) := by
  have hp := PortsStill.foldl (fun s x => (endSession_spec (Session.id x) s).1)
    (s.sess.sessions.filter (fun x => x.port == some p)) s
  have hc : OnlyChanges sessionParts s
      ((s.sess.sessions.filter (fun x => x.port == some p)).foldl (fun s x => endSession x.id s) s) :=
    .foldl (fun s x => (endSession_spec x.id s).2)
  rw [resetMailbox_eq]
  generalize (s.sess.sessions.filter (fun x => x.port == some p)).foldl (fun s x => endSession x.id s) s = t at hp hc ⊢
  refine ⟨?_, ?_⟩
  · refine (hp.trans ?_).trans (portsStill_modPort _ mailboxReset_still)
    exact fun _ => rfl
  · exact (hc.trans (onlyChanges_modSess.mono (by decide))).trans (onlyChanges_modPort.mono (by decide))

/-! ### Reads that are given up (R101, R102) -/

/-- A read of a held port: what answers it is discarded (R102). -/
def giveUp (e : Nat × Req) : Nat × Req := (e.1, { e.2 with held := true, dropped := true })

/-- Every port is still but for reads given up: each of them is one that a hold gives up as well. -/
def ReadsDropped (s t : State) : Prop := ∀ q, ∃ rs : Tab Req,
  rs.map giveUp = (s.ports.get q).reqs.map giveUp ∧
    (t.ports.get q).still = ({ s.ports.get q with reqs := rs } : Port).still

theorem PortsStill.readsDropped {s t : State} (h : PortsStill s t) : ReadsDropped s t :=
  fun q => ⟨(s.ports.get q).reqs, rfl, h q⟩

theorem ReadsDropped.trans {s t u : State} (h : ReadsDropped s t) (k : ReadsDropped t u) : ReadsDropped s u := by
  intro q
  obtain ⟨rs, h1, h2⟩ := h q
  obtain ⟨rs', k1, k2⟩ := k q
  have hr : (t.ports.get q).reqs = rs := (congrArg Port.reqs h2 :)
  refine ⟨rs', by rw [k1, hr, h1], ?_⟩
  have e : ({ t.ports.get q with reqs := rs' } : Port).still = ({ s.ports.get q with reqs := rs' } : Port).still :=
    (congrArg (fun v : Port => ({ v with reqs := rs' } : Port)) h2 :)
  exact k2.trans e

theorem ReadsDropped.foldl {α : Type} {f : State → α → State} (h : ∀ s a, ReadsDropped s (f s a)) (l : List α)
    (s : State) : ReadsDropped s (l.foldl f s) := by
  induction l generalizing s with
  | nil => exact (PortsStill.refl s).readsDropped
  | cons a l ih => exact (h s a).trans (ih _)

theorem readsDropped_dropReqsOf (p : PortId) (tag : Nat) (s : State) : ReadsDropped s (dropReqsOf p tag s) := by
  intro q
  unfold dropReqsOf
  rw [modPort_ports, ports_get_set]
  split
  · rename_i e
    subst e
    refine ⟨_, ?_, rfl⟩
    rw [List.map_map]
    apply List.map_congr_left
    intro x _
    simp only [Function.comp]
    repeat' split
    all_goals rfl
  · exact ⟨_, rfl, rfl⟩

/-- A cancelled command gives up its own reads (R102). -/
theorem readsDropped_cancelCmd (c : Cmd) (s : State) : ReadsDropped s (cancelCmd c s) := by
  have h : OnlyChanges (.ce :: .qm :: giveUpParts) s (dropCmd c (cancelSlots c.port c.tag s)) :=
    (onlyChanges_cancelSlots.mono (by decide)).trans (onlyChanges_dropCmd.mono (by decide))
  have hr := readsDropped_dropReqsOf c.port c.tag (dropCmd c (cancelSlots c.port c.tag s))
  have he : cancelCmd c s = dropLock c.port c.tag (dropReadsOf c.port c.tag (dropReqsOf c.port c.tag
      (dropCmd c (cancelSlots c.port c.tag s)))) := rfl
  rw [he]
  generalize dropReqsOf c.port c.tag (dropCmd c (cancelSlots c.port c.tag s)) = u at hr ⊢
  have hl : OnlyChanges [.ce, .cooper] u (dropLock c.port c.tag (dropReadsOf c.port c.tag u)) :=
    (onlyChanges_dropReadsOf.mono (by decide)).trans (onlyChanges_dropLock.mono (by decide))
  exact ((PortsStill.of_apart (h .ports (by decide))).readsDropped.trans hr).trans
    (PortsStill.of_apart (hl .ports (by decide))).readsDropped

/-! ### Rings (R103, R113) -/

/-- A table of which the entries with some places stay. -/
theorem at?_filter {β : Type} (t : Tab β) (f : Nat → Bool) (k : Nat) :
    Tab.at? k (t.filter (fun e => f e.1)) = if f k then Tab.at? k t else none := by
  induction t with
  | nil => simp [Tab.at?]
  | cons e t ih =>
    obtain ⟨a, v⟩ := e
    by_cases hk : a = k
    · subst hk
      by_cases hf : f a
      · simp [Tab.at?, hf]
      · simp [ih, hf]
    · by_cases hf : f a
      · simp [Tab.at?, hf, hk, ih]
      · simp [Tab.at?, hf, hk, ih]

theorem ringKey_div {p : PortId} {r : Nat} (h : r < 256) : ringKey p r / 256 = p.val := by
  unfold ringKey
  omega

theorem ringKey_mod {p : PortId} {r : Nat} (h : r < 256) : ringKey p r % 256 = r := by
  unfold ringKey
  omega

/-- The rings that a port has stand under its own places. -/
theorem mem_ringsOf {s : State} {p : PortId} {r : Nat} (h : r ∈ ringsOf s p) : r < 256 := by
  simp only [ringsOf, List.mem_map] at h
  obtain ⟨k, -, rfl⟩ := h
  exact Nat.mod_lt _ (by decide)

theorem stopRing_stopRing (x : Ring) : stopRing (stopRing x) = stopRing x := by
  unfold stopRing
  by_cases h : x.state = .running ∨ x.state = .faulted ∨ x.state = .resetting <;> simp [h]

/-- Rings of a list that stop read as stopped, every other ring as before (R103). -/
theorem atD_stopRings (p : PortId) (l : List Nat) (s : State) (j : Nat) :
    Tab.atD (l.foldl (fun s r => modRing p r stopRing s) s).rings j Ring.reset =
      if j ∈ l.map (ringKey p) then stopRing (Tab.atD s.rings j Ring.reset) else Tab.atD s.rings j Ring.reset := by
  induction l generalizing s with
  | nil => simp
  | cons r l ih =>
    rw [List.foldl_cons, ih, modRing_rings, atD_putD]
    by_cases h : j = ringKey p r
    · subst h
      simp [getRing, stopRing_stopRing]
    · simp [h]

/-- The rings of a port stop, and those of the others stay (R103). -/
theorem getRing_stopRings (p q : PortId) {r : Nat} (s : State) (h : r < 256) :
    getRing ((ringsOf s p).foldl (fun s r => modRing p r stopRing s) s) q r =
      if q = p then stopRing (getRing s q r) else getRing s q r := by
  unfold getRing
  rw [atD_stopRings]
  by_cases hq : q = p
  · subst hq
    rw [if_pos rfl]
    split
    · rfl
    · rename_i hm
      have hk : ringKey q r ∉ Tab.keys s.rings := fun k =>
        hm (List.mem_map.2 ⟨r, List.mem_map.2 ⟨ringKey q r, by simp [k, ringKey_div h], ringKey_mod h⟩, rfl⟩)
      have hn : Tab.at? (ringKey q r) s.rings = none := by
        rw [← Option.not_isSome_iff_eq_none, at?_isSome]
        exact hk
      simp only [Tab.atD, hn]
      rfl
  · rw [if_neg hq, if_neg]
    intro hm
    obtain ⟨r', hr', e⟩ := List.mem_map.1 hm
    have := congrArg (· / 256) e
    simp only [ringKey_div (mem_ringsOf hr'), ringKey_div h] at this
    exact hq (Fin.ext this.symm)

/-- Where the rings of a port are discarded they read as reset, and those of the others stay (R103). -/
theorem getRing_discarded {s t : State} {p : PortId} (ht : t.rings = s.rings.filter (fun e => e.1 / 256 != p.val))
    (q : PortId) {r : Nat} (h : r < 256) : getRing t q r = if q = p then Ring.reset else getRing s q r := by
  unfold getRing Tab.atD
  rw [ht, at?_filter _ (fun k => k / 256 != p.val), ringKey_div h]
  by_cases hq : q = p
  · simp [hq]
  · have hv : q.val ≠ p.val := fun k => hq (Fin.ext k)
    simp [hq, hv]

end Sys2Proof.Machine
end

section
/-! # Links and resets of a port (R25, R73, R80, R86, R101 to R103) -/

namespace Sys2Proof.Machine

/-! ### A hold (R101, R102) -/

/-- The commands that a hold cancels. -/
abbrev ownCmds (p : PortId) (s : State) : List Cmd := s.ce.cmds.filter (fun c => c.port == p)

/-- A hold before its rings: the port's commands are cancelled, and its reads given up. -/
def cutOff (p : PortId) (s : State) : State :=
  modPort p (fun q => { q with reqs := q.reqs.map giveUp }) ((ownCmds p s).foldl (fun s c => cancelCmd c s) s)

theorem hold_eq (p : PortId) (keep : Bool) (s : State) : hold p keep s =
    if keep then (ringsOf (cutOff p s) p).foldl (fun s r => modRing p r stopRing s) (cutOff p s)
    else { cutOff p s with rings := (cutOff p s).rings.filter (fun e => e.1 / 256 != p.val) } := rfl

/-- Whichever becomes of its rings, a hold leaves ports and commands as they are when the port is cut off. -/
theorem hold_cutOff (p : PortId) (keep : Bool) (s : State) :
    (hold p keep s).ports = (cutOff p s).ports ∧ (hold p keep s).ce = (cutOff p s).ce := by
  rw [hold_eq]
  cases keep
  · exact ⟨rfl, rfl⟩
  · have h : ∀ (l : List Nat) (t : State), (l.foldl (fun s r => modRing p r stopRing s) t).ports = t.ports ∧
        (l.foldl (fun s r => modRing p r stopRing s) t).ce = t.ce := by
      intro l
      induction l with
      | nil => exact fun t => ⟨rfl, rfl⟩
      | cons r l ih => exact fun t => ih _
    exact h _ _

/-- The engine without the commands of a port (R101). -/
theorem cutOff_ce (p : PortId) (s : State) : (cutOff p s).ce = s.ce.without (ownCmds p s) :=
  foldl_cancelCmd_ce (ownCmds p s) s

/-- Cancelling leaves the rings as they are (R103). -/
theorem cutOff_rings (p : PortId) (s : State) : (cutOff p s).rings = s.rings := by
  have h : OnlyChanges cancelParts s ((ownCmds p s).foldl (fun s c => cancelCmd c s) s) :=
    .foldl (fun _ _ => onlyChanges_cancelCmd)
  exact h .rings (by decide)

/-- A port that is cut off has its reads given up, and is still otherwise. -/
theorem cutOff_port (p : PortId) (s : State) : ((cutOff p s).ports.get p).still =
    ({ s.ports.get p with reqs := (s.ports.get p).reqs.map giveUp } : Port).still := by
  obtain ⟨rs, h1, h2⟩ := ReadsDropped.foldl (fun s c => readsDropped_cancelCmd c s) (ownCmds p s) s p
  unfold cutOff
  rw [modPort_get_self]
  generalize ((ownCmds p s).foldl (fun s c => cancelCmd c s) s).ports.get p = v at h2 ⊢
  have hr : v.reqs = rs := (congrArg Port.reqs h2 :)
  rw [hr, h1]
  exact (congrArg (fun v : Port => ({ v with reqs := (s.ports.get p).reqs.map giveUp } : Port)) h2 :)

/-- The commands that stay are those of the other ports. -/
theorem without_ownCmds (p : PortId) (s : State) :
    (s.ce.without (ownCmds p s)).cmds = s.ce.cmds.filter (fun c => c.port != p) := by
  simp only [CmdEngine.without]
  apply List.filter_congr
  intro d hd
  by_cases e : d.port = p
  · have hm : d ∈ ownCmds p s := List.mem_filter.2 ⟨hd, by simp [e]⟩
    have hf : ¬(ownCmds p s).all (fun c => !(d.port == c.port && d.tag == c.tag)) = true := by
      rw [List.all_eq_true]
      exact fun h => by simpa using h d hm
    simp only [Bool.not_eq_true] at hf
    rw [hf]
    simp [e]
  · have ht : (ownCmds p s).all (fun c => !(d.port == c.port && d.tag == c.tag)) = true := by
      rw [List.all_eq_true]
      intro c hc
      have hp : c.port = p := by simpa using (List.mem_filter.1 hc).2
      simp [hp, e]
    rw [ht]
    simp [e]

/-- A hold holds the port (R101, R102). -/
theorem heldBy_hold (p : PortId) (keep : Bool) (s : State) : HeldBy p s (hold p keep s) := by
  obtain ⟨hp, hc⟩ := hold_cutOff p keep s
  rw [cutOff_ce] at hc
  refine ⟨?_, ?_, ?_⟩
  · rw [hc, without_ownCmds]
  · intro l hl
    rw [hc] at hl
    obtain ⟨hm, ha⟩ := List.mem_filter.1 hl
    refine ⟨hm, fun c hcm hcp h => ?_⟩
    have hk := List.all_eq_true.1 ha c (List.mem_filter.2 ⟨hcm, by simp [hcp]⟩)
    simp [h.1, h.2, hcp] at hk
  · rw [hp]
    exact (congrArg Port.reqs (cutOff_port p s) :)

/-- A hold says the same of states that agree in the commands and the reads of the port. -/
theorem HeldBy.congr {p : PortId} {s s' t t' : State} (h : HeldBy p s t) (hs : s'.ce = s.ce)
    (hr : (s'.ports.get p).reqs = (s.ports.get p).reqs) (ht : t'.ce = t.ce)
    (hq : (t'.ports.get p).reqs = (t.ports.get p).reqs) : HeldBy p s' t' := by
  obtain ⟨h1, h2, h3⟩ := h
  refine ⟨by rw [hs, ht, h1], fun l hl => ?_, by rw [hq, hr, h3]⟩
  rw [ht] at hl
  rw [hs]
  exact h2 l hl

/-! ### A hold that stops the rings (R101, R103) -/

/-- What a hold with its rings stopped leaves of port and rings. -/
theorem hold_stops (p : PortId) (s : State) : (∀ r, r < 256 → getRing (hold p true s) p r = stopRing (getRing s p r)) ∧
    (∀ q r, q ≠ p → r < 256 → getRing (hold p true s) q r = getRing s q r) ∧
    ((hold p true s).ports.get p).cfg = (s.ports.get p).cfg := by
  have hs : ∀ q r, getRing (cutOff p s) q r = getRing s q r := fun q r => by
    unfold getRing
    rw [cutOff_rings]
  have hh : hold p true s = (ringsOf (cutOff p s) p).foldl (fun s r => modRing p r stopRing s) (cutOff p s) :=
    hold_eq p true s
  refine ⟨fun r hr => ?_, fun q r hq hr => ?_, ?_⟩
  · rw [hh, getRing_stopRings p p _ hr, if_pos rfl, hs]
  · rw [hh, getRing_stopRings p q _ hr, if_neg hq, hs]
  · rw [(hold_cutOff p true s).1]
    exact (congrArg Port.cfg (cutOff_port p s) :)

/-- A change of configuration space that holds the port, after a hold that stops its rings (R86, R101). -/
theorem ends_heldCfg {c : Instr} {s : State} {p : PortId} {f : PortCfg → PortCfg}
    (e : exec c s = finish (modPort p (fun q => { q with cfg := f q.cfg }) (hold p true s)))
    (hf : ∀ k, (!(f k).busMaster || (f k).d3hot) = true) : Ends c s holdParts (fun t =>
      HeldBy p s t ∧ (∀ r, r < 256 → getRing t p r = stopRing (getRing s p r)) ∧
      (∀ q r, q ≠ p → r < 256 → getRing t q r = getRing s q r) ∧ (t.ports.get p).isHeld = true ∧
      (t.ports.get p).cfg = f (s.ports.get p).cfg) := by
  obtain ⟨h1, h2, h3⟩ := hold_stops p s
  refine ends_of_finish e (onlyChanges_hold.trans (onlyChanges_modPort.mono (by decide))) ⟨?_, ?_, ?_, ?_, ?_⟩
  · exact (heldBy_hold p true s).congr rfl rfl (settle_ce _) (by rw [settle_port_reqs, modPort_get_self])
  · intro r hr
    rw [← h1 r hr]
    simp [getRing]
  · intro q r hq hr
    rw [← h2 q r hq hr]
    simp [getRing]
  · rw [settle_port_isHeld, modPort_get_self]
    exact hf _
  · rw [settle_port_cfg, modPort_get_self, ← h3]

/-! ### Port resets (R103) -/

/-- A port has been reset (R103): it is held, its rings are discarded, configuration space and INT_PENDING are at their
defaults. -/
structure PortWasReset (p : PortId) (s t : State) : Prop where
  held : HeldBy p s t
  cfg : (t.ports.get p).cfg = PortCfg.reset
  intPending : (t.ports.get p).intPending = 0#256
  rings : ∀ r, r < 256 → getRing t p r = Ring.reset
  others : ∀ q r, q ≠ p → r < 256 → getRing t q r = getRing s q r

/-- Configuration space, the interrupts' state and the notices of a port at their defaults (R85, R103, R140). -/
def functionDefaults (q : Port) : Port :=
  { q with
    cfg := PortCfg.reset, intPending := 0#256, msixUnmasked := [], msixPending := [], msiPending := 0#32
    msixWords := [], notices := [], unacked := [] }

/-- What a function reset makes of its port, apart from what is sent and the mailbox. -/
theorem resetFunction_port (p : PortId) (s : State) :
    ((resetFunction p s).ports.get p).still = (functionDefaults (s.ports.get p)).still := by
  have h := (portsStill_intaSync p (modPort p functionDefaults s)).trans
    (resetMailbox_spec p (intaSync p (modPort p functionDefaults s))).1
  exact (h p).trans (congrArg Port.still (modPort_get_self p functionDefaults s))

theorem onlyChanges_resetFunction {p : PortId} {s : State} : OnlyChanges sessionParts s (resetFunction p s) :=
  ((onlyChanges_modPort.mono (by decide)).trans (onlyChanges_intaSync.mono (by decide))).trans
    (resetMailbox_spec p _).2

/-- What a port reset can change. -/
abbrev resetParts : List Part := .sess :: .dict :: holdParts

theorem onlyChanges_portReset {p : PortId} {s : State} : OnlyChanges resetParts s (portReset p s) :=
  (onlyChanges_hold.mono (by decide)).trans (onlyChanges_resetFunction.mono (by decide))

/-- A port reset resets the port (R103), and leaves its link. -/
theorem portReset_reset (p : PortId) (s : State) : PortWasReset p s (portReset p s) ∧
    ((portReset p s).ports.get p).link = (s.ports.get p).link := by
  have hc : OnlyChanges sessionParts (hold p false s) (portReset p s) := onlyChanges_resetFunction
  have hp : ((portReset p s).ports.get p).still = _ := resetFunction_port p (hold p false s)
  have hreqs : ((portReset p s).ports.get p).reqs = ((hold p false s).ports.get p).reqs := (congrArg Port.reqs hp :)
  have hrings : (portReset p s).rings = s.rings.filter (fun e => e.1 / 256 != p.val) := by
    rw [← cutOff_rings p s]
    exact hc .rings (by decide)
  refine ⟨⟨?_, (congrArg Port.cfg hp :), (congrArg Port.intPending hp :), fun r hr => ?_, fun q r hq hr => ?_⟩, ?_⟩
  · exact (heldBy_hold p false s).congr rfl rfl (hc .ce (by decide)) hreqs
  · rw [getRing_discarded hrings p hr, if_pos rfl]
  · rw [getRing_discarded hrings q hr, if_neg hq]
  · have hl : ((portReset p s).ports.get p).link = ((hold p false s).ports.get p).link := (congrArg Port.link hp :)
    rw [hl, (hold_cutOff p false s).1]
    exact (congrArg Port.link (cutOff_port p s) :)

/-- A reset says the same of states that agree in commands, rings and what it reads of the port. -/
theorem PortWasReset.congr {p : PortId} {s s' t t' : State} (h : PortWasReset p s t) (hsc : s'.ce = s.ce)
    (hsr : s'.rings = s.rings) (hsq : (s'.ports.get p).reqs = (s.ports.get p).reqs) (htc : t'.ce = t.ce)
    (htr : t'.rings = t.rings) (htg : (t'.ports.get p).cfg = (t.ports.get p).cfg)
    (hti : (t'.ports.get p).intPending = (t.ports.get p).intPending)
    (htq : (t'.ports.get p).reqs = (t.ports.get p).reqs) : PortWasReset p s' t' := by
  obtain ⟨h1, h2, h3, h4, h5⟩ := h
  have hs : ∀ q r, getRing s' q r = getRing s q r := fun q r => by unfold getRing; rw [hsr]
  have ht : ∀ q r, getRing t' q r = getRing t q r := fun q r => by unfold getRing; rw [htr]
  exact ⟨h1.congr hsc hsq htc htq, htg.trans h2, hti.trans h3, fun r hr => (ht p r).trans (h4 r hr),
    fun q r hq hr => (ht q r).trans ((h5 q r hq hr).trans (hs q r).symm)⟩

/-! ### The commands that reset a port (R80, R103) -/

/-- The test of a port ends before a reset (R544); of the port it changes nothing but notices. -/
theorem abortTestOn_spec (i cause : Nat) (s : State) : OnlyChanges [.free, .test] s (abortTestOn i cause s) := by
  unfold abortTestOn
  split
  · exact onlyChanges_abortTest
  · exact .refl

/-- The port's test ends, and its link and INTA change, before the port is reset (R103, R544). -/
def beforeReset (p : PortId) (f : Port → Port) (s : State) : State := modPort p f (abortTestOn (p.val + 1) 3 s)

theorem onlyChanges_beforeReset {p : PortId} {f : Port → Port} {s : State} :
    OnlyChanges [.free, .test, .ports] s (beforeReset p f s) :=
  ((abortTestOn_spec _ _ _).mono (by decide)).trans (onlyChanges_modPort.mono (by decide))

/-- A reset of the port that follows is one of the state before, and keeps the link as it was left. -/
theorem portReset_beforeReset {p : PortId} {f : Port → Port} (s : State) (hf : ∀ q, (f q).reqs = q.reqs)
    (hl : ∀ q q' : Port, q.link = q'.link → (f q).link = (f q').link) :
    PortWasReset p s (portReset p (beforeReset p f s)) ∧
      ((portReset p (beforeReset p f s)).ports.get p).link = (f (s.ports.get p)).link := by
  obtain ⟨h, hlink⟩ := portReset_reset p (beforeReset p f s)
  have hc : OnlyChanges [.free, .test, .ports] s (beforeReset p f s) := onlyChanges_beforeReset
  have ha := (abortTestOn_spec (p.val + 1) 3 s) .ports (by decide)
  have hr : ((abortTestOn (p.val + 1) 3 s).ports.get p).reqs = (s.ports.get p).reqs :=
    port_read ha p Port.reqs (fun _ => rfl)
  have hk : ((abortTestOn (p.val + 1) 3 s).ports.get p).link = (s.ports.get p).link :=
    port_read ha p Port.link (fun _ => rfl)
  refine ⟨h.congr (hc .ce (by decide)).symm (hc .rings (by decide)).symm ?_ rfl rfl rfl rfl rfl, ?_⟩
  · unfold beforeReset
    rw [modPort_get_self, hf, hr]
  · rw [hlink]
    unfold beforeReset
    rw [modPort_get_self]
    exact hl _ _ hk

theorem modPort_id (p : PortId) (s : State) : modPort p (fun q => q) s = s := by
  have h : ∀ ps : Ports, ps.set p (ps.get p) = ps := by
    intro ps
    rcases port_cases p with rfl | rfl | rfl | rfl <;> rfl
  unfold modPort
  rw [h]

/-- Without a change of the link the test ends alone. -/
theorem beforeReset_id (p : PortId) (s : State) : beforeReset p (fun q => q) s = abortTestOn (p.val + 1) 3 s :=
  modPort_id _ _

/-- A settled state shows a reset as the state before did. -/
theorem PortWasReset.settle {p : PortId} {s t : State} (h : PortWasReset p s t) : PortWasReset p s (settle t) :=
  h.congr rfl rfl rfl (by simp) (by simp) (by simp) (by simp) (by simp)

/-- What a command that resets a port can change. -/
abbrev resetCommandParts : List Part := holdParts ++ [.free, .sess, .dict, .test]

/-- What the statement asks of a command that resets a port. -/
def ResetAnswer (c : Instr) (p : PortId) (s t : State) : Prop :=
  HeldBy p s t ∧ (t.ports.get p).cfg = PortCfg.reset ∧ (t.ports.get p).intPending = 0#256 ∧
    (∀ r, r < 256 → getRing t p r = Ring.reset) ∧ (∀ q r, q ≠ p → r < 256 → getRing t q r = getRing s q r) ∧
    (c = .flr p ∨ c = .d3hotExit p ∨ c = .hotReset p false → (t.ports.get p).link = (s.ports.get p).link) ∧
    (c = .perstNAssert p → (t.ports.get p).link.perst = true ∧ (t.ports.get p).link.up = false)

theorem PortWasReset.answer {c : Instr} {p : PortId} {s t : State} (h : PortWasReset p s t)
    (hl : c = .flr p ∨ c = .d3hotExit p ∨ c = .hotReset p false → (t.ports.get p).link = (s.ports.get p).link)
    (hp : c = .perstNAssert p → (t.ports.get p).link.perst = true ∧ (t.ports.get p).link.up = false) :
    ResetAnswer c p s t := ⟨h.held, h.cfg, h.intPending, h.rings, h.others, hl, hp⟩

/-- What `dropLink` makes of a port: the link is gone, and INTA with it. -/
def linkGone (q : Port) : Port :=
  { q with inta := false, link := { q.link with up := false, rate := 0, width := 0, flit := false } }

/-- A command that ends the port's test and resets the port, with the link as `f` leaves it. -/
theorem ends_portReset {c : Instr} {s : State} {p : PortId} {f : Port → Port}
    (e : exec c s = finish (portReset p (beforeReset p f s))) (hf : ∀ q, (f q).reqs = q.reqs)
    (hl : ∀ q q' : Port, q.link = q'.link → (f q).link = (f q').link) (hc : c ≠ .perstNAssert p)
    (hk : c = .flr p ∨ c = .d3hotExit p ∨ c = .hotReset p false → ∀ q, (f q).link = q.link) :
    Ends c s (resetCommandParts) (ResetAnswer c p s) := by
  obtain ⟨h, hlink⟩ := portReset_beforeReset s hf hl
  refine ends_of_finish e ((onlyChanges_beforeReset.mono (by decide)).trans (onlyChanges_portReset.mono (by decide)))
    (h.settle.answer (fun k => ?_) (fun k => absurd k hc))
  rw [settle_port_link, hlink, hk k]

/-- PERST_N_ASSERT drops the link and resets the port (R103). -/
theorem ends_perstNAssert (p : PortId) (s : State) :
    Ends (.perstNAssert p) s (resetCommandParts) (ResetAnswer (.perstNAssert p) p s) := by
  obtain ⟨h, hlink⟩ := portReset_beforeReset (p := p) (f := linkGone) s (fun _ => rfl)
    (fun q q' k => by simp only [linkGone, k])
  have e : exec (.perstNAssert p) s = finish (modPort p (fun q => { q with link := { q.link with perst := true } })
      (portReset p (beforeReset p linkGone s))) := rfl
  have o : OnlyChanges (resetCommandParts) s (portReset p (beforeReset p linkGone s)) :=
    (onlyChanges_beforeReset.mono (by decide)).trans (onlyChanges_portReset.mono (by decide))
  generalize portReset p (beforeReset p linkGone s) = u at *
  have hm : PortWasReset p s (modPort p (fun q => { q with link := { q.link with perst := true } }) u) :=
    h.congr rfl rfl rfl rfl rfl (by rw [modPort_get_self]) (by rw [modPort_get_self]) (by rw [modPort_get_self])
  refine ends_of_finish e (o.trans (onlyChanges_modPort.mono (by decide)))
    (hm.settle.answer (fun k => by simp at k) (fun _ => ?_))
  rw [settle_port_link, modPort_get_self]
  simp [hlink, linkGone]

/-- Settles O13: training and PERST_N by the link's rule, the resets by R103, and the holds by R101. -/
theorem portLinksAndResets : Obligations.PortLinksAndResets := by
  intro s p
  refine ⟨fun rate width flit cables hu hs hm hl => ?_, fun rate width flit odd => ?_, gives_of_finish rfl, fun hu => ?_,
    fun c hc hu hd => ?_, fun c hc hu hb hd => ?_⟩
  · exact gives_of_finish (if_pos (by simp [hu, hs, hm, hl]))
  · exact gives_of_finish (if_neg (by simp [linkOk]))
  · have hst := portsStill_sendAgain p (modPort p (fun q => { q with cfg := { q.cfg with busMaster := true } }) s)
    refine ends_of_finish (if_pos hu) (onlyChanges_modPort.trans onlyChanges_sendAgain) ?_
    rw [settle_port_cfg, settle_port_link, settle_port_reqs, hst.read p Port.cfg (fun _ => rfl),
      hst.read p Port.link (fun _ => rfl), hst.read p Port.reqs (fun _ => rfl), modPort_get_self]
    exact ⟨rfl, rfl, rfl⟩
  · simp only [List.mem_cons, List.not_mem_nil, or_false] at hc
    rcases hc with rfl | rfl | rfl | rfl | rfl
    · exact ends_perstNAssert p s
    · exact ends_portReset (f := fun q => { q with inta := false }) (if_pos (by simpa using hu)) (fun _ => rfl)
        (fun _ _ k => k) (by simp) (fun _ _ => rfl)
    · exact ends_portReset (f := linkGone) (if_pos (by simpa using hu)) (fun _ => rfl)
        (fun q q' k => by simp only [linkGone, k]) (by simp) (by simp)
    · refine ends_portReset (f := fun q => q) ?_ (fun _ => rfl) (fun _ _ k => k) (by simp) (fun _ _ => rfl)
      rw [beforeReset_id]
      exact if_pos (by simpa using hu)
    · refine ends_portReset (f := fun q => q) ?_ (fun _ => rfl) (fun _ _ k => k) (by simp) (fun _ _ => rfl)
      rw [beforeReset_id]
      exact if_pos (by simpa [hd rfl] using hu)
  · simp only [List.mem_cons, List.not_mem_nil, or_false] at hc
    rcases hc with rfl | rfl
    · refine (ends_heldCfg (c := .busMasterClear p) (s := s) (f := fun k => { k with busMaster := false })
        (if_pos (by simp [hu, hb rfl])) (fun _ => rfl)).imp (fun t k => ?_)
      obtain ⟨k1, k2, k3, k4, k5⟩ := k
      exact ⟨k1, k2, k3, k4, fun _ => k5, by simp⟩
    · refine (ends_heldCfg (c := .d3hotEntry p) (s := s) (f := fun k => { k with d3hot := true })
        (if_pos (by simp [hu, hd rfl])) (fun _ => by simp)).imp (fun t k => ?_)
      obtain ⟨k1, k2, k3, k4, k5⟩ := k
      exact ⟨k1, k2, k3, k4, by simp, fun _ => k5⟩

end Sys2Proof.Machine
end

section
/-! # Secure boot, restarts of core 0 and MODULE_CONTROL (R57 to R59, R63, R71, R472) -/

namespace Sys2Proof.Machine

/-! ### Measurements and secure boot (R65, R472, R474) -/

theorem onlyChanges_mrExtend {i : Nat} {d : Bytes} {s : State} : OnlyChanges [.lock] s (mrExtend i d s) :=
  onlyChanges_modLock

theorem onlyChanges_freeBytes {n : Nat} {s : State} : OnlyChanges [.free] s (freeBytes n s).2 := by
  intro q h; cases q <;> first | exact rfl | exact absurd (by simp) h

/-- The measurements of a boot draw what the spec leaves open and change Locksmith (R474). -/
theorem onlyChanges_measureBoot {h : Option Bytes} {s : State} : OnlyChanges [.free, .lock] s (measureBoot h s) := by
  unfold measureBoot
  extract_lets a b
  have hb : OnlyChanges [.free, .lock] s b :=
    (onlyChanges_modLock.mono (by decide)).trans (onlyChanges_mrExtend.mono (by decide))
  clear_value b
  cases h with
  | none => exact hb
  | some h =>
    have m : ∀ (i : Nat) (d : Bytes) (t : State), OnlyChanges [.free, .lock] t (mrExtend i d t) := fun _ _ _ =>
      onlyChanges_mrExtend.mono (by decide)
    have f : ∀ (n : Nat) (t : State), OnlyChanges [.free, .lock] t (freeBytes n t).2 := fun _ _ =>
      onlyChanges_freeBytes.mono (by decide)
    dsimp -zeta only
    extract_lets c x y
    exact (((hb.trans (m 1 _ b)).trans (f 64 c)).trans (f 64 x.2)).trans ((m 2 _ y.2).trans (m 3 _ _))

/-- An image is named, the recovery service is entered or not, and the boot is measured (R472, R474). -/
theorem measureBoot_image (b : Nat) (r : Bool) (h : Option Bytes) (s : State) :
    OnlyChanges [.free, .lock] (modPw (fun p => { p with bootImage := b }) s)
      (measureBoot h (modPw (fun p => { p with bootImage := b }) (modLock (fun l => { l with recovery := r }) s))) := by
  have e : modPw (fun p => { p with bootImage := b }) (modLock (fun l => { l with recovery := r }) s) =
      modLock (fun l => { l with recovery := r }) (modPw (fun p => { p with bootImage := b }) s) := rfl
  rw [e]
  exact (onlyChanges_modLock.mono (by decide)).trans onlyChanges_measureBoot

/-- Secure boot names the image that runs, and changes beside it Locksmith and what is drawn (R472). -/
theorem secureBoot_image (s : State) :
    ∃ b, OnlyChanges [.free, .lock] (modPw (fun p => { p with bootImage := b }) s) (secureBoot s).2 := by
  unfold secureBoot
  dsimp only
  split
  · exact ⟨_, measureBoot_image _ false _ s⟩
  · exact ⟨_, (measureBoot_image _ false _ s).trans onlyChanges_event⟩
  · exact ⟨s.pw.bootImage, ((measureBoot_image _ true none s).trans onlyChanges_event).trans onlyChanges_event⟩

theorem onlyChanges_secureBoot {s : State} : OnlyChanges [.free, .pw, .lock] s (secureBoot s).2 := by
  obtain ⟨b, h⟩ := secureBoot_image s
  exact (onlyChanges_modPw.mono (by decide)).trans (h.mono (by decide))

/-! ### What the settled state shows of a restart -/

section
variable (s : State)
@[simp] theorem settle_pw_mgmtRestarting : (settle s).pw.mgmtRestarting = s.pw.mgmtRestarting :=
  settle_read (·.pw.mgmtRestarting) (fun _ => rfl) s
@[simp] theorem settle_pw_startStep : (settle s).pw.startStep = s.pw.startStep :=
  settle_read (·.pw.startStep) (fun _ => rfl) s
@[simp] theorem settle_sess : (settle s).sess = s.sess := settle_read State.sess (fun _ => rfl) s
end

/-! ### A management restart (R63, R493) -/

@[simp] theorem endSession_sessions (id : Nat) (s : State) :
    (endSession id s).sess.sessions = s.sess.sessions.filter (fun y => y.id != id) := by
  obtain ⟨l, d, e⟩ := endSession_eq id s
  rw [e]
  rfl

/-- Once each session of a list has ended, those that are left have other numbers (R493). -/
theorem foldl_endSession_sessions (l : List Session) (s : State) :
    (l.foldl (fun s x => endSession x.id s) s).sess.sessions =
      s.sess.sessions.filter (fun y => l.all (fun x => y.id != x.id)) := by
  induction l generalizing s with
  | nil => exact (List.filter_eq_self.2 (fun _ _ => rfl)).symm
  | cons x l ih =>
    rw [List.foldl_cons, ih, endSession_sessions, List.filter_filter]
    simp only [List.all_cons, Bool.and_comm]

/-- What a management restart can change (R63): not the data path. -/
abbrev restartParts : List Part := [.free, .pw, .ports, .lock, .sess, .dict, .test]

/-- A management restart ends every session and holds the dictionary, and leaves the power state (R62, R63). -/
theorem mgmtRestart_spec (s : State) : OnlyChanges restartParts s (mgmtRestart s) ∧
    (mgmtRestart s).pw.mgmtRestarting = true ∧ (mgmtRestart s).sess.sessions = [] ∧
    (mgmtRestart s).pw.state = s.pw.state := by
  unfold mgmtRestart
  extract_lets a b x c d e
  have hb : OnlyChanges (.free :: .test :: sessionParts) s b := (onlyChanges_abortTest.mono (by decide)).trans
    (.foldl (fun t x => (endSession_spec (Session.id x) t).2.mono (by decide)))
  have hbp : b.pw.apart = s.pw.apart := hb .pw (by decide)
  have hnone : b.sess.sessions = [] := by
    simp only [b, foldl_endSession_sessions, List.filter_eq_nil_iff, List.all_eq_true]
    exact fun y hy h => by simpa using h y hy
  clear_value b
  have hc : OnlyChanges restartParts b c :=
    (onlyChanges_modSess (f := fun x => { x with pending := [] })).mono (by decide)
  have hd : OnlyChanges restartParts b d := hc.trans (onlyChanges_modLock.mono (by decide))
  have hsess : d.sess.sessions = [] := hnone
  have hpw : d.pw = b.pw := rfl
  clear_value d
  obtain ⟨n, hn⟩ := secureBoot_image d
  have he : OnlyChanges restartParts d e := onlyChanges_secureBoot.mono (by decide)
  have hes : e.sess = d.sess := hn .sess (by decide)
  have hep : e.pw.apart = ({ d.pw with bootImage := n } : Power).apart := hn .pw (by decide)
  refine ⟨(((hb.mono (by decide)).trans hd).trans he).trans (onlyChanges_modPw.mono (by decide)), rfl, ?_, ?_⟩
  · rw [modPw_sess, hes, hsess]
  · calc e.pw.state = d.pw.state := (congrArg Power.state hep :)
      _ = b.pw.state := by rw [hpw]
      _ = s.pw.state := (congrArg Power.state hbp :)

/-! ### What is written before MODULE_CONTROL acts (R444, R522) -/

/-- A flush of the ledger changes the vault and Locksmith (R448, R522). -/
theorem onlyChanges_ledgerFlush {s : State} : OnlyChanges [.vault, .lock] s (ledgerFlush s) := by
  unfold ledgerFlush
  split
  · exact .refl
  · extract_lets rs region first pages t
    have ht : OnlyChanges [.vault, .lock] s t := onlyChanges_modLed.mono (by decide)
    split
    · exact ht
    · exact (ht.trans (onlyChanges_gcmUse.mono (by decide))).trans
        (.foldl (fun _ _ => onlyChanges_storeWrite.mono (by decide)))

theorem onlyChanges_controlFlush {s : State} : OnlyChanges [.vault, .tally, .lock] s (controlFlush s) := by
  unfold controlFlush
  extract_lets t
  have ht : OnlyChanges [.vault, .tally, .lock] s t := by
    simp only [t]
    split
    · exact onlyChanges_ledgerFlush.mono (by decide)
    · exact .refl
  split
  · exact ht.trans ((writeSlot_slotsOnly t).onlyChanges.mono (by decide))
  · exact ht

theorem onlyChanges_requestCkpt {s : State} : OnlyChanges [.dur] s (requestCkpt s) :=
  onlyChanges_modDur (f := fun d => { d with requested := true })

/-! ### MODULE_CONTROL (R71) -/

/-- A carried write of MODULE_CONTROL acts as its value says (R71). -/
theorem writeBy_moduleControl {ch : Channel} {n : Nat} {s : State} (h : Carries ch 2 0x1101 s) (h1 : 1 ≤ n)
    (h4 : n ≤ 4) : writeBy ch 0x1101 1 [BitVec.ofNat 8 n] s =
      answered (moduleControl n s).1 none (moduleControl n s).2 := by
  have hr : defRow 0x1101 1 = some ⟨0x1101, 0x01, 0x01, .u8, 1, false, 3, 2, false, false, .num 0, [(1, 4)]⟩ := by
    decide +kernel
  rw [writeBy_num h hr (by decide) (by decide) rfl rfl (takeNum_byte _ (by omega)) (by simp [rangeOk, h1, h4]),
    writeValue_num (x := moduleControl n s) rfl]

/-- A command that is such a write answers as MODULE_CONTROL does (R71). -/
theorem exec_moduleControl {c : Instr} {ch : Channel} {n st : Nat} {s u : State} (h : Carries ch 2 0x1101 s)
    (e : exec c s = finish (writeBy ch 0x1101 1 [BitVec.ofNat 8 n] s)) (hn : 1 ≤ n ∧ n ≤ 4)
    (k : moduleControl n s = (st, u)) : exec c s = finish (answered st none u) := by
  rw [e, writeBy_moduleControl h hn.1 hn.2, k]

theorem moduleControl_dump {n : Nat} {s : State} (h : s.pw.state = .dump) : moduleControl n s = (stBusy, s) := if_pos h

theorem moduleControl_reset {s : State} (h : s.pw.state ≠ .dump) :
    moduleControl 1 s = (stSuccess, enterDump .controlReset (controlFlush s)) := if_neg h

theorem moduleControl_restart {s : State} (h : s.pw.state ≠ .dump) :
    moduleControl 2 s = (stSuccess, mgmtRestart (controlFlush s)) := if_neg h

theorem moduleControl_standby {s : State} (h : s.pw.state ≠ .dump) :
    moduleControl 3 s = (stSuccess, enterDump .controlStandby (requestCkpt (controlFlush s))) := if_neg h

/-- Without a lockout START ends a fault hold and leaves STANDBY (R58). -/
theorem moduleControl_start {s : State} (h : s.pw.state = .standby) (hl : s.pw.lockout = false) :
    moduleControl 4 s = (stSuccess, beginStart (modPw (fun p => { p with hold := false }) s)) := by
  simp [moduleControl, h, hl]

/-- A dictionary that runs is not in OFF (R57). -/
theorem Carries.not_off {ch : Channel} {role index : Nat} {s : State} (h : Carries ch role index s) :
    s.pw.state ≠ .off := by
  intro e
  simpa [dictRuns, e] using h.runs

/-- A write that enters DUMP, behind what is written before, begins a dump (R58, R71). -/
theorem ends_controlDump {c : Instr} {s u : State} {cause : DumpCause} {st : Nat} {l : List Part}
    (e : exec c s = finish (answered st none (enterDump cause u))) (hc : cause ≠ .trip12V)
    (o : OnlyChanges [.dur, .vault, .tally, .lock] s u) (hl : dumpParts ++ [.tally, .dict] ⊆ l)
    (ho : s.pw.state ≠ .off) (hd : s.pw.state ≠ .dump) : Ends c s l (DumpBegun cause s.side.pwrGood) := by
  have hu : u.pw.state = s.pw.state := (congrArg Power.state (o .pw (by decide)) :)
  have hg : u.side.pwrGood = s.side.pwrGood := (congrArg Sideband.pwrGood (o .side (by decide)) :)
  obtain ⟨-, hb⟩ := enterDump_spec (cause := cause) (s := u) (by rwa [hu]) (by rwa [hu])
  rw [hg, show (cause != .trip12V) = true by simpa using hc, Bool.and_true] at hb
  have hq : DumpBegun cause s.side.pwrGood (answered st none (enterDump cause u)) :=
    ⟨hb.state, hb.cause, hb.act, hb.good, hb.stopped⟩
  have hp : OnlyChanges (dumpParts ++ [.tally, .dict]) s (answered st none (enterDump cause u)) :=
    ((o.mono (by decide)).trans (onlyChanges_enterDump.mono (by decide))).trans (onlyChanges_answered.mono (by decide))
  exact ends_of_finish e (hp.mono hl) hq.settle

/-- MGMT_RESTART restarts core 0 alone (R63). -/
theorem ends_mgmtRestart {ch : Channel} {s : State} (h : Carries ch 2 0x1101 s) (hd : s.pw.state ≠ .dump) :
    Ends (.mgmtRestart ch) s [.free, .pw, .ports, .vault, .tally, .lock, .sess, .dict, .test] (fun t =>
      t.pw.mgmtRestarting = true ∧ t.sess.sessions = [] ∧ t.pw.state = s.pw.state) := by
  have e : exec (.mgmtRestart ch) s = finish (answered stSuccess none (mgmtRestart (controlFlush s))) :=
    exec_moduleControl h rfl (by decide) (moduleControl_restart hd)
  obtain ⟨o, hr, hs, hst⟩ := mgmtRestart_spec (controlFlush s)
  have hc : OnlyChanges [.vault, .tally, .lock] s (controlFlush s) := onlyChanges_controlFlush
  refine ends_of_finish e (((hc.mono (by decide)).trans (o.mono (by decide))).trans
    (onlyChanges_answered.mono (by decide))) ⟨?_, ?_, ?_⟩
  · rw [settle_pw_mgmtRestarting]
    exact hr
  · rw [settle_sess]
    exact hs
  · rw [settle_pw_state]
    exact hst.trans (congrArg Power.state (hc .pw (by decide)) :)

/-- START is entered at its first step, and the trigger is now (R58, R66). -/
@[simp] theorem beginStart_pw (s : State) : (beginStart s).pw =
    { s.pw with startStep := 1, startTrigger := s.clk.uptime, restart := false, state := .start } := by
  unfold beginStart
  simp

theorem onlyChanges_beginStart {s : State} : OnlyChanges [.pw] s (beginStart s) :=
  onlyChanges_modPw.trans onlyChanges_setPower

/-- MODULE_START leaves STANDBY where no lockout stands (R58). -/
theorem ends_moduleStart {ch : Channel} {s : State} (h : Carries ch 2 0x1101 s) (hs : s.pw.state = .standby)
    (hl : s.pw.lockout = false) : Ends (.moduleStart ch) s [.pw, .dict] (fun t =>
      t.pw.state = .start ∧ t.pw.startStep = 1 ∧ t.pw.hold = false) := by
  refine ends_of_finish (exec_moduleControl h rfl (by decide) (moduleControl_start hs hl))
    ((onlyChanges_modPw.mono (by decide)).trans
      ((onlyChanges_beginStart.mono (by decide)).trans (onlyChanges_answered.mono (by decide)))) ?_
  simp [answered]

end Sys2Proof.Machine

/-! ### The statement, outside `Machine`, whose `moduleControl` is the model's own -/

namespace Sys2Proof
open Machine

/-- Settles O8: a write of MODULE_CONTROL is carried, and each value acts by its own rule; in a dump it answers BUSY. -/
theorem moduleControl : Obligations.ModuleControl := by
  intro s ch h
  have hf : OnlyChanges [.dur, .vault, .tally, .lock] s (controlFlush s) :=
    onlyChanges_controlFlush.mono (by decide)
  refine ⟨fun hd => ?_, fun hd => ?_, ends_mgmtRestart h, ends_moduleStart h, fun hd c hc => ?_⟩
  · exact ends_controlDump (exec_moduleControl h rfl (by decide) (moduleControl_reset hd)) (by decide) hf (by decide)
      h.not_off hd
  · exact ends_controlDump (exec_moduleControl h rfl (by decide) (moduleControl_standby hd)) (by decide)
      (hf.trans (onlyChanges_requestCkpt.mono (by decide))) (by decide) h.not_off hd
  · simp only [List.mem_cons, List.not_mem_nil, or_false] at hc
    rcases hc with rfl | rfl | rfl | rfl
    · exact gives_of_finish (exec_moduleControl h rfl (by decide) (moduleControl_dump (n := 1) hd))
    · exact gives_of_finish (exec_moduleControl h rfl (by decide) (moduleControl_dump (n := 3) hd))
    · exact gives_of_finish (exec_moduleControl h rfl (by decide) (moduleControl_dump (n := 2) hd))
    · exact gives_of_finish (exec_moduleControl h rfl (by decide) (moduleControl_dump (n := 4) hd))

end Sys2Proof
end

section
/-! # Power that rises, and pins, rails and clocks that start nothing (R34, R37, R38, R53, R56, R58, R62, R63, R507) -/

namespace Sys2Proof.Machine

/-! ### What the settled state shows of power and pins -/

section
variable (s : State)
@[simp] theorem settle_pending : (settle s).pending = s.pending := settle_read State.pending (fun _ => rfl) s
@[simp] theorem settle_lock : (settle s).lock = s.lock := settle_read State.lock (fun _ => rfl) s
@[simp] theorem settle_cache_slots : (settle s).cache.slots = s.cache.slots :=
  settle_read (·.cache.slots) (fun _ => rfl) s
@[simp] theorem settle_pw_lockout : (settle s).pw.lockout = s.pw.lockout := settle_read (·.pw.lockout) (fun _ => rfl) s
@[simp] theorem settle_pw_rail : (settle s).pw.rail = s.pw.rail := settle_read (·.pw.rail) (fun _ => rfl) s
@[simp] theorem settle_pw_rails : (settle s).pw.rails = s.pw.rails := settle_read (·.pw.rails) (fun _ => rfl) s
@[simp] theorem settle_pw_resetCause : (settle s).pw.resetCause = s.pw.resetCause :=
  settle_read (·.pw.resetCause) (fun _ => rfl) s
@[simp] theorem settle_side_modReset : (settle s).side.modReset = s.side.modReset :=
  settle_read (·.side.modReset) (fun _ => rfl) s
@[simp] theorem settle_side_smbAddr : (settle s).side.smbAddr = s.side.smbAddr :=
  settle_read (·.side.smbAddr) (fun _ => rfl) s
@[simp] theorem settle_side_pathHold : (settle s).side.pathHold = s.side.pathHold :=
  settle_read (·.side.pathHold) (fun _ => rfl) s
@[simp] theorem settle_side_pathSel : (settle s).side.pathSel = s.side.pathSel :=
  settle_read (·.side.pathSel) (fun _ => rfl) s
end

/-! ### Core 0 starts (R57, R59, R454) -/

theorem onlyChanges_loadStore {s : State} : OnlyChanges [.lock] s (loadStore s) :=
  onlyChanges_modLock.trans (.foldl (fun _ _ => onlyChanges_mrExtend))

/-- Of the power part, what lights FAULT changes (R51). -/
theorem addFault_pw (e : FaultEvent) (s : State) : ∃ f, (addFault e s).pw = { s.pw with faults := f } := ⟨_, rfl⟩

/-- Core 0 starts (R59): of the power part, the image that runs, a fault hold and what lights FAULT change. -/
theorem startCore_spec (s : State) : OnlyChanges [.free, .pw, .lock] s (startCore s) ∧ ∃ b k f,
    (startCore s).pw.apart = ({ s.pw with bootImage := b, hold := k, faults := f } : Power).apart := by
  obtain ⟨b, h⟩ := secureBoot_image s
  unfold startCore
  extract_lets r t
  have hl : OnlyChanges [.lock] (secureBoot s).2 t := onlyChanges_modLock.trans onlyChanges_loadStore
  have ho : OnlyChanges [.free, .pw, .lock] s t := onlyChanges_secureBoot.trans (hl.mono (by decide))
  have hp : t.pw.apart = ({ s.pw with bootImage := b } : Power).apart := h.trans (hl.mono (by decide)) .pw (by decide)
  clear_value t
  split
  · exact ⟨ho, b, s.pw.hold, s.pw.faults, hp⟩
  · obtain ⟨f, hf⟩ := addFault_pw .startCheck (modPw (fun p => { p with hold := true }) t)
    refine ⟨(ho.trans (onlyChanges_modPw.mono (by decide))).trans (onlyChanges_modPw.mono (by decide)), b, true, f, ?_⟩
    rw [hf]
    exact (congrArg (fun p : Power => ({ p with hold := true, faults := f } : Power)) hp :)

/-! ### 12 V rises (R58, R424, R434) -/

/-- The power part once 12 V has risen: a fault hold has ended, and a lockout where every sensor reads below its critical
threshold (R58). -/
def risenPower (s : State) : Power :=
  { s.pw with p12v := true, lockout := s.pw.lockout && !belowCritical s, hold := false }

/-- 12 V has risen and OFF is over (R58, R434). -/
def risen (s : State) : State := leaveOff (modPw (fun _ => risenPower s) s)

/-- Does START follow 12 V (R58)? -/
def startsWith12V (s : State) : Prop :=
  cfgAutoStart s = 1 ∧ s.side.modReset = true ∧ (risenPower s).lockout = false

/-- From OFF the module starts or goes to STANDBY, and the charger sees its input (R58, R424). -/
theorem p12vRise_off {s : State} (h : s.pw.state = .off) :
    (startsWith12V s → p12vRise s = chargerStep (beginStart (risen s))) ∧
    (¬startsWith12V s → p12vRise s = chargerStep (setPower .standby (startCore (railsUp (risen s))))) := by
  have free : startFree (risen s) = !(risenPower s).lockout := Bool.and_true _
  have k : p12vRise s = if cfgAutoStart s = 1 ∧ s.side.modReset = true ∧ startFree (risen s) = true
      then chargerStep (beginStart (risen s))
      else chargerStep (setPower .standby (startCore (railsUp (risen s)))) := if_pos h
  rw [k, free]
  unfold startsWith12V
  constructor
  · exact fun c => if_pos (by simpa using c)
  · exact fun c => if_neg (by simpa using c)

/-- What P12V_RISE from OFF can change. -/
abbrev riseParts : List Part := [.free, .pw, .side, .tally, .lock]

theorem onlyChanges_risen {s : State} : OnlyChanges riseParts s (risen s) :=
  (onlyChanges_modPw.mono (by decide)).trans (onlyChanges_modGauge.mono (by decide))

/-- START begins with 12 V (R58). -/
theorem p12vRise_starts {s : State} (h : s.pw.state = .off) (hs : startsWith12V s) :
    OnlyChanges riseParts s (p12vRise s) ∧ (p12vRise s).pw.apart = ({ risenPower s with
      startStep := 1, startTrigger := s.clk.uptime, restart := false, state := .start } : Power).apart := by
  rw [(p12vRise_off h).1 hs]
  have hc := (chargerStep_moved (beginStart (risen s))).parts
  refine ⟨(onlyChanges_risen.trans (onlyChanges_beginStart.mono (by decide))).trans (hc.mono (by decide)), ?_⟩
  refine (hc .pw (by decide) : Power.apart _ = _).trans ?_
  rw [beginStart_pw]
  rfl

/-- Without START the module goes to STANDBY with its main rails up (R37, R58, R66). -/
theorem p12vRise_stands {s : State} (h : s.pw.state = .off) (hs : ¬startsWith12V s) :
    OnlyChanges riseParts s (p12vRise s) ∧ (∃ b k f, (p12vRise s).pw.apart = ({ risenPower s with
      rails := true, bootImage := b, hold := k, faults := f, state := .standby } : Power).apart) ∧
      (p12vRise s).side.pwrGood = true := by
  rw [(p12vRise_off h).2 hs]
  have hr : OnlyChanges riseParts s (railsUp (risen s)) := onlyChanges_risen.trans
    ((onlyChanges_modSide.mono (by decide)).trans (onlyChanges_modPw.mono (by decide)))
  obtain ⟨ho, b, k, f, hp⟩ := startCore_spec (railsUp (risen s))
  have hside : (startCore (railsUp (risen s))).side.apart = (railsUp (risen s)).side.apart := ho .side (by decide)
  generalize startCore (railsUp (risen s)) = u at *
  have hc := (chargerStep_moved (setPower .standby u)).parts
  refine ⟨((hr.trans (ho.mono (by decide))).trans (onlyChanges_setPower.mono (by decide))).trans (hc.mono (by decide)),
    ⟨b, k, f, ?_⟩, ?_⟩
  · refine (hc .pw (by decide) : Power.apart _ = _).trans ?_
    rw [setPower_pw]
    exact (congrArg (fun p : Power => ({ p with state := .standby } : Power)) hp :)
  · have hcs : (chargerStep (setPower .standby u)).side.apart = (setPower .standby u).side.apart := hc .side (by decide)
    rw [setPower_side] at hcs
    exact (congrArg Sideband.pwrGood (hcs.trans hside) :)

/-- P12V_RISE from OFF (R58). -/
theorem ends_p12vRise {s : State} (ho : s.pw.state = .off) (hr : s.pw.rail = true) (hp : s.pw.p12v = false) :
    Ends .p12vRise s riseParts (fun t =>
      t.pw.p12v = true ∧ t.pw.lockout = (s.pw.lockout && !belowCritical s) ∧
      (cfgAutoStart s = 1 → s.side.modReset = true → t.pw.lockout = false → t.pw.state = .start ∧ t.pw.hold = false) ∧
      (cfgAutoStart s ≠ 1 ∨ s.side.modReset = false ∨ t.pw.lockout = true →
        t.pw.state = .standby ∧ t.pw.rails = true ∧ t.side.pwrGood = true)) := by
  have e : exec .p12vRise s = finish (p12vRise s) := congrArg finish (if_neg (by simp [hr, hp]))
  have hiff : startsWith12V s ↔
      cfgAutoStart s = 1 ∧ s.side.modReset = true ∧ (s.pw.lockout && !belowCritical s) = false := Iff.rfl
  by_cases hs : startsWith12V s
  · obtain ⟨o, k⟩ := p12vRise_starts ho hs
    have h12 : (p12vRise s).pw.p12v = true := (congrArg Power.p12v k :)
    have hl : (p12vRise s).pw.lockout = (s.pw.lockout && !belowCritical s) := (congrArg Power.lockout k :)
    have hst : (p12vRise s).pw.state = .start := (congrArg Power.state k :)
    have hh : (p12vRise s).pw.hold = false := (congrArg Power.hold k :)
    obtain ⟨h1, h2, h3⟩ := hiff.1 hs
    refine ends_of_finish e o ⟨by simpa using h12, by simpa using hl, fun _ _ _ => by simp [hst, hh], fun c => ?_⟩
    simp [h1, h2, hl, h3] at c
  · obtain ⟨o, ⟨b, n, f, k⟩, hg⟩ := p12vRise_stands ho hs
    have h12 : (p12vRise s).pw.p12v = true := (congrArg Power.p12v k :)
    have hl : (p12vRise s).pw.lockout = (s.pw.lockout && !belowCritical s) := (congrArg Power.lockout k :)
    have hst : (p12vRise s).pw.state = .standby := (congrArg Power.state k :)
    have hrl : (p12vRise s).pw.rails = true := (congrArg Power.rails k :)
    refine ends_of_finish e o
      ⟨by simpa using h12, by simpa using hl, fun h1 h2 h3 => ?_, fun _ => by simp [hst, hrl, hg]⟩
    rw [settle_pw_lockout, hl] at h3
    exact absurd (hiff.2 ⟨h1, h2, h3⟩) hs

/-! ### MOD_RESET_N is released (R58) -/

/-- The release of MOD_RESET_N: in STANDBY with AUTO_START, START follows; else only the pin shows it (R58). -/
theorem ends_modResetNRelease {s : State} (hm : s.side.modReset = false) (hs : s.pw.state = .standby)
    (ha : cfgAutoStart s = 1) (hl : s.pw.lockout = false) (hh : s.pw.hold = false) :
    Ends .modResetNRelease s [.pw, .side] (fun t => t.pw.state = .start ∧ t.side.modReset = true) := by
  have e : exec .modResetNRelease s = finish (beginStart (modSide (fun x => { x with modReset := true }) s)) :=
    (if_neg (by simp [hm])).trans (congrArg finish (if_pos ⟨hs, ha, by simp [startFree, hl, hh]⟩))
  refine ends_of_finish e ((onlyChanges_modSide.mono (by decide)).trans (onlyChanges_beginStart.mono (by decide)))
    ⟨by simp, ?_⟩
  have hside : (beginStart (modSide (fun x => { x with modReset := true }) s)).side.apart =
      (modSide (fun x => { x with modReset := true }) s).side.apart := onlyChanges_beginStart .side (by decide)
  rw [settle_side_modReset]
  exact (congrArg Sideband.modReset hside :)

theorem gives_modResetNRelease {s : State} (hm : s.side.modReset = false)
    (h : s.pw.state ≠ .standby ∨ cfgAutoStart s ≠ 1) :
    Gives .modResetNRelease s (modSide (fun x => { x with modReset := true }) s) := by
  refine gives_of_finish ((if_neg (by simp [hm])).trans (congrArg finish (if_neg ?_)))
  rintro ⟨hs, ha, -⟩
  exact h.elim (fun k => k hs) (fun k => k ha)

/-! ### Power-on reset (R53, R62, R507) -/

/-! What a module reset leaves of NOR, and where it sets core 0 and the data path (R62). -/

section
variable (cause : Nat) (s : State)
@[simp] theorem resetModule_pending : (resetModule cause s).pending = s.pending := rfl
@[simp] theorem resetModule_sessions : (resetModule cause s).sess.sessions = [] := rfl
@[simp] theorem resetModule_slots : (resetModule cause s).cache.slots = [] := rfl
@[simp] theorem resetModule_ce : (resetModule cause s).ce = CmdEngine.reset := rfl
@[simp] theorem resetModule_resetCause : (resetModule cause s).pw.resetCause = cause := rfl
@[simp] theorem resetModule_bootCount : (resetModule cause s).lock.bootCount = s.lock.bootCount + 1 := rfl
@[simp] theorem resetModule_store : (resetModule cause s).lock.store = s.lock.store := rfl
@[simp] theorem resetModule_nv : (resetModule cause s).dict.nv = s.dict.nv := rfl
@[simp] theorem resetModule_objs : (resetModule cause s).dict.objs = s.dict.nv := rfl
end

/-- The state once the standby rail has come up, before it settles (R53, R62, R507). -/
def poweredUp (addr : BitVec 2) (hold sel : Bool) (s t : State) : State :=
  { t with
    clk := Clock.reset
    side := { Sideband.reset with
      smbAddr := addr, pathHold := hold, pathSel := sel, modReset := s.side.modReset, locateN := s.side.locateN }
    paths := pathsAtPower hold sel
    tally := { Tallyman.reset with slot0 := s.tally.slot0, slot1 := s.tally.slot1 }
    dump := { DumpState.reset with image := s.dump.image }
    cache := { t.cache with stacksOk := 0xF#4 }
    pw := { t.pw with
      state := .off, rail := true, p12v := false, lockout := false, hold := false, pllLocked := true
      holdover := false, oscFault := false } }

/-- STANDBY_RAIL_POWER_UP from absent is a power-on reset (R53, R62, R507). -/
theorem standbyRailPowerUp_spec {s : State} (hr : s.pw.rail = false) (addr : BitVec 2) (hold sel : Bool) :
    ∃ t, exec (.standbyRailPowerUp addr hold sel) s = .next t ∧
      t.clk = Clock.reset ∧ t.pw.state = .off ∧ t.pw.rail = true ∧ t.pw.resetCause = 0 ∧ t.side.smbAddr = addr ∧
      t.paths.right = (hold && sel) ∧ t.sess.sessions = [] ∧ t.cache.slots = [] ∧ t.ce = CmdEngine.reset ∧
      t.lock.bootCount = s.lock.bootCount + 1 ∧ t.lock.store = s.lock.store ∧ t.dict.nv = s.dict.nv ∧
      t.dict.objs = s.dict.nv ∧ t.dump.image = s.dump.image ∧ t.pending = s.pending := by
  have e : exec (.standbyRailPowerUp addr hold sel) s = finish (poweredUp addr hold sel s (resetModule 0 s)) :=
    if_neg (by simp [hr])
  exact ⟨settle (poweredUp addr hold sel s (resetModule 0 s)), e, by simp [poweredUp, pathsAtPower]⟩

/-! ### The transmit right (R505, R507, R508) -/

/-- What the states of the paths follow leaves the right (R505). -/
@[simp] theorem rightStates_right (p : Paths) : (rightStates p).right = p.right := by
  unfold rightStates Paths.setPath
  dsimp only
  repeat' split
  all_goals rfl

@[simp] theorem moveRight_right (b : Bool) (cause : Nat) (s : State) : (moveRight b cause s).paths.right = b := by
  unfold moveRight
  split
  · assumption
  · simp [(event_recorded _ _ _ _ _).same State.paths (fun _ _ _ _ => rfl), ptpHoldover]

/-- The right goes where R507 gives it. -/
@[simp] theorem settleRight_right (cause : Nat) (s : State) : (settleRight cause s).paths.right = rightNext s := by
  simp [settleRight]

theorem onlyChanges_moveRight {b : Bool} {cause : Nat} {s : State} : OnlyChanges [.paths] s (moveRight b cause s) := by
  unfold moveRight
  split
  · exact .refl
  · exact onlyChanges_modPaths.trans onlyChanges_event

theorem onlyChanges_settleRight {cause : Nat} {s : State} : OnlyChanges [.paths] s (settleRight cause s) :=
  onlyChanges_moveRight.trans onlyChanges_modPaths

/-- PATH_HOLD gives the right to the path of PATH_SEL (R507). -/
theorem rightNext_held {s : State} (h : s.side.pathHold = true) : rightNext s = s.side.pathSel := if_pos h

/-- Without PATH_HOLD a holder that is not down keeps the right (R507). -/
theorem rightNext_up {s : State} (h : s.side.pathHold = false) (hd : (s.paths.path s.paths.right).isDown = false) :
    rightNext s = s.paths.right := by
  simp [rightNext, h, hd]

/-- PATH_HOLD_CHANGE (R38, R507). -/
theorem ends_pathHoldChange {s : State} (h sel : Bool) (hr : s.pw.rail = true) :
    Ends (.pathHoldChange h sel) s [.side, .paths] (fun t =>
      t.side.pathHold = h ∧ t.side.pathSel = sel ∧ (h = true → t.paths.right = sel) ∧
      (h = false → (s.paths.path s.paths.right).isDown = false → t.paths.right = s.paths.right)) := by
  have e : ∃ c u, exec (.pathHoldChange h sel) s = finish (settleRight c u) ∧
      u = modSide (fun x => { x with pathHold := h, pathSel := sel }) s :=
    ⟨_, _, congrArg finish (if_pos hr), rfl⟩
  obtain ⟨c, u, e, hu⟩ := e
  have hside : (settleRight c u).side.apart = u.side.apart := onlyChanges_settleRight .side (by decide)
  have hh : (settleRight c u).side.pathHold = h := by
    rw [hu] at hside ⊢
    exact (congrArg Sideband.pathHold hside :)
  have hs : (settleRight c u).side.pathSel = sel := by
    rw [hu] at hside ⊢
    exact (congrArg Sideband.pathSel hside :)
  have o : OnlyChanges [.side, .paths] s u := by
    rw [hu]
    exact onlyChanges_modSide.mono (by decide)
  refine ends_of_finish e (o.trans (onlyChanges_settleRight.mono (by decide)))
    ⟨by simp [hh], by simp [hs], fun k => ?_, fun k hd => ?_⟩
  · rw [settle_paths, settleRight_right, rightNext_held (by rw [hu]; exact k), hu]
    rfl
  · rw [settle_paths, settleRight_right, rightNext_up (by rw [hu]; exact k) (by rw [hu]; exact hd), hu]
    rfl

/-! ### A short loss of lock (R56) -/

/-- A loss of lock of up to 10 µs is recorded and changes nothing (R56). -/
theorem gives_pllLockLossShort {s : State} (h : s.pw.state ≠ .off) : Gives .pllLockLossShort s s := by
  have k : (awake s || s.pw.state == .dump) = true := by
    by_cases hd : s.pw.state = .dump
    · simp [hd]
    · simp [awake_of h hd]
  exact gives_of_recorded (if_pos k) (event_recorded _ _ _ _ _)

/-- Settles O10: each rise by its own rule; the pins, rails and clocks that start nothing change what shows them. -/
theorem powerRises : Obligations.PowerRises :=
  ⟨fun _ => ⟨ends_p12vRise, ends_modResetNRelease, gives_modResetNRelease, standbyRailPowerUp_spec⟩,
    fun _ => ⟨fun _ => gives_of_finish rfl, gives_of_finish rfl, gives_pllLockLossShort, gives_of_finish rfl,
      ends_pathHoldChange⟩⟩

end Sys2Proof.Machine
end

section
/-! # Reads that a port issues (R75, R99, R131, R151)

What the pump leaves as it was: a port but for the reads it has issued, a ring but for how far it has been fetched, and
which commands are in work. -/

namespace Sys2Proof.Machine

/-! ### Reading rings -/

theorem getRing_modRing (p q : PortId) (r n : Nat) (f : Ring → Ring) (s : State) : getRing (modRing p r f s) q n =
    if ringKey q n = ringKey p r then f (getRing s p r) else getRing s q n := by
  unfold getRing
  rw [modRing_rings, atD_putD]
  rfl

@[simp] theorem getRing_modRing_self (p : PortId) (r : Nat) (f : Ring → Ring) (s : State) :
    getRing (modRing p r f s) p r = f (getRing s p r) := by simp [getRing_modRing]

@[simp] theorem getRing_settle (s : State) (p : PortId) (r : Nat) : getRing (settle s) p r = getRing s p r := by
  simp [getRing]

/-! ### Commands in work -/

/-- The commands in work, by port and tag. -/
def inWork (s : State) : List (PortId × Nat) := s.ce.cmds.map (fun c => (c.port, c.tag))

theorem findCmd_eq_none_iff {s : State} {p : PortId} {tag : Nat} : findCmd s p tag = none ↔ (p, tag) ∉ inWork s := by
  simp [findCmd, inWork]

/-- The command found is of the port and tag asked for. -/
theorem findCmd_key {s : State} {p : PortId} {tag : Nat} {c : Cmd} (h : findCmd s p tag = some c) :
    c.port = p ∧ c.tag = tag := by
  unfold findCmd at h
  simpa using List.find?_some h

/-! ### One read (R75, R131) -/

/-- A port apart from the reads that it has issued. -/
def Port.sansReads (q : Port) : Port := { q with tagMode := 0, reqs := [], tx := [] }

/-- A ring apart from how far its entries have been fetched. -/
def Ring.unfetched (x : Ring) : Ring := { x with fetchPos := ⟨false, 0⟩ }

/-- Port `p` has issued reads under tags of the list `l`, and no more than this has changed. -/
structure ReadsIssued (p : PortId) (l : List Nat) (s t : State) : Prop where
  ports : ∀ q, (t.ports.get q).sansReads = (s.ports.get q).sansReads
  reqs : ∀ k, k ∉ l → Tab.at? k (t.ports.get p).reqs = Tab.at? k (s.ports.get p).reqs
  rings : ∀ q r, (getRing t q r).unfetched = (getRing s q r).unfetched
  cmds : inWork t = inWork s

theorem ReadsIssued.refl (p : PortId) (l : List Nat) (s : State) : ReadsIssued p l s s :=
  ⟨fun _ => rfl, fun _ _ => rfl, fun _ _ => rfl, rfl⟩

theorem ReadsIssued.trans {p : PortId} {l m : List Nat} {s t u : State} (h : ReadsIssued p l s t)
    (k : ReadsIssued p m t u) : ReadsIssued p (l ++ m) s u := by
  refine ⟨fun q => (k.ports q).trans (h.ports q), fun n hn => ?_, fun q r => (k.rings q r).trans (h.rings q r),
    k.cmds.trans h.cmds⟩
  rw [List.mem_append, not_or] at hn
  rw [k.reqs n hn.2, h.reqs n hn.1]

/-- What is read of a port apart from its reads. -/
theorem ReadsIssued.read {α : Type} {p : PortId} {l : List Nat} {s t : State} (h : ReadsIssued p l s t) (q : PortId)
    (f : Port → α) (hf : ∀ v : Port, f v = f v.sansReads) : f (t.ports.get q) = f (s.ports.get q) := by
  rw [hf, h.ports q, ← hf]

theorem readsIssued_issueRead (p : PortId) (tag : Nat) (k : ReqKind) (addr len : Nat) (s : State) :
    ReadsIssued p [tag] s (issueRead p tag k addr len s) := by
  refine ⟨fun q => ?_, fun n hn => ?_, fun _ _ => rfl, rfl⟩
  · unfold issueRead
    rw [modPort_ports, ports_get_set]
    split
    · rename_i e
      rw [e]
      rfl
    · rfl
  · have hne : n ≠ tag := by simpa using hn
    unfold issueRead
    rw [modPort_get_self, at?_put, if_neg hne]

/-- A ring that is fetched further. -/
theorem readsIssued_fetchPos (p : PortId) (r : Nat) (x : Pos) (s : State) :
    ReadsIssued p [] s (modRing p r (fun y => { y with fetchPos := x }) s) := by
  refine ⟨fun _ => rfl, fun _ _ => rfl, fun q n => ?_, rfl⟩
  rw [getRing_modRing]
  split
  · rename_i e
    have hk : getRing s q n = getRing s p r := by
      unfold getRing
      rw [e]
    rw [hk]
    rfl
  · rfl

/-- A command that has a part of its data less to read. -/
theorem readsIssued_todo (p : PortId) (tag : Nat) (rest : List (Nat × Nat × Nat)) (s : State) : ReadsIssued p [] s
    { s with ce := { s.ce with cmds := s.ce.cmds.map (fun d =>
      if d.port = p ∧ d.tag = tag then { d with todo := rest } else d) } } := by
  refine ⟨fun _ => rfl, fun _ _ => rfl, fun _ _ => rfl, ?_⟩
  unfold inWork
  rw [List.map_map]
  apply List.map_congr_left
  intro c _
  simp only [Function.comp]
  split <;> rfl

/-- The next read that a port wants, if it wants one, goes out under the tag given (R131, R151). -/
theorem readsIssued_issueNext (p : PortId) (tag : Nat) (s : State) : ReadsIssued p [tag] s (issueNext p tag s) := by
  unfold issueNext
  dsimp only
  split
  · exact (readsIssued_fetchPos p _ _ s).trans (readsIssued_issueRead p tag _ _ _ _)
  · split
    · split
      · exact (readsIssued_todo p _ _ s).trans (readsIssued_issueRead p tag _ _ _ _)
      · exact .refl _ _ _
    · exact .refl _ _ _

/-! ### The reads that a port wants (R75, R99) -/

theorem readsIssued_foldl (p : PortId) (l : List Nat) (s : State) :
    ReadsIssued p l s (l.foldl (fun s t => issueNext p t s) s) := by
  induction l generalizing s with
  | nil => exact .refl _ _ _
  | cons t l ih => exact (readsIssued_issueNext p t s).trans (ih _)

/-- The reads go out under tags that are free (R75). -/
theorem readsIssued_pump (p : PortId) (s : State) : ReadsIssued p (freeTags (s.ports.get p)) s (pump p s) := by
  unfold pump
  split
  · exact readsIssued_foldl p _ s
  · exact .refl _ _ _

/-- A withheld tag is not free (R99). -/
theorem not_mem_freeTags {q : Port} {k : Nat} (h : k ∈ q.withheld) : k ∉ freeTags q := by
  intro hk
  have hf := (List.mem_filter.1 (List.mem_of_mem_take hk)).2
  simp [h] at hf

@[simp] theorem pump_cfg (p : PortId) (s : State) : ((pump p s).ports.get p).cfg = (s.ports.get p).cfg :=
  (readsIssued_pump p s).read p Port.cfg (fun _ => rfl)

@[simp] theorem pump_state (p : PortId) (s : State) : ((pump p s).ports.get p).state = (s.ports.get p).state :=
  (readsIssued_pump p s).read p Port.state (fun _ => rfl)

@[simp] theorem pump_withheld (p : PortId) (s : State) :
    ((pump p s).ports.get p).withheld = (s.ports.get p).withheld :=
  (readsIssued_pump p s).read p Port.withheld (fun _ => rfl)

@[simp] theorem pump_quarTags (p : PortId) (s : State) :
    ((pump p s).ports.get p).quarTags = (s.ports.get p).quarTags :=
  (readsIssued_pump p s).read p Port.quarTags (fun _ => rfl)

@[simp] theorem pump_cto (p : PortId) (s : State) : ((pump p s).ports.get p).cto = (s.ports.get p).cto :=
  (readsIssued_pump p s).read p Port.cto (fun _ => rfl)

@[simp] theorem pump_timeouts (p q : PortId) (r : Nat) (s : State) :
    (getRing (pump p s) q r).timeouts = (getRing s q r).timeouts :=
  (congrArg Ring.timeouts ((readsIssued_pump p s).rings q r) :)

@[simp] theorem pump_acc (p q : PortId) (r : Nat) (s : State) :
    (getRing (pump p s) q r).acc = (getRing s q r).acc :=
  (congrArg Ring.acc ((readsIssued_pump p s).rings q r) :)

@[simp] theorem pump_granules (p q : PortId) (r : Nat) (s : State) :
    (getRing (pump p s) q r).granules = (getRing s q r).granules :=
  (congrArg Ring.granules ((readsIssued_pump p s).rings q r) :)

/-- Settled states show of a port what no event and no settling changes. -/
theorem settle_port {α : Type} (s : State) (p : PortId) (f : Port → α) (hf : ∀ v : Port, f v = f v.apart) :
    f ((settle s).ports.get p) = f (s.ports.get p) := port_read (settle_ports_apart s) p f hf

end Sys2Proof.Machine
end

section
/-! # What ends a read keeps (R97 to R103)

Interrupts, records, ended commands and holds leave a port's withheld tags and its count of timeouts, and issue no
read and take in no command. -/

namespace Sys2Proof.Machine

/-! ### Interrupts and records (R91, R115, R127, R138) -/

/-- A port apart from its notices, its mailbox, what it sends, its interrupts, and what it counts of faults and
records. -/
def Port.quiet (q : Port) : Port := { q.still with intPending := 0#256, ringFaults := 0, failed := 0 }

/-- Every port is as it was but for notices, mailboxes, interrupts and what is sent and counted. -/
def PortsQuiet (s t : State) : Prop := ∀ q, (t.ports.get q).quiet = (s.ports.get q).quiet

theorem PortsQuiet.refl (s : State) : PortsQuiet s s := fun _ => rfl

theorem PortsQuiet.trans {s t u : State} (h : PortsQuiet s t) (k : PortsQuiet t u) : PortsQuiet s u :=
  fun q => (k q).trans (h q)

theorem PortsStill.quiet {s t : State} (h : PortsStill s t) : PortsQuiet s t :=
  fun q => congrArg (fun v : Port => { v with intPending := 0#256, ringFaults := 0, failed := 0 }) (h q)

theorem portsQuiet_modPort {p : PortId} {f : Port → Port} (s : State) (h : ∀ q, (f q).quiet = q.quiet) :
    PortsQuiet s (modPort p f s) := by
  intro q
  rw [modPort_ports, ports_get_set]
  split
  · rename_i e
    rw [e, h]
  · rfl

/-- What is read of a port that is quiet. -/
theorem PortsQuiet.read {α : Type} {s t : State} (h : PortsQuiet s t) (p : PortId) (f : Port → α)
    (hf : ∀ q : Port, f q = f q.quiet) : f (t.ports.get p) = f (s.ports.get p) := by
  rw [hf, h p, ← hf]

theorem portsStill_sendMsg (p : PortId) (v : Nat) (s : State) : PortsStill s (sendMsg p v s) := by
  unfold sendMsg
  dsimp only
  split
  · split
    · exact portsStill_sendTlp _ _ _
    · split
      · exact .refl s
      · exact portsStill_modPort s (fun _ => rfl)
  · split
    · exact portsStill_modPort s (fun _ => rfl)
    · exact portsStill_sendTlp _ _ _
  · exact .refl s

theorem portsQuiet_putPending (p : PortId) (v : BitVec 256) (s : State) : PortsQuiet s (putPending p v s) := by
  unfold putPending
  refine PortsQuiet.trans ?_ (portsStill_intaSync p _).quiet
  exact portsQuiet_modPort s (fun _ => rfl)

theorem portsQuiet_setPending (p : PortId) (r : Nat) (s : State) : PortsQuiet s (setPending p r s) :=
  portsQuiet_putPending p _ s

theorem portsQuiet_requestIrq (p : PortId) (r : Nat) (s : State) : PortsQuiet s (requestIrq p r s) := by
  unfold requestIrq
  dsimp only
  split
  · exact (portsQuiet_setPending p r s).trans
      (portsStill_sendMsg p _ (modRing p r (fun x => { x with coal := 0 }) (setPending p r s))).quiet
  · exact portsQuiet_setPending p r s

theorem portsQuiet_writeRecord (p : PortId) (r : Nat) (e : OutEntry) (res : CplRes) (s : State) :
    PortsQuiet s (writeRecord p r e res s) := by
  have h : PortsQuiet s (putRecord p r e res s) :=
    ((portsStill_sendTlp p _ s).trans (portsStill_sendTlp p _ _)).quiet
  unfold writeRecord
  dsimp only
  split
  · exact h.trans (portsQuiet_requestIrq p r _)
  · exact h

theorem portsQuiet_ringFault (p : PortId) (r code : Nat) (s : State) : PortsQuiet s (ringFault p r code s) := by
  have h : PortsQuiet s (modPort p (fun q => { q with ringFaults := q.ringFaults + 1 })
      (modRing p r (fun x => { x with state := .faulted, fault := code }) s)) :=
    portsQuiet_modPort (modRing p r (fun x => { x with state := .faulted, fault := code }) s) (fun _ => rfl)
  unfold ringFault
  dsimp only
  refine PortsQuiet.trans ?_ (PortsStill.of_apart (event_recorded _ _ _ _ _).2.1).quiet
  split
  · exact (h.trans (portsQuiet_setPending p r _)).trans (portsStill_sendMsg p _ _).quiet
  · exact h

theorem onlyChanges_ringFault {p : PortId} {r code : Nat} {s : State} :
    OnlyChanges [.ports, .rings] s (ringFault p r code s) := by
  unfold ringFault
  dsimp only
  have h : OnlyChanges [.ports, .rings] s (modPort p (fun q => { q with ringFaults := q.ringFaults + 1 })
      (modRing p r (fun x => { x with state := .faulted, fault := code }) s)) :=
    (onlyChanges_modRing.mono (by decide)).trans (onlyChanges_modPort.mono (by decide))
  refine OnlyChanges.trans ?_ onlyChanges_event
  split
  · exact (h.trans (onlyChanges_setPending.mono (by decide))).trans (onlyChanges_sendMsg.mono (by decide))
  · exact h

/-! ### Withheld tags stay (R99) -/

/-- A table of which the values change. -/
theorem at?_map_val {β γ : Type} (f : β → γ) (t : Tab β) (k : Nat) :
    Tab.at? k (t.map (fun e => (e.1, f e.2))) = (Tab.at? k t).map f := by
  induction t with
  | nil => rfl
  | cons e t ih =>
    obtain ⟨a, v⟩ := e
    by_cases h : a = k
    · simp [Tab.at?, h]
    · simp only [List.map_cons, Tab.at?, if_neg h, ih]

/-- A read given up is outstanding all the same. -/
theorem at?_giveUp_eq_none (t : Tab Req) (k : Nat) : Tab.at? k (t.map giveUp) = none ↔ Tab.at? k t = none := by
  have h := at?_map_val (fun r : Req => { r with held := true, dropped := true }) t k
  rw [show t.map giveUp = t.map (fun e => (e.1, { e.2 with held := true, dropped := true })) from rfl, h]
  simp

/-- Port `p` keeps its withheld tags and its count of timeouts, issues no read under a withheld tag, and no command is
taken into work. -/
structure TimeoutsKept (p : PortId) (s t : State) : Prop where
  withheld : (t.ports.get p).withheld = (s.ports.get p).withheld
  cto : (t.ports.get p).cto = (s.ports.get p).cto
  unread : ∀ k ∈ (s.ports.get p).withheld, Tab.at? k (s.ports.get p).reqs = none →
    Tab.at? k (t.ports.get p).reqs = none
  cmds : inWork t ⊆ inWork s

theorem TimeoutsKept.refl (p : PortId) (s : State) : TimeoutsKept p s s := ⟨rfl, rfl, fun _ _ h => h, fun _ h => h⟩

theorem TimeoutsKept.trans {p : PortId} {s t u : State} (h : TimeoutsKept p s t) (k : TimeoutsKept p t u) :
    TimeoutsKept p s u :=
  ⟨k.withheld.trans h.withheld, k.cto.trans h.cto,
    fun n hn hr => k.unread n (by rw [h.withheld]; exact hn) (h.unread n hn hr), fun _ m => h.cmds (k.cmds m)⟩

theorem PortsQuiet.timeoutsKept {s t : State} (h : PortsQuiet s t) (hc : inWork t ⊆ inWork s) (p : PortId) :
    TimeoutsKept p s t := by
  have hr : (t.ports.get p).reqs = (s.ports.get p).reqs := h.read p Port.reqs (fun _ => rfl)
  exact ⟨h.read p Port.withheld (fun _ => rfl), h.read p Port.cto (fun _ => rfl), fun k _ hk => by rw [hr, hk], hc⟩

theorem ReadsDropped.timeoutsKept {s t : State} (h : ReadsDropped s t) (hc : inWork t ⊆ inWork s) (p : PortId) :
    TimeoutsKept p s t := by
  obtain ⟨rs, hrs, hp⟩ := h p
  have hr : (t.ports.get p).reqs = rs := (congrArg Port.reqs hp :)
  refine ⟨(congrArg Port.withheld hp :), (congrArg Port.cto hp :), fun k _ hk => ?_, hc⟩
  rw [hr, ← at?_giveUp_eq_none, hrs, at?_giveUp_eq_none, hk]

/-- The reads that a port issues go out under other tags than those withheld (R99). -/
theorem timeoutsKept_pump (p : PortId) (s : State) : TimeoutsKept p s (pump p s) := by
  have h := readsIssued_pump p s
  refine ⟨pump_withheld p s, pump_cto p s, fun k hk hr => ?_, by rw [h.cmds]; exact fun _ m => m⟩
  rw [h.reqs k (not_mem_freeTags hk), hr]

/-! ### Commands that end (R162, R170) -/

/-- A command that is in work no more: what it read and its lock are given up (R101, R165). -/
def takenOut (p : PortId) (tag : Nat) (c : Cmd) (s : State) : State :=
  dropLock p tag (dropReadsOf p tag (dropReqsOf p tag (dropCmd c s)))

theorem inWork_takenOut (p : PortId) (tag : Nat) (c : Cmd) (s : State) :
    inWork (takenOut p tag c s) = (inWork s).filter (fun k => !(k.1 == c.port && k.2 == c.tag)) := by
  unfold inWork
  rw [List.filter_map]
  rfl

theorem timeoutsKept_takenOut (p q : PortId) (tag : Nat) (c : Cmd) (s : State) :
    TimeoutsKept q s (takenOut p tag c s) := by
  have h : ReadsDropped s (takenOut p tag c s) := readsDropped_dropReqsOf p tag (dropCmd c s)
  refine h.timeoutsKept ?_ q
  rw [inWork_takenOut]
  exact fun _ m => (List.mem_filter.1 m).1

/-- A command that ends is taken out of work; its record changes the ports no further than any record does. -/
theorem endCmd_takenOut {write : Bool} {p : PortId} {tag : Nat} {res : CplRes} {s : State} {c : Cmd}
    (h : findCmd s p tag = some c) : PortsQuiet (takenOut p tag c s) (endCmd write p tag res s) ∧
      (endCmd write p tag res s).ce = (takenOut p tag c s).ce := by
  unfold endCmd
  rw [h]
  dsimp only
  rw [show dropLock p tag (dropReadsOf p tag (dropReqsOf p tag (dropCmd c s))) = takenOut p tag c s from rfl]
  generalize takenOut p tag c s = u
  split
  · exact ⟨.refl u, rfl⟩
  · rename_i e _
    split
    · refine ⟨PortsQuiet.trans ?_ (portsQuiet_writeRecord p c.ring e res _), onlyChanges_writeRecord .ce (by decide)⟩
      exact portsQuiet_modPort u (fun _ => rfl)
    · exact ⟨.refl u, rfl⟩

theorem timeoutsKept_endCmd (write : Bool) (p q : PortId) (tag : Nat) (res : CplRes) (s : State) :
    TimeoutsKept q s (endCmd write p tag res s) := by
  cases h : findCmd s p tag with
  | none =>
    have e : endCmd write p tag res s = s := by
      unfold endCmd
      rw [h]
    rw [e]
    exact .refl q s
  | some c =>
    obtain ⟨hp, hc⟩ := endCmd_takenOut (write := write) (res := res) h
    refine (timeoutsKept_takenOut p q tag c s).trans (hp.timeoutsKept ?_ q)
    unfold inWork
    rw [hc]
    exact fun _ m => m

/-- A command that ends is in work no more (R162). -/
theorem endCmd_gone (write : Bool) (p : PortId) (tag : Nat) (res : CplRes) (s : State) :
    (p, tag) ∉ inWork (endCmd write p tag res s) := by
  cases h : findCmd s p tag with
  | none => exact fun m => findCmd_eq_none_iff.1 h ((timeoutsKept_endCmd write p p tag res s).cmds m)
  | some c =>
    obtain ⟨hp, ht⟩ := findCmd_key h
    obtain ⟨-, hc⟩ := endCmd_takenOut (write := write) (res := res) h
    have e : inWork (endCmd write p tag res s) = inWork (takenOut p tag c s) := by
      unfold inWork
      rw [hc]
    rw [e, inWork_takenOut]
    simp [hp, ht]

/-! ### Containment (R101, R106 to R108) -/

theorem timeoutsKept_hold (p : PortId) (keep : Bool) (s : State) : TimeoutsKept p s (hold p keep s) := by
  have hh := heldBy_hold p keep s
  have hp : ((hold p keep s).ports.get p).still =
      ({ s.ports.get p with reqs := (s.ports.get p).reqs.map giveUp } : Port).still := by
    rw [(hold_cutOff p keep s).1]
    exact cutOff_port p s
  have hr : ((hold p keep s).ports.get p).reqs = (s.ports.get p).reqs.map giveUp := (congrArg Port.reqs hp :)
  refine ⟨(congrArg Port.withheld hp :), (congrArg Port.cto hp :), fun k _ hk => ?_, ?_⟩
  · rw [hr]
    exact (at?_giveUp_eq_none _ _).2 hk
  · unfold inWork
    rw [hh.cmds]
    exact List.map_subset _ (fun _ m => (List.mem_filter.1 m).1)

theorem timeoutsKept_modPort {p : PortId} {f : Port → Port} (s : State) (hw : ∀ q, (f q).withheld = q.withheld)
    (hc : ∀ q, (f q).cto = q.cto) (hr : ∀ q, (f q).reqs = q.reqs) : TimeoutsKept p s (modPort p f s) := by
  refine ⟨?_, ?_, fun k _ hk => ?_, fun _ m => m⟩
  · rw [modPort_get_self, hw]
  · rw [modPort_get_self, hc]
  · rw [modPort_get_self, hr, hk]

theorem timeoutsKept_event (p : PortId) (code sev subject : Nat) (d : Bytes) (s : State) :
    TimeoutsKept p s (event code sev subject d s) := by
  have h := event_recorded code sev subject d s
  have hc : inWork (event code sev subject d s) = inWork s := h.same inWork (fun _ _ _ _ => rfl)
  exact (PortsStill.of_apart h.2.1).quiet.timeoutsKept (by rw [hc]; exact fun _ m => m) p

theorem timeoutsKept_contain (p : PortId) (b : Nat) (keep : Bool) (s : State) :
    TimeoutsKept p s (contain p b keep s) := by
  have ha : TimeoutsKept p s (addCause p b s) := timeoutsKept_modPort s (fun _ => rfl) (fun _ => rfl) (fun _ => rfl)
  unfold contain
  dsimp only
  split
  · split
    · exact ha
    · exact ha.trans (timeoutsKept_hold p false _)
  · refine TimeoutsKept.trans ?_ (timeoutsKept_event p _ _ _ _ _)
    exact (ha.trans (timeoutsKept_hold p keep _)).trans
      (timeoutsKept_modPort _ (fun _ => rfl) (fun _ => rfl) (fun _ => rfl))

/-- A port that is contained is QUARANTINED (R107). -/
theorem contain_state (p : PortId) (b : Nat) (s : State) :
    ((contain p b true s).ports.get p).state = .quarantined := by
  unfold contain
  dsimp only
  split
  · rename_i h
    exact h
  · rw [(event_recorded _ _ _ _ _).portState p, modPort_get_self]

end Sys2Proof.Machine
end

section
/-! # Host reads that end (R97 to R100, R102) -/

namespace Sys2Proof.Machine

/-! ### Answers (R102, R131) -/

/-- An answer to a read that was given up is discarded (R102). -/
theorem gives_hostReadCompletion_dropped {s : State} {p : PortId} {tag : Nat} {r : Req} (data : Bytes)
    (h : Tab.at? tag (s.ports.get p).reqs = some r) (hd : r.dropped = true) :
    Gives (.hostReadCompletion p tag data) s (answerReq p tag s) := by
  have e : readArrives p tag data s = answerReq p tag s := by
    unfold readArrives
    rw [h]
    exact if_pos hd
  exact gives_of_finish (congrArg finish e)

/-- The granules that a read of ring bytes brings (R131). -/
def granulesIn (r : Req) (off : Nat) (data : Bytes) (g : Tab Granule) : Tab Granule :=
  (List.range (r.len / 64)).foldl (fun g k => Tab.put (off / 64 + k) ⟨slice (fit r.len data) (64 * k) 64, false⟩ g) g

/-- Places of a table that are written one behind the other read as written. -/
theorem at?_foldl_put {β : Type} (v : Nat → β) (base n k : Nat) (t : Tab β) (h : k < n) :
    Tab.at? (base + k) ((List.range n).foldl (fun g i => Tab.put (base + i) (v i) g) t) = some (v k) := by
  induction n with
  | zero => omega
  | succ n ih =>
    rw [List.range_succ, List.foldl_append, List.foldl_cons, List.foldl_nil, at?_put]
    by_cases e : k = n
    · simp [e]
    · rw [if_neg (by omega), ih (by omega)]

/-- Ring bytes enter their ring and end its run of timeouts (R97, R131). -/
theorem ends_hostReadCompletion_ring {s : State} {p : PortId} {tag n off : Nat} {r : Req} (data : Bytes)
    (h : Tab.at? tag (s.ports.get p).reqs = some r) (hd : r.dropped = false) (hk : r.kind = .ring n off) :
    Ends (.hostReadCompletion p tag data) s [.ports, .rings, .ce] (fun t =>
      (getRing t p n).timeouts = 0 ∧ (getRing t p n).acc = (getRing s p n).acc ∧
      ∀ k, k < r.len / 64 →
        Tab.at? (off / 64 + k) (getRing t p n).granules = some ⟨slice (fit r.len data) (64 * k) 64, false⟩) := by
  have e : readArrives p tag data s = pump p (modRing p n (fun x => { x with
      timeouts := 0, granules := granulesIn r off data x.granules }) (answerReq p tag s)) := by
    unfold readArrives
    rw [h]
    simp only [hd, hk]
    rfl
  refine ends_of_finish (congrArg finish e) ?_ ?_
  · exact ((onlyChanges_modPort.mono (by decide)).trans (onlyChanges_modRing.mono (by decide))).trans onlyChanges_pump
  · simp only [getRing_settle, pump_timeouts, pump_acc, pump_granules, getRing_modRing_self]
    exact ⟨trivial, rfl, fun k => at?_foldl_put _ _ _ k _⟩

/-! ### Timeouts (R97, R99, R100) -/

/-- A timeout's tag is withheld, and the timeout counted, among those of the last 100 ms too unless a hold had given the
read up (R99, R100). -/
def tagWithheld (p : PortId) (tag : Nat) (r : Req) (s : State) : State :=
  modPort p (fun q => { q with
    reqs := Tab.del q.reqs tag, withheld := q.withheld ++ [tag], cto := q.cto + 1
    ctoTimes := if r.held then q.ctoTimes else recentTimeouts s q ++ [s.clk.uptime] }) s

/-- A timeout as it is counted and recorded (R100, R534). -/
def timeoutNoted (p : PortId) (tag : Nat) (r : Req) (s : State) : State :=
  event 0x2102 0 p.val (leBytes 2 tag ++ leBytes 8 r.addr ++ leBytes 1 r.kind.code ++ leBytes 1 (b2n r.held))
    (tagWithheld p tag r s)

/-- Does a timeout bring its port to CTO_THRESHOLD (R100)? -/
def ctoReached (p : PortId) (r : Req) (s : State) : Bool :=
  !r.held && cfgCtoThreshold s p.val != 0 &&
    decide (cfgCtoThreshold s p.val ≤ (recentTimeouts s (s.ports.get p)).length)

/-- What a timeout does to its ring or command, unless nothing was wanted of it any more (R97, R155). -/
def timeoutTold (p : PortId) (r : Req) (s : State) : State :=
  if r.dropped then s else timedOut (!ctoReached p r s) p r.kind r.len s

/-- At CTO_THRESHOLD the port is contained (R100). -/
def timeoutServed (p : PortId) (r : Req) (s : State) : State :=
  if ctoReached p r s then contain p 2 true (timeoutTold p r s) else timeoutTold p r s

theorem exec_completionTimeout {s : State} {p : PortId} {tag : Nat} {r : Req}
    (h : Tab.at? tag (s.ports.get p).reqs = some r) :
    exec (.completionTimeout p tag) s = finish (pump p (timeoutServed p r (timeoutNoted p tag r s))) := by
  show execCompletionTimeout p tag s = _
  unfold execCompletionTimeout
  rw [h]
  rfl

theorem onlyChanges_timedOut {write : Bool} {p : PortId} {k : ReqKind} {len : Nat} {s : State} :
    OnlyChanges holdParts s (timedOut write p k len s) := by
  have hend : ∀ c, OnlyChanges holdParts s (endCmd write p c ⟨stFetchTimeout, 0, 0⟩ (cancelSlots p c s)) := fun c =>
    (onlyChanges_cancelSlots.mono (by decide)).trans (onlyChanges_endCmd.mono (by decide))
  unfold timedOut
  cases k with
  | ring r off =>
    dsimp only
    have h : OnlyChanges holdParts s
        (modRing p r (fun x => { x with timeouts := x.timeouts + 1, retry := x.retry ++ [(off, len)] }) s) :=
      onlyChanges_modRing.mono (by decide)
    split
    · exact (h.trans (onlyChanges_modRing.mono (by decide))).trans (onlyChanges_ringFault.mono (by decide))
    · exact h
  | data c off => exact hend c
  | echo c off => exact hend c

theorem timeoutsKept_cancelSlots (p q : PortId) (tag : Nat) (s : State) : TimeoutsKept q s (cancelSlots p tag s) := by
  have h : PortsStill s (cancelSlots p tag s) := .of_apart (onlyChanges_cancelSlots .ports (by decide))
  refine h.quiet.timeoutsKept ?_ q
  unfold inWork
  rw [cancelSlots_ce]
  exact fun _ m => m

theorem timeoutsKept_modRing (p q : PortId) (r : Nat) (f : Ring → Ring) (s : State) :
    TimeoutsKept p s (modRing q r f s) := ⟨rfl, rfl, fun _ _ h => h, fun _ m => m⟩

theorem timeoutsKept_ringFault (p q : PortId) (r code : Nat) (s : State) :
    TimeoutsKept p s (ringFault q r code s) := by
  refine (portsQuiet_ringFault q r code s).timeoutsKept ?_ p
  unfold inWork
  rw [onlyChanges_ringFault .ce (by decide)]
  exact fun _ m => m

theorem timeoutsKept_timedOut (write : Bool) (p : PortId) (k : ReqKind) (len : Nat) (s : State) :
    TimeoutsKept p s (timedOut write p k len s) := by
  have hend : ∀ c, TimeoutsKept p s (endCmd write p c ⟨stFetchTimeout, 0, 0⟩ (cancelSlots p c s)) := fun c =>
    (timeoutsKept_cancelSlots p p c s).trans (timeoutsKept_endCmd write p p c _ _)
  unfold timedOut
  cases k with
  | ring r off =>
    dsimp only
    have h := timeoutsKept_modRing p p r
      (fun x => { x with timeouts := x.timeouts + 1, retry := x.retry ++ [(off, len)] }) s
    split
    · exact (h.trans (timeoutsKept_modRing p p r _ _)).trans (timeoutsKept_ringFault p p r 5 _)
    · exact h
  | data c off => exact hend c
  | echo c off => exact hend c

/-- The command whose data timed out is in work no more (R155). -/
theorem timedOut_gone {k : ReqKind} {c off : Nat} (write : Bool) (p : PortId) (len : Nat) (s : State)
    (h : k = .data c off ∨ k = .echo c off) : (p, c) ∉ inWork (timedOut write p k len s) := by
  rcases h with rfl | rfl
  · exact endCmd_gone write p c _ _
  · exact endCmd_gone write p c _ _

theorem onlyChanges_timeoutServed {p : PortId} {r : Req} {s : State} :
    OnlyChanges holdParts s (timeoutServed p r s) := by
  have h : OnlyChanges holdParts s (timeoutTold p r s) := by
    unfold timeoutTold
    split
    · exact .refl
    · exact onlyChanges_timedOut
  unfold timeoutServed
  split
  · exact h.trans onlyChanges_contain
  · exact h

theorem timeoutsKept_timeoutTold (p : PortId) (r : Req) (s : State) : TimeoutsKept p s (timeoutTold p r s) := by
  unfold timeoutTold
  split
  · exact .refl p s
  · exact timeoutsKept_timedOut _ p r.kind r.len s

theorem timeoutsKept_timeoutServed (p : PortId) (r : Req) (s : State) :
    TimeoutsKept p (timeoutTold p r s) (timeoutServed p r s) := by
  unfold timeoutServed
  split
  · exact timeoutsKept_contain p 2 true _
  · exact .refl p _

/-- A command whose data timed out and were still wanted is in work no more (R155). -/
theorem timeoutServed_gone {p : PortId} {r : Req} {c off : Nat} (s : State) (hd : r.dropped = false)
    (h : r.kind = .data c off ∨ r.kind = .echo c off) : (p, c) ∉ inWork (timeoutServed p r s) := by
  have hg : (p, c) ∉ inWork (timeoutTold p r s) := by
    unfold timeoutTold
    rw [if_neg (by simp [hd])]
    exact timedOut_gone _ p r.len s h
  exact fun m => hg ((timeoutsKept_timeoutServed p r s).cmds m)

theorem timeoutServed_state {p : PortId} {r : Req} {s : State} (h : ctoReached p r s = true) :
    ((timeoutServed p r s).ports.get p).state = .quarantined := by
  unfold timeoutServed
  rw [if_pos h]
  exact contain_state p 2 _

/-- The timeout itself is the last of the 100 ms before it (R100). -/
theorem recentTimeouts_tagWithheld {p : PortId} {tag : Nat} {r : Req} {s : State} (h : r.held = false) :
    (recentTimeouts (tagWithheld p tag r s) ((tagWithheld p tag r s).ports.get p)).length =
      (recentTimeouts s (s.ports.get p)).length + 1 := by
  unfold tagWithheld
  rw [modPort_get_self]
  simp [recentTimeouts, h]

/-- A timeout that brings the timeouts of the last 100 ms to CTO_THRESHOLD reaches it (R100). -/
theorem ctoReached_timeoutNoted {p : PortId} {tag : Nat} {r : Req} {s : State} (h : r.held = false)
    (h0 : cfgCtoThreshold s p.val ≠ 0)
    (hn : cfgCtoThreshold s p.val ≤ (recentTimeouts s (s.ports.get p)).length + 1) :
    ctoReached p r (timeoutNoted p tag r s) = true := by
  have hrec : Recorded (tagWithheld p tag r s) (timeoutNoted p tag r s) := event_recorded _ _ _ _ _
  have hc : cfgCtoThreshold (timeoutNoted p tag r s) p.val = cfgCtoThreshold s p.val :=
    hrec.same (fun s => cfgCtoThreshold s p.val) (fun _ _ _ _ => rfl)
  have ht : recentTimeouts (timeoutNoted p tag r s) ((timeoutNoted p tag r s).ports.get p) =
      recentTimeouts (tagWithheld p tag r s) ((tagWithheld p tag r s).ports.get p) := by
    have hclk : (timeoutNoted p tag r s).clk = (tagWithheld p tag r s).clk := hrec.same State.clk (fun _ _ _ _ => rfl)
    have hp := port_read hrec.2.1 p Port.ctoTimes (fun _ => rfl)
    unfold recentTimeouts
    rw [hp, hclk]
  unfold ctoReached
  rw [hc, ht, recentTimeouts_tagWithheld h]
  simp [h, h0, hn]

/-- COMPLETION_TIMEOUT (R97, R99, R100). -/
theorem ends_completionTimeout {s : State} {p : PortId} {tag : Nat} {r : Req}
    (h : Tab.at? tag (s.ports.get p).reqs = some r) :
    Ends (.completionTimeout p tag) s holdParts (fun t =>
      (t.ports.get p).withheld = (s.ports.get p).withheld ++ [tag] ∧ (t.ports.get p).cto = (s.ports.get p).cto + 1 ∧
      Tab.at? tag (t.ports.get p).reqs = none ∧
      (r.dropped = false → ∀ c off, r.kind = .data c off ∨ r.kind = .echo c off → findCmd t p c = none) ∧
      (r.held = false → cfgCtoThreshold s p.val ≠ 0 →
        cfgCtoThreshold s p.val ≤ (recentTimeouts s (s.ports.get p)).length + 1 →
        (t.ports.get p).state = .quarantined)) := by
  have hnoted : TimeoutsKept p (tagWithheld p tag r s) (timeoutNoted p tag r s) := timeoutsKept_event p _ _ _ _ _
  have hpump := timeoutsKept_pump p (timeoutServed p r (timeoutNoted p tag r s))
  have hkept := ((hnoted.trans (timeoutsKept_timeoutTold p r _)).trans (timeoutsKept_timeoutServed p r _)).trans hpump
  have hport : (tagWithheld p tag r s).ports.get p = _ := modPort_get_self p _ s
  refine ends_of_finish (exec_completionTimeout h) ?_ ⟨?_, ?_, ?_, fun hd c off hk => ?_, fun hh h0 hn => ?_⟩
  · have ho : OnlyChanges holdParts s (timeoutNoted p tag r s) :=
      (onlyChanges_modPort.mono (by decide)).trans onlyChanges_event
    exact (ho.trans onlyChanges_timeoutServed).trans (onlyChanges_pump.mono (by decide))
  · rw [settle_port _ p Port.withheld (fun _ => rfl), hkept.withheld, hport]
  · rw [settle_port _ p Port.cto (fun _ => rfl), hkept.cto, hport]
  · rw [settle_port_reqs]
    refine hkept.unread tag ?_ ?_
    · rw [hport]
      exact List.mem_append_right _ List.mem_cons_self
    · rw [hport, at?_del, if_pos rfl]
  · rw [findCmd_eq_none_iff]
    unfold inWork
    rw [settle_ce]
    exact fun m => timeoutServed_gone _ hd hk (hpump.cmds m)
  · rw [settle_port _ p Port.state (fun _ => rfl), pump_state]
    exact timeoutServed_state (ctoReached_timeoutNoted hh h0 hn)

/-! ### Answers to no read, and tags that come free (R98, R99) -/

/-- UNEXPECTED_COMPLETION is counted and reported (R98). -/
theorem gives_unexpectedCompletion {s : State} {p : PortId} {tag : Nat}
    (h : Tab.at? tag (s.ports.get p).reqs = none) (hu : (s.ports.get p).link.up = true) :
    Gives (.unexpectedCompletion p tag) s (sendTlp p .unexpectedCompletion
      (modPort p (fun q => { q with unexp := q.unexp + 1 }) s)) :=
  gives_of_recorded (if_neg (by simp [h, hu])) (event_recorded _ _ _ _ _)

/-- TAG_WITHHOLD_EXPIRY frees the tag (R99). -/
theorem ends_tagWithholdExpiry (s : State) (p : PortId) (tag : Nat) :
    Ends (.tagWithholdExpiry p tag) s [.ports, .rings, .ce] (fun t =>
      (t.ports.get p).withheld = (s.ports.get p).withheld.filter (fun n => n != tag) ∧
      (t.ports.get p).quarTags = (s.ports.get p).quarTags.filter (fun n => n != tag)) := by
  refine ends_of_finish rfl ((onlyChanges_modPort.mono (by decide)).trans onlyChanges_pump) ⟨?_, ?_⟩
  · rw [settle_port _ p Port.withheld (fun _ => rfl), pump_withheld, modPort_get_self]
  · rw [settle_port _ p Port.quarTags (fun _ => rfl), pump_quarTags, modPort_get_self]

/-- Settles O14: each end of a read by its own rule. -/
theorem hostReads : Obligations.HostReads :=
  fun s p tag data => ⟨fun _ => gives_hostReadCompletion_dropped data,
    fun _ _ _ h hd hk _ => ends_hostReadCompletion_ring data h hd hk, fun _ => ends_completionTimeout,
    gives_unexpectedCompletion, ends_tagWithholdExpiry s p tag⟩

end Sys2Proof.Machine
end

section
/-! # Release, interrupts, registers and configuration space of a port (R75, R82 to R92, R108 to R110, R115) -/

namespace Sys2Proof.Machine

/-! ### Changes of one port -/

theorem ports_set_set (ps : Ports) (p : PortId) (v w : Port) : (ps.set p v).set p w = ps.set p w := by
  rcases port_cases p with rfl | rfl | rfl | rfl <;> rfl

theorem modPort_modPort (p : PortId) (f g : Port → Port) (s : State) :
    modPort p g (modPort p f s) = modPort p (fun q => g (f q)) s := by
  unfold modPort
  dsimp only
  rw [ports_get_set, if_pos rfl, ports_set_set]

/-- What changes a port is told by what it makes of that port as it stands. -/
theorem modPort_congr {p : PortId} {f g : Port → Port} {s : State} (h : f (s.ports.get p) = g (s.ports.get p)) :
    modPort p f s = modPort p g s := by
  unfold modPort
  rw [h]

/-! ### PORT_CAUSE and PORT_RELEASE (R87, R108 to R110) -/

/-- The port register block's PORT_CAUSE (R85, R87). -/
theorem writeBar0_cause (p : PortId) (v : BitVec 32) (s : State) : writeBar0 p 0x08 v.toNat s = clearCause p v s := by
  simp [writeBar0, writePortReg]

/-- The port register block's PORT_RELEASE (R85, R109). -/
theorem writeBar0_release (p : PortId) (s : State) : writeBar0 p 0x0C 1 s = (releasePort p s).2 := rfl

/-- A carried write of PORT_CAUSE clears the bits written (R87, R110). -/
theorem writeBy_portCause {ch : Channel} {s : State} (h : Carries ch 1 0x2002 s) (p : PortId) (v : BitVec 32) :
    writeBy ch 0x2002 (portSub p) (putNum (bigEnd ch) 4 v.toNat) s = answered stSuccess none (clearCause p v s) := by
  have hr : defRow 0x2002 (portSub p) =
      some ⟨0x2002, 0x01, 0x04, .u32, 4, false, 2, 1, false, false, .num 0, []⟩ := by
    revert p
    decide +kernel
  have hw : ∀ r, writeNum none none r ch 0x2002 (portSub p) v.toNat s =
      some (stSuccess, clearCause p (BitVec.ofNat 32 v.toNat) s) := by
    intro r
    rcases port_cases p with rfl | rfl | rfl | rfl <;> rfl
  rw [writeBy_num h hr (by decide) (by decide) rfl (putNum_length _ _ _) (takeNum_putNum _ v.isLt) rfl,
    writeValue_num (hw _), BitVec.ofNat_toNat, BitVec.setWidth_eq]

/-- A carried write of PORT_RELEASE answers as the release does (R109). -/
theorem writeBy_portRelease {ch : Channel} {s : State} (h : Carries ch 1 0x2011 s) (p : PortId) :
    writeBy ch 0x2011 (portSub p) [1] s = answered (releasePort p s).1 none (releasePort p s).2 := by
  have hr : defRow 0x2011 (portSub p) =
      some ⟨0x2011, 0x01, 0x04, .u8, 1, false, 3, 1, false, false, .num 0, [(1, 1)]⟩ := by
    revert p
    decide +kernel
  have hw : ∀ r, writeNum none none r ch 0x2011 (portSub p) 1 s = some (releasePort p s) := by
    intro r
    rcases port_cases p with rfl | rfl | rfl | rfl <;> rfl
  have hn : takeNum (bigEnd ch) [1] = 1 := takeNum_byte (n := 1) _ (by decide)
  rw [writeBy_num h hr (by decide) (by decide) rfl rfl hn rfl, writeValue_num (hw _)]

theorem gives_portCauseClear_bar0 {s : State} {p : PortId} (v : BitVec 32) (h : barOpen s p = true) :
    Gives (.portCauseClear (.bar0 p) v) s (clearCause p v s) := by
  have e : exec (.portCauseClear (.bar0 p) v) s = finish (writeBar0 p 0x08 v.toNat s) := congrArg finish (if_pos h)
  rw [writeBar0_cause] at e
  exact gives_of_finish e

/-- A release of the port is accepted (R108, R109). -/
theorem releasePort_accepted {s : State} {p : PortId} (hq : (s.ports.get p).state = .quarantined)
    (hc : (s.ports.get p).cause = 0#32) (hu : (s.ports.get p).link.up = true) :
    releasePort p s = (stSuccess, modPort p (fun q => { q with state := .releasing }) s) := if_pos ⟨hq, hc, hu⟩

/-- A release of the port is refused (R109). -/
theorem releasePort_busy {s : State} {p : PortId} (h : (s.ports.get p).state ≠ .quarantined ∨
    (s.ports.get p).cause ≠ 0#32 ∨ (s.ports.get p).link.up = false) : releasePort p s = (stBusy, s) := by
  refine if_neg (fun k => ?_)
  obtain ⟨hq, hc, hu⟩ := k
  rcases h with h | h | h
  · exact h hq
  · exact h hc
  · simp [h] at hu

/-- PORT_RELEASE answers as the release does, BAR0 without its status (R109). -/
theorem gives_portRelease {s u : State} {p : PortId} {st : Nat} (h : releasePort p s = (st, u)) :
    (barOpen s p = true → Gives (.portRelease (.bar0 p)) s u) ∧
      ∀ ch, Carries ch 1 0x2011 s → Gives (.portRelease (.dict ch p)) s (answered st none u) := by
  refine ⟨fun hb => ?_, fun ch hc => ?_⟩
  · have e : exec (.portRelease (.bar0 p)) s = finish (writeBar0 p 0x0C 1 s) := congrArg finish (if_pos hb)
    rw [writeBar0_release, h] at e
    exact gives_of_finish e
  · have e := writeBy_portRelease hc p
    rw [h] at e
    exact gives_of_finish (congrArg finish e)

/-- RELEASE_COMPLETE with every tag of the entry answered or waited out (R108). -/
theorem ends_releaseComplete {s : State} {p : PortId} (hr : (s.ports.get p).state = .releasing)
    (ht : (s.ports.get p).quarTags = []) :
    Ends (.releaseComplete p) s [.ports, .rings, .ce] (fun t => (t.ports.get p).state = .active) := by
  have hst := portsStill_sendAgain p (modPort p (fun q => { q with state := .active }) s)
  refine ends_of_finish (if_pos (by simp [hr, ht])) ?_ ?_
  · exact ((onlyChanges_modPort.mono (by decide)).trans (onlyChanges_sendAgain.mono (by decide))).trans onlyChanges_pump
  · rw [settle_port _ p Port.state (fun _ => rfl), pump_state, hst.read p Port.state (fun _ => rfl), modPort_get_self]

/-- RELEASE_COMPLETE before (R108). -/
theorem gives_releaseComplete {s : State} {p : PortId} (ht : (s.ports.get p).quarTags ≠ []) :
    Gives (.releaseComplete p) s s := gives_of_finish (if_neg (by simp [ht]))

/-! ### INT_PENDING and INTA (R85, R91) -/

/-- INTA stays as it is (R91, R102). -/
theorem intaSync_stays {s : State} {p : PortId} (h : intaOn (s.ports.get p) = (s.ports.get p).inta ∨
    (intaOn (s.ports.get p) = true ∧ (s.ports.get p).maySend = false)) : intaSync p s = s := if_pos h

/-- INTA changes, and the message that says so goes out (R91). -/
theorem intaSync_sends {s : State} {p : PortId} (h : intaOn (s.ports.get p) ≠ (s.ports.get p).inta)
    (hs : intaOn (s.ports.get p) = true → (s.ports.get p).maySend = true) : intaSync p s =
      modPort p (fun q => { q with inta := intaOn (s.ports.get p), tx := q.tx ++ [.intx (intaOn (s.ports.get p))] }) s := by
  have hn : ¬(intaOn (s.ports.get p) = (s.ports.get p).inta ∨
      (intaOn (s.ports.get p) = true ∧ (s.ports.get p).maySend = false)) := by
    rintro (k | ⟨k, hm⟩)
    · exact h k
    · simp [hs k] at hm
  exact (if_neg hn).trans (modPort_modPort p _ _ s)

theorem exec_intPendingClear {s : State} {p : PortId} (i : Fin 8) (v : BitVec 32) (h : barOpen s p = true) :
    exec (.intPendingClear p i v) s = finish (clearPending p i.val v.toNat s) := if_pos h

/-- A port with its INT_PENDING at a value. -/
def withPending (n : BitVec 256) (q : Port) : Port := { q with intPending := n }

/-- INT_PENDING takes a value under which INTA stays (R91, R102). -/
theorem putPending_stays {s : State} {p : PortId} {n : BitVec 256} {on : Bool}
    (hon : intaOn (withPending n (s.ports.get p)) = on)
    (h : (s.ports.get p).inta = on ∨ (on = true ∧ (s.ports.get p).maySend = false)) :
    putPending p n s = modPort p (withPending n) s := by
  refine intaSync_stays ?_
  rw [modPort_get_self]
  subst hon
  exact h.imp_left Eq.symm

/-- INT_PENDING takes a value under which INTA changes (R91). -/
theorem putPending_sends {s : State} {p : PortId} {n : BitVec 256} {on : Bool}
    (hon : intaOn (withPending n (s.ports.get p)) = on) (h : (s.ports.get p).inta ≠ on)
    (hs : on = true → (s.ports.get p).maySend = true) : putPending p n s =
      modPort p (fun q => { q with intPending := n, inta := on, tx := q.tx ++ [.intx on] }) s := by
  have hp : (modPort p (withPending n) s).ports.get p = withPending n (s.ports.get p) := modPort_get_self _ _ _
  subst hon
  have e := intaSync_sends (s := modPort p (withPending n) s) (p := p) (by rw [hp]; exact h.symm) (by rw [hp]; exact hs)
  rw [hp, modPort_modPort] at e
  exact e

/-- INT_PENDING_CLEAR (R85, R91). -/
theorem gives_intPendingClear {s : State} {p : PortId} {i : Fin 8} {v : BitVec 32} {n : BitVec 256} {on : Bool}
    (hb : barOpen s p = true)
    (hn : n = (s.ports.get p).intPending &&& ~~~(BitVec.ofNat 256 (v.toNat * 2 ^ (32 * i.val))))
    (hon : intaOn (withPending n (s.ports.get p)) = on) :
    ((s.ports.get p).inta = on ∨ (on = true ∧ (s.ports.get p).maySend = false) →
      Gives (.intPendingClear p i v) s (modPort p (fun q => { q with intPending := n }) s)) ∧
    ((s.ports.get p).inta ≠ on → (on = true → (s.ports.get p).maySend = true) →
      Gives (.intPendingClear p i v) s (modPort p (fun q => { q with
        intPending := n, inta := on, tx := q.tx ++ [.intx on] }) s)) := by
  have e : exec (.intPendingClear p i v) s = finish (putPending p n s) := by
    rw [hn]
    exact exec_intPendingClear i v hb
  refine ⟨fun h => ?_, fun h hs => ?_⟩
  · rw [putPending_stays hon h] at e
    exact gives_of_finish e
  · rw [putPending_sends hon h hs] at e
    exact gives_of_finish e

/-! ### MSI-X messages (R90, R115) -/

/-- A port that may not send holds its messages back (R102). -/
theorem sendHeld_silent {s : State} {p : PortId} (h : (s.ports.get p).maySend = false) : sendHeld p s = s :=
  if_neg (by simp [h])

/-- The messages that no mask holds any more are sent (R90). -/
def sentHeld (q : Port) : Port :=
  { q with
    msixPending := q.msixPending.filter (msixMasked q)
    tx := q.tx ++ (q.msixPending.filter (fun v => !msixMasked q v)).map .msix }

theorem sendHeld_msix {s : State} {p : PortId} (h : (s.ports.get p).maySend = true)
    (hm : irqMode (s.ports.get p).cfg = .msix) : sendHeld p s = modPort p sentHeld s := by
  unfold sendHeld
  dsimp only
  rw [if_pos h, hm]
  rfl

/-- A port with a vector of the MSI-X table unmasked. -/
def unmasked (v : Nat) (q : Port) : Port := { q with msixUnmasked := q.msixUnmasked ++ [v] }

theorem exec_msixUnmask {s : State} {p : PortId} {v : Nat} (hb : barOpen s p = true) (hv : v < 2048)
    (hn : v ∉ (s.ports.get p).msixUnmasked) :
    exec (.msixUnmask p v) s = finish (sendHeld p (modPort p (unmasked v) s)) := by
  have e : exec (.msixUnmask p v) s = finish (unmask p v s) := if_pos (by simp [hb, hv])
  rw [e]
  unfold unmask
  rw [modPort_congr (g := unmasked v) (if_neg hn)]

/-- An unmasked vector is masked no more while the function is not (R78, R90). -/
theorem msixMasked_unmasked {v : Nat} {q : Port} (hf : q.cfg.msixFunctionMask = false) :
    msixMasked (unmasked v q) v = false := by
  simp [msixMasked, unmasked, hf]

/-- MSIX_UNMASK while the port may not send (R90, R102). -/
theorem gives_msixUnmask {s : State} {p : PortId} {v : Nat} (hb : barOpen s p = true) (hv : v < 2048)
    (hn : v ∉ (s.ports.get p).msixUnmasked) (hs : (s.ports.get p).maySend = false) :
    Gives (.msixUnmask p v) s (modPort p (unmasked v) s) := by
  have e := exec_msixUnmask hb hv hn
  rw [sendHeld_silent (by rw [modPort_get_self]; exact hs)] at e
  exact gives_of_finish e

/-- MSIX_UNMASK sends the message that the mask held back (R90). -/
theorem ends_msixUnmask {s : State} {p : PortId} {v : Nat} (hb : barOpen s p = true) (hv : v < 2048)
    (hn : v ∉ (s.ports.get p).msixUnmasked) : Ends (.msixUnmask p v) s [.ports] (fun t =>
      (t.ports.get p).msixUnmasked = (s.ports.get p).msixUnmasked ++ [v] ∧
      ((s.ports.get p).maySend = true → irqMode (s.ports.get p).cfg = .msix →
        (s.ports.get p).cfg.msixFunctionMask = false → v ∉ (t.ports.get p).msixPending ∧
        (v ∈ (s.ports.get p).msixPending → .msix v ∈ (t.ports.get p).tx))) := by
  have hp : (modPort p (unmasked v) s).ports.get p = unmasked v (s.ports.get p) := modPort_get_self _ _ _
  refine ends_of_finish (exec_msixUnmask hb hv hn) (onlyChanges_modPort.trans onlyChanges_sendHeld)
    ⟨?_, fun hs hm hf => ?_⟩
  · rw [settle_port _ p Port.msixUnmasked (fun _ => rfl),
      (portsStill_sendHeld p _).read p Port.msixUnmasked (fun _ => rfl), hp]
    rfl
  · have hk := msixMasked_unmasked (v := v) hf
    rw [settle_port _ p Port.msixPending (fun _ => rfl), settle_port _ p Port.tx (fun _ => rfl),
      sendHeld_msix (by rw [hp]; exact hs) (by rw [hp]; exact hm), modPort_get_self, hp]
    refine ⟨fun m => ?_, fun m => List.mem_append_right _ (List.mem_map_of_mem (List.mem_filter.2 ⟨m, by simp [hk]⟩))⟩
    exact absurd (List.mem_filter.1 m).2 (by simp [hk])

/-- The message of an unmasked vector goes out (R90). -/
theorem sendMsg_msix {s : State} {p : PortId} {v : Nat} (hm : irqMode (s.ports.get p).cfg = .msix)
    (hv : msixMasked (s.ports.get p) v = false) : sendMsg p v s = sendTlp p (.msix v) s := by
  unfold sendMsg
  dsimp only
  rw [hm]
  exact if_pos (by simp [hv])

/-- COALESCE_TIMER_EXPIRY (R115). -/
theorem gives_coalesceTimerExpiry {s : State} {p : PortId} {r : Nat} (hc : (getRing s p r).coal ≠ 0)
    (ht : (getRing s p r).coalTime ≠ 0) (hs : (s.ports.get p).maySend = true)
    (hm : irqMode (s.ports.get p).cfg = .msix) (hf : (s.ports.get p).cfg.msixFunctionMask = false)
    (hv : (getRing s p r).vector ∈ (s.ports.get p).msixUnmasked) : Gives (.coalesceTimerExpiry p r) s
      (sendTlp p (.msix (getRing s p r).vector) (modRing p r (fun x => { x with coal := 0 }) s)) := by
  have e : exec (.coalesceTimerExpiry p r) s = finish (sendMsg p (getRing s p r).vector
      (modRing p r (fun x => { x with coal := 0 }) s)) := if_pos (by simp [hc, ht, hs])
  have hopen : msixMasked (s.ports.get p) (getRing s p r).vector = false := by simp [msixMasked, hf, hv]
  rw [sendMsg_msix (s := modRing p r (fun x => { x with coal := 0 }) s) hm hopen] at e
  exact gives_of_finish e

/-! ### Accesses of the BARs (R82, R84, R85, R113, R117) -/

/-- A read that BAR0 does not serve is completed with zeros (R82, R84). -/
theorem gives_barBadAccess_read {s : State} {p : PortId} {off size : Nat} (hb : barOpen s p = true)
    (h : bar0Served off size = false) :
    Gives (.barBadAccess p ⟨0, off⟩ size false) s (sendTlp p (.completion (zeros size)) s) := by
  have hz : barRead s p 0 off size = zeros size := by simp [barRead, h]
  have e : exec (.barBadAccess p ⟨0, off⟩ size false) s =
      finish (sendTlp p (.completion (barRead s p 0 off size)) s) := congrArg finish (if_pos (by simp [hb]))
  rw [hz] at e
  exact gives_of_finish e

/-- A write that the BAR does not serve is ignored (R84). -/
theorem gives_barBadAccess_write (s : State) (p : PortId) (x : BarPlace) (size : Nat) :
    Gives (.barBadAccess p x size true) s s :=
  gives_of_finish (congrArg finish (if_neg (by simp)))

/-- REGISTER_WRITE of 4 bytes of BAR0 (R82). -/
theorem exec_registerWrite {s : State} {p : PortId} {off : Nat} (v : BitVec 64) (hb : barOpen s p = true)
    (ha : off % 4 = 0) :
    exec (.registerWrite p 0 off 4 v) s = finish (writeBar0 p off (v.toNat % 2 ^ 32) s) := if_pos (by simp [hb, ha])

/-- A word is written as it stands. -/
theorem exec_registerWrite_word {s : State} {p : PortId} {off : Nat} (v : BitVec 32) (hb : barOpen s p = true)
    (ha : off % 4 = 0) :
    exec (.registerWrite p 0 off 4 (v.zeroExtend 64)) s = finish (writeBar0 p off v.toNat s) := by
  have hv : (v.zeroExtend 64).toNat % 2 ^ 32 = v.toNat := by
    have := v.isLt
    simp only [BitVec.zeroExtend, BitVec.toNat_setWidth]
    omega
  rw [exec_registerWrite _ hb ha, hv]

/-- INT_PENDINGn of the port register block (R85). -/
theorem writeBar0_intPending (p : PortId) (i : Fin 8) (v : Nat) (s : State) :
    writeBar0 p (0x40 + 4 * i.val) v s = clearPending p i.val v s := by
  have hi := i.isLt
  have hd : (0x40 + 4 * i.val - 0x40) / 4 = i.val := by omega
  unfold writeBar0 writePortReg
  rw [if_pos (by omega), if_neg (by omega), if_neg (by omega), if_pos (by omega), hd]

/-- RING_DB of a ring's page (R82, R129). -/
theorem writeBar0_ringDb (p : PortId) {r : Nat} (hr : r < 256) (v : Nat) (s : State) :
    writeBar0 p (0x100000 + 4096 * r) v s = ringDoorbell p r (Pos.ofWord v) s := by
  have hd : (0x100000 + 4096 * r - 0x100000) / 4096 = r := by omega
  unfold writeBar0
  rw [if_neg (by omega), if_neg (by omega), if_pos (by omega)]
  dsimp only
  rw [if_pos (by omega), hd]

/-- RING_CMD of a ring's control block (R113, R117). -/
theorem writeBar0_ringCmd (p : PortId) {r : Nat} (hr : r < 256) (v : Nat) (s : State) :
    writeBar0 p (0x10010 + 256 * r) v s = ringCommand p r (bitsOf v 2 0) s := by
  have hd : (0x10010 + 256 * r - 0x10000) / 256 = r := by omega
  have hm : (0x10010 + 256 * r) % 256 = 0x10 := by omega
  unfold writeBar0
  rw [if_neg (by omega), if_pos (by omega), hd, hm]
  rfl

/-- A command that acts as a value of RING_CMD does is what that value's write is (R117). -/
theorem exec_ringCmd {s : State} {p : PortId} {r : Nat} {c : Instr} {v : BitVec 64} (hb : barOpen s p = true)
    (hr : r < 256) (hc : exec c s = finish (ringCommand p r (bitsOf (v.toNat % 2 ^ 32) 2 0) s)) :
    exec (.registerWrite p 0 (0x10010 + 256 * r) 4 v) s = exec c s := by
  rw [exec_registerWrite _ hb (by omega), writeBar0_ringCmd p hr, hc]

/-- CONFIG_WRITE (R75, R89, R92). -/
theorem ends_configWrite {s : State} {p : PortId} (f : ConfigField) (v : BitVec 32)
    (hu : (s.ports.get p).link.up = true) : Ends (.configWrite p f v) s [.ports, .rings, .ce] (fun t =>
      (t.ports.get p).cfg = writeField (s.ports.get p).cfg f v.toNat) := by
  have hst := portsStill_sendAgain p (modPort p (fun q => { q with cfg := writeField q.cfg f v.toNat }) s)
  refine ends_of_finish (if_pos hu) ?_ ?_
  · exact ((onlyChanges_modPort.mono (by decide)).trans (onlyChanges_sendAgain.mono (by decide))).trans onlyChanges_pump
  · rw [settle_port_cfg, pump_cfg, hst.read p Port.cfg (fun _ => rfl), modPort_get_self]

/-- A write of a register that has a command of its own is that command (R82, R85, R113, R117). -/
theorem registerWrite_spec {s : State} {p : PortId} (hb : barOpen s p = true) (v : BitVec 32) :
    Gives (.registerWrite p 0 0x08 4 (v.zeroExtend 64)) s (clearCause p v s) ∧
    (∀ i : Fin 8, exec (.registerWrite p 0 (0x40 + 4 * i.val) 4 (v.zeroExtend 64)) s = exec (.intPendingClear p i v) s) ∧
    (∀ r, r < 256 → exec (.registerWrite p 0 (0x100000 + 4096 * r) 4 (v.zeroExtend 64)) s = exec (.ringDb p r v) s) ∧
    (∀ r, r < 256 → exec (.registerWrite p 0 (0x10010 + 256 * r) 4 1) s = exec (.ringCreate p r) s ∧
      exec (.registerWrite p 0 (0x10010 + 256 * r) 4 2) s = exec (.ringReset p r) s ∧
      exec (.registerWrite p 0 (0x10010 + 256 * r) 4 3) s = exec (.ringResetDiscard p r) s ∧
      exec (.registerWrite p 0 (0x10010 + 256 * r) 4 4) s = exec (.ringDelete p r) s) := by
  have hok : ∀ {r}, r < 256 → (barOpen s p && decide (r < 256)) = true := fun h => by simp [hb, h]
  refine ⟨?_, fun i => ?_, fun r hr => ?_, fun r hr => ⟨?_, ?_, ?_, ?_⟩⟩
  · have e := exec_registerWrite_word (off := 0x08) v hb (by decide)
    rw [writeBar0_cause] at e
    exact gives_of_finish e
  · rw [exec_registerWrite_word v hb (by omega), writeBar0_intPending, exec_intPendingClear i v hb]
  · rw [exec_registerWrite_word v hb (by omega), writeBar0_ringDb p hr]
    exact (if_pos (hok hr)).symm
  · exact exec_ringCmd hb hr (if_pos (hok hr))
  · exact exec_ringCmd hb hr (if_pos (hok hr))
  · exact exec_ringCmd hb hr (if_pos (hok hr))
  · exact exec_ringCmd hb hr (if_pos (hok hr))

/-- Settles O15: release and interrupts by their own rules, each register by its place in BAR0. -/
theorem portsRelease : Obligations.PortsRelease := by
  refine ⟨fun s p => ⟨fun v => gives_portCauseClear_bar0 v,
      fun ch v h => gives_of_finish (congrArg finish (writeBy_portCause h p v)),
      fun hq hc hu => gives_portRelease (releasePort_accepted hq hc hu), fun h => gives_portRelease (releasePort_busy h),
      ends_releaseComplete, fun _ => gives_releaseComplete⟩, fun s p => ?_⟩
  exact ⟨fun i v n hb hn on hon => gives_intPendingClear hb hn hon.symm,
    fun v hb hv hn => ⟨gives_msixUnmask hb hv hn, ends_msixUnmask hb hv hn⟩, fun r => gives_coalesceTimerExpiry,
    gives_barBadAccess_write s p, fun off size => gives_barBadAccess_read, fun f v => ends_configWrite f v,
    registerWrite_spec⟩

end Sys2Proof.Machine
end

section
/-! # What a port sends and notes, and its rings, behind the shared operations (R127, R131, R138, R140)

What a port has sent and the notices it has queued only ever grow, interrupts and records leave a ring but for what they
gather and complete, and the pump but for how far it is fetched. -/

namespace Sys2Proof.Machine

/-! ### Lists that grow -/

/-- A list that each port has has grown at its end at most. -/
def Grows {α : Type} (f : Port → List α) (s t : State) : Prop := ∀ q, f (s.ports.get q) <+: f (t.ports.get q)

section
variable {α : Type} {f : Port → List α} {s t u : State}

theorem Grows.refl (f : Port → List α) (s : State) : Grows f s s := fun _ => List.prefix_rfl

theorem Grows.trans (h : Grows f s t) (k : Grows f t u) : Grows f s u := fun q => (h q).trans (k q)

/-- What has grown from a state has grown from one with the same ports. -/
theorem Grows.after (k : Grows f t u) (h : t.ports = s.ports) : Grows f s u := fun q => by rw [← h]; exact k q

theorem Grows.mem {p : PortId} {a : α} (h : Grows f s t) (m : a ∈ f (s.ports.get p)) : a ∈ f (t.ports.get p) :=
  (h p).subset m

theorem Grows.foldl {β : Type} {g : State → β → State} (h : ∀ s a, Grows f s (g s a)) (l : List β) (s : State) :
    Grows f s (l.foldl g s) := by
  induction l generalizing s with
  | nil => exact .refl f s
  | cons a l ih => exact (h s a).trans (ih _)

theorem grows_modPort (p : PortId) {g : Port → Port} (s : State) (h : ∀ q, f q <+: f (g q)) :
    Grows f s (modPort p g s) := by
  intro q
  rw [modPort_ports, ports_get_set]
  split
  · rename_i e
    rw [e]
    exact h _
  · exact List.prefix_rfl

theorem Grows.of_ports (h : t.ports = s.ports) : Grows f s t :=
  fun q => ⟨[], by rw [List.append_nil, h]⟩

/-- A list that no event touches stays behind events and settling. -/
theorem Grows.of_apart (h : t.ports.apart = s.ports.apart) (hf : ∀ q, f q = f q.apart) : Grows f s t :=
  fun q => ⟨[], by rw [List.append_nil, port_read h q f hf]⟩

end

/-! ### What is sent stays sent (R89 to R93) -/

theorem grows_sendTlp (p : PortId) (m : Tlp) (s : State) : Grows Port.tx s (sendTlp p m s) :=
  grows_modPort p s (fun _ => List.prefix_append _ _)

@[simp] theorem sendTlp_tx (p : PortId) (m : Tlp) (s : State) :
    ((sendTlp p m s).ports.get p).tx = (s.ports.get p).tx ++ [m] := by
  unfold sendTlp
  rw [modPort_get_self]

theorem grows_sendMsg (p : PortId) (v : Nat) (s : State) : Grows Port.tx s (sendMsg p v s) := by
  unfold sendMsg
  dsimp only
  split
  · split
    · exact grows_sendTlp _ _ _
    · split
      · exact .refl _ s
      · exact grows_modPort p s (fun _ => List.prefix_rfl)
  · split
    · exact grows_modPort p s (fun _ => List.prefix_rfl)
    · exact grows_sendTlp _ _ _
  · exact .refl _ s

theorem grows_intaSync (p : PortId) (s : State) : Grows Port.tx s (intaSync p s) := by
  unfold intaSync
  dsimp only
  split
  · exact .refl _ s
  · refine Grows.trans ?_ (grows_sendTlp p _ _)
    exact grows_modPort p s (fun _ => List.prefix_rfl)

theorem grows_setPending (p : PortId) (r : Nat) (s : State) : Grows Port.tx s (setPending p r s) := by
  unfold setPending putPending
  refine Grows.trans ?_ (grows_intaSync p _)
  exact grows_modPort p s (fun _ => List.prefix_rfl)

theorem grows_requestIrq (p : PortId) (r : Nat) (s : State) : Grows Port.tx s (requestIrq p r s) := by
  unfold requestIrq
  dsimp only
  have h := grows_setPending p r s
  split
  · exact (h.trans (.of_ports rfl)).trans (grows_sendMsg p _ (modRing p r (fun x => { x with coal := 0 }) _))
  · exact h.trans (.of_ports rfl)

/-- Both writes of a record go out, the late bytes first (R127). -/
theorem putRecord_tx (p : PortId) (r : Nat) (e : OutEntry) (res : CplRes) (s : State) :
    ((putRecord p r e res s).ports.get p).tx = (s.ports.get p).tx ++
      [.record ((getRing s p r).base + e.pos.off + 4) ((recordBytes e res).drop 4),
       .record ((getRing s p r).base + e.pos.off) ((recordBytes e res).take 4)] := by
  unfold putRecord
  simp

theorem grows_putRecord (p : PortId) (r : Nat) (e : OutEntry) (res : CplRes) (s : State) :
    Grows Port.tx s (putRecord p r e res s) :=
  ((grows_sendTlp p _ s).trans (grows_sendTlp p _ _)).trans (.of_ports rfl)

theorem grows_writeRecord (p : PortId) (r : Nat) (e : OutEntry) (res : CplRes) (s : State) :
    Grows Port.tx (putRecord p r e res s) (writeRecord p r e res s) := by
  unfold writeRecord
  dsimp only
  split
  · exact grows_requestIrq p r _
  · exact .refl _ _

/-- The first bytes of a record go out with it (R127). -/
theorem record_mem_writeRecord (p : PortId) (r : Nat) (e : OutEntry) (res : CplRes) (s : State) :
    Tlp.record ((getRing s p r).base + e.pos.off) ((recordBytes e res).take 4) ∈
      ((writeRecord p r e res s).ports.get p).tx := by
  refine (grows_writeRecord p r e res s).mem ?_
  rw [putRecord_tx]
  simp

theorem grows_issueRead (p : PortId) (tag : Nat) (k : ReqKind) (addr len : Nat) (s : State) :
    Grows Port.tx s (issueRead p tag k addr len s) := grows_modPort p s (fun _ => List.prefix_append _ _)

theorem grows_issueNext (p : PortId) (tag : Nat) (s : State) : Grows Port.tx s (issueNext p tag s) := by
  unfold issueNext
  dsimp only
  split
  · exact Grows.trans (.of_ports rfl) (grows_issueRead p tag _ _ _ (modRing p _ _ s))
  · split
    · split
      · exact grows_issueRead p tag _ _ _ _
      · exact .refl _ s
    · exact .refl _ s

theorem grows_pump (p : PortId) (s : State) : Grows Port.tx s (pump p s) := by
  unfold pump
  split
  · exact .foldl (fun s t => grows_issueNext p t s) _ s
  · exact .refl _ s

/-! ### Rings -/

theorem getRing_of_rings {s t : State} (h : t.rings = s.rings) (p : PortId) (r : Nat) :
    getRing t p r = getRing s p r := by
  unfold getRing
  rw [h]

@[simp] theorem getRing_setRing_self (p : PortId) (r : Nat) (x : Ring) (s : State) :
    getRing (setRing p r x s) p r = x := getRing_modRing_self p r (fun _ => x) s

theorem onlyChanges_setRing {p : PortId} {r : Nat} {x : Ring} {s : State} : OnlyChanges [.rings] s (setRing p r x s) :=
  onlyChanges_modRing (f := fun _ => x)

@[simp] theorem getRing_modPort (p q : PortId) (r : Nat) (f : Port → Port) (s : State) :
    getRing (modPort p f s) q r = getRing s q r := rfl

@[simp] theorem getRing_sendTlp (p q : PortId) (r : Nat) (m : Tlp) (s : State) :
    getRing (sendTlp p m s) q r = getRing s q r := rfl

@[simp] theorem getRing_sendMsg (p q : PortId) (r v : Nat) (s : State) :
    getRing (sendMsg p v s) q r = getRing s q r := getRing_of_rings (onlyChanges_sendMsg .rings (by decide)) q r

@[simp] theorem getRing_setPending (p q : PortId) (r n : Nat) (s : State) :
    getRing (setPending p n s) q r = getRing s q r := getRing_of_rings (onlyChanges_setPending .rings (by decide)) q r

@[simp] theorem getRing_event (c v n : Nat) (d : Bytes) (p : PortId) (r : Nat) (s : State) :
    getRing (event c v n d s) p r = getRing s p r :=
  (event_recorded c v n d s).same (fun u => getRing u p r) (fun _ _ _ _ => rfl)

/-- A completed entry is outstanding no more (R127). -/
@[simp] theorem getRing_putRecord (p : PortId) (r : Nat) (e : OutEntry) (res : CplRes) (s : State) :
    getRing (putRecord p r e res s) p r = { getRing s p r with
      out := (getRing s p r).out.filter (fun o => o != e), cplCount := (getRing s p r).cplCount + 1 } := by
  unfold putRecord
  simp

/-- An interrupt request leaves its ring but for what has gathered (R115). -/
theorem getRing_requestIrq (p : PortId) (r : Nat) (s : State) :
    ∃ n, getRing (requestIrq p r s) p r = { getRing s p r with coal := n } := by
  unfold requestIrq
  dsimp only
  split
  · exact ⟨0, by simp⟩
  · exact ⟨(getRing s p r).coal + 1, by simp⟩

/-- A record leaves its ring as `putRecord` does, but for what has gathered (R115, R127). -/
theorem getRing_writeRecord (p : PortId) (r : Nat) (e : OutEntry) (res : CplRes) (s : State) :
    ∃ n, getRing (writeRecord p r e res s) p r = { getRing (putRecord p r e res s) p r with coal := n } := by
  unfold writeRecord
  dsimp only
  split
  · exact getRing_requestIrq p r _
  · exact ⟨_, rfl⟩

/-- A ring that faults stands FAULTED with the fault's code, and as it was otherwise (R138). -/
@[simp] theorem getRing_ringFault (p : PortId) (r code : Nat) (s : State) :
    getRing (ringFault p r code s) p r = { getRing s p r with state := .faulted, fault := code } := by
  unfold ringFault
  dsimp only
  rw [getRing_event]
  split
  · rw [getRing_sendMsg, getRing_setPending, getRing_modPort, getRing_modRing_self]
  · rw [getRing_modPort, getRing_modRing_self]

/-- What is read of a ring apart from how far it has been fetched the pump leaves (R131). -/
theorem pump_ring {α : Type} (f : Ring → α) (hf : ∀ x : Ring, f x = f x.unfetched) (p q : PortId) (r : Nat)
    (s : State) : f (getRing (pump p s) q r) = f (getRing s q r) := by
  rw [hf, (readsIssued_pump p s).rings q r, ← hf]

/-! ### What a fault counts (R138) -/

/-- A pending interrupt changes of its port what is sent and INT_PENDING at most (R91). -/
theorem setPending_ringFaults (p : PortId) (r : Nat) (s : State) :
    ((setPending p r s).ports.get p).ringFaults = (s.ports.get p).ringFaults := by
  unfold setPending putPending
  rw [(portsStill_intaSync p _).read p Port.ringFaults (fun _ => rfl), modPort_get_self]

/-- A ring's fault is counted (R138). -/
@[simp] theorem ringFault_ringFaults (p : PortId) (r code : Nat) (s : State) :
    ((ringFault p r code s).ports.get p).ringFaults = (s.ports.get p).ringFaults + 1 := by
  unfold ringFault
  dsimp only
  rw [port_read (event_recorded _ _ _ _ _).2.1 p Port.ringFaults (fun _ => rfl)]
  split
  · rw [(portsStill_sendMsg p _ _).read p Port.ringFaults (fun _ => rfl), setPending_ringFaults, modPort_get_self]
    rfl
  · rw [modPort_get_self]
    rfl

end Sys2Proof.Machine
end

section
/-! # Creation of rings, doorbells and push windows (R86, R103, R118, R119, R129, R130, R134) -/

namespace Sys2Proof.Machine

/-- A host reaches a ring's registers while it reaches the BARs of the port (R80, R113). -/
theorem ringOpen {s : State} {p : PortId} {r : Nat} (hb : barOpen s p = true) (hr : r < 256) :
    (barOpen s p && decide (r < 256)) = true := by simp [hb, hr]

/-! ### CREATE (R119) -/

/-- A ring as CREATE leaves it: RUNNING at 0x8000_0000 with an empty push window. -/
def Ring.created (x : Ring) : Ring :=
  { x with
    state := .running, cmdRefused := false, push := [], db := Pos.ofWord 0x80000000, acc := Pos.ofWord 0x80000000
    fetchPos := Pos.ofWord 0x80000000 }

/-- What CREATE asks for (R119, R538). -/
def MayCreate (s : State) (p : PortId) (r : Nat) : Prop :=
  (getRing s p r).state = .none ∧ (s.ports.get p).state = .active ∧ (s.ports.get p).cfg.busMaster = true ∧
    (s.ports.get p).cfg.d3hot = false ∧ (s.ports.get p).maint = false ∧ 12 ≤ (getRing s p r).sizeLog2 ∧
    (getRing s p r).sizeLog2 ≤ 24 ∧ (getRing s p r).base ≠ 0

/-- A port may send when it is ACTIVE, not held and not in MAINTENANCE (R102, R107, R538). -/
theorem maySend_iff (q : Port) : q.maySend = true ↔
    q.state = .active ∧ q.cfg.busMaster = true ∧ q.cfg.d3hot = false ∧ q.maint = false := by
  simp [Port.maySend, Port.isHeld, and_assoc]

theorem ringCreate_accepted {s : State} {p : PortId} {r : Nat} (h : MayCreate s p r) :
    ringCreate p r s = modRing p r Ring.created s := by
  obtain ⟨hn, ha, hb, hd, hm, hlo, hhi, hbase⟩ := h
  have hs : (s.ports.get p).maySend = true := (maySend_iff _).2 ⟨ha, hb, hd, hm⟩
  exact if_pos (by simp [hn, hs, hlo, hhi, hbase])

theorem ringCreate_refused {s : State} {p : PortId} {r : Nat} (h : ¬MayCreate s p r) :
    ringCreate p r s = modRing p r (fun x => { x with cmdRefused := true }) s := by
  refine if_neg (fun k => h ?_)
  simp only [Bool.and_eq_true, beq_iff_eq, decide_eq_true_eq, bne_iff_ne, ne_eq, maySend_iff] at k
  obtain ⟨⟨⟨⟨hn, ha, hb, hd, hm⟩, hlo⟩, hhi⟩, hbase⟩ := k
  exact ⟨hn, ha, hb, hd, hm, hlo, hhi, hbase⟩

/-- A port whose configuration space stands at its defaults is held (R86). -/
theorem isHeld_of_reset {q : Port} (h : q.cfg = PortCfg.reset) : q.isHeld = true := by
  unfold Port.isHeld
  rw [h]
  rfl

/-- Every reset of a port holds it (R86, R103). -/
theorem reset_holds {c : Instr} {s : State} {p : PortId} (hb : barOpen s p = true)
    (hc : c ∈ [Instr.perstNAssert p, .hotReset p false, .hotReset p true, .flr p]) :
    ∃ t, exec c s = .next t ∧ (t.ports.get p).isHeld = true := by
  have hu : (s.ports.get p).link.up = true := by
    unfold barOpen at hb
    simp only [Bool.and_eq_true] at hb
    exact hb.1
  obtain ⟨-, -, -, -, hreset, -⟩ := portLinksAndResets s p
  have held : ∀ {l Q}, Ends c s l Q → (∀ t, Q t → (t.ports.get p).cfg = PortCfg.reset) →
      ∃ t, exec c s = .next t ∧ (t.ports.get p).isHeld = true := by
    rintro l Q ⟨t, he, hq, -⟩ hcfg
    exact ⟨t, he, isHeld_of_reset (hcfg t hq)⟩
  refine held (hreset c ?_ (.inr hu) ?_) (fun t h => h.2.1)
  · simp only [List.mem_cons, List.not_mem_nil, or_false] at hc ⊢
    rcases hc with rfl | rfl | rfl | rfl <;> simp
  · rintro rfl
    simp at hc

/-! ### Doorbells (R129, R130, R134, R138) -/

theorem ringDoorbell_running {s : State} {p : PortId} {r : Nat} {v : Pos} (hs : (getRing s p r).state = .running)
    (hv : v ≠ (getRing s p r).db) : ringDoorbell p r v s =
      if (getRing s p r).doorbellFault v = 0 then pump p (modRing p r (fun x => x.record v) s)
      else ringFault p r ((getRing s p r).doorbellFault v) (modRing p r (fun x => { x with push := [] }) s) := by
  unfold ringDoorbell
  rw [if_neg (by simp [hs, hv])]
  exact if_pos hs

/-- The doorbells that fault no ring (R130). -/
theorem doorbellFault_legal {x : Ring} {v : Pos} (ha : v.off % 64 = 0) (hi : v.off < x.size)
    (hd : Pos.distance x.size x.db v ≤ x.size) (ho : x.overruns (Pos.distance x.size x.db v) = false) :
    x.doorbellFault v = 0 := by
  unfold Ring.doorbellFault
  dsimp only
  rw [if_neg (by omega), ho]
  rfl

/-- A doorbell faults a ring with 3 or 4 (R130). -/
theorem doorbellFault_code {x : Ring} {v : Pos} (h : x.doorbellFault v ≠ 0) :
    x.doorbellFault v = 3 ∨ x.doorbellFault v = 4 := by
  unfold Ring.doorbellFault at h ⊢
  dsimp only at h ⊢
  split
  · exact .inl rfl
  · rename_i hn
    rw [if_neg hn] at h
    split
    · exact .inr rfl
    · rename_i ho
      exact absurd (if_neg ho) h

theorem exec_ringDb {s : State} {p : PortId} {r : Nat} (v : BitVec 32) (hb : barOpen s p = true) (hr : r < 256) :
    exec (.ringDb p r v) s = finish (ringDoorbell p r (Pos.ofWord v.toNat) s) := if_pos (ringOpen hb hr)

/-- A legal doorbell is recorded (R130, R134). -/
theorem ends_ringDb_legal {s : State} {p : PortId} {r : Nat} {v : BitVec 32} (hb : barOpen s p = true) (hr : r < 256)
    (hs : (getRing s p r).state = .running) (hv : Pos.ofWord v.toNat ≠ (getRing s p r).db)
    (hf : (getRing s p r).doorbellFault (Pos.ofWord v.toNat) = 0) :
    Ends (.ringDb p r v) s [.ports, .rings, .ce] (fun t =>
      (getRing t p r).state = .running ∧ (getRing t p r).db = Pos.ofWord v.toNat ∧ (getRing t p r).push = [] ∧
      (getRing t p r).acc = (getRing s p r).acc ∧ (getRing t p r).out = (getRing s p r).out) := by
  have e := exec_ringDb v hb hr
  rw [ringDoorbell_running hs hv, if_pos hf] at e
  refine ends_of_finish e ((onlyChanges_modRing.mono (by decide)).trans onlyChanges_pump) ?_
  rw [getRing_settle, pump_ring Ring.state (fun _ => rfl), pump_ring Ring.db (fun _ => rfl),
    pump_ring Ring.push (fun _ => rfl), pump_ring Ring.acc (fun _ => rfl), pump_ring Ring.out (fun _ => rfl),
    getRing_modRing_self]
  exact ⟨hs, rfl, rfl, rfl, rfl⟩

/-- A doorbell that is not legal faults its ring (R130, R138). -/
theorem ends_ringDb_fault {s : State} {p : PortId} {r : Nat} {v : BitVec 32} (hb : barOpen s p = true) (hr : r < 256)
    (hs : (getRing s p r).state = .running) (hv : Pos.ofWord v.toNat ≠ (getRing s p r).db)
    (hf : (getRing s p r).doorbellFault (Pos.ofWord v.toNat) ≠ 0) :
    Ends (.ringDb p r v) s [.ports, .rings] (fun t =>
      (getRing t p r).state = .faulted ∧ (getRing t p r).fault = (getRing s p r).doorbellFault (Pos.ofWord v.toNat) ∧
      (getRing t p r).db = (getRing s p r).db ∧ (getRing t p r).acc = (getRing s p r).acc ∧
      (getRing t p r).out = (getRing s p r).out ∧
      (t.ports.get p).ringFaults = (s.ports.get p).ringFaults + 1) := by
  have e := exec_ringDb v hb hr
  rw [ringDoorbell_running hs hv, if_neg hf] at e
  refine ends_of_finish e ((onlyChanges_modRing.mono (by decide)).trans onlyChanges_ringFault) ?_
  rw [getRing_settle, settle_port _ p Port.ringFaults (fun _ => rfl), getRing_ringFault, ringFault_ringFaults,
    getRing_modRing_self]
  exact ⟨rfl, rfl, rfl, rfl, rfl, rfl⟩

/-! ### The push window (R134) -/

/-- The window with bytes written from an offset on. -/
def windowWith (off : Nat) (data : Bytes) (w : Tab Byte) : Tab Byte :=
  (List.range data.length).foldl (fun w i => Tab.put (off + i) (data.getD i 0) w) w

/-- Without PUSH_RING a push write fills the window and does no more (R134). -/
theorem pushWrite_fills {s : State} {p : PortId} {r off : Nat} {data : Bytes} (h2 : isPow2 data.length = true)
    (hl : data.length ≤ 64) (ha : off % data.length = 0) (hw : off + data.length ≤ 256)
    (hs : (getRing s p r).state = .running) (hp : (getRing s p r).pushRing = false) :
    pushWrite p r off data s = modRing p r (fun x => { x with push := windowWith off data x.push }) s := by
  have h64 : ¬64 < data.length := by omega
  have h256 : ¬256 < off + data.length := by omega
  unfold pushWrite
  dsimp only
  rw [if_neg (by simp [h2, h64, ha, h256, hs]), hp]
  rfl

end Sys2Proof.Machine

/-! ### The statements, outside `Machine`, whose `ringCreate` and `ringsRun` are the model's own -/

namespace Sys2Proof
open Machine

/-- Settles O16: CREATE by its conditions, and HELD by the defaults that every reset restores. -/
theorem ringCreate : Obligations.RingCreate := by
  intro s p r hb hr
  have e : exec (.ringCreate p r) s = finish (Machine.ringCreate p r s) := if_pos (ringOpen hb hr)
  refine ⟨fun ok hok => ⟨fun h => ?_, fun h => ?_⟩, fun c hc => reset_holds hb hc, isHeld_of_reset ?_⟩
  · rw [hok] at h
    rw [ringCreate_accepted h] at e
    exact gives_of_finish e
  · rw [hok] at h
    rw [ringCreate_refused h] at e
    exact gives_of_finish e
  · rcases port_cases p with rfl | rfl | rfl | rfl <;> rfl

/-- Settles O17: a doorbell by whether it faults its ring, and a push write by the window. -/
theorem ringsRun : Obligations.RingsRun := by
  intro s p r hb hr
  refine ⟨fun v hs hv => ⟨fun ha hi hd ho => ?_, fun f hf h0 => ?_⟩, fun off data h2 hl ha hw hs hp => ?_⟩
  · exact ends_ringDb_legal hb hr hs hv (doorbellFault_legal ha hi hd ho)
  · subst hf
    exact ⟨doorbellFault_code h0, ends_ringDb_fault hb hr hs hv h0⟩
  · have e : exec (.pushWrite p r off data) s = finish (pushWrite p r off data s) := if_pos (ringOpen hb hr)
    rw [pushWrite_fills h2 hl ha hw hs hp] at e
    exact gives_of_finish e

end Sys2Proof
end

section
/-! # Acceptance of entries (R97, R120 to R124, R128, R131 to R133, R138) -/

namespace Sys2Proof.Machine

/-! ### TAGs (R132) -/

/-- The tags from the counter on, as many as surely hold one that is free (R132). -/
def tagCandidates (base n : Nat) : List Nat := (List.range n).map (fun i => (base + i) % 2 ^ 32)

theorem nodup_tagCandidates (base : Nat) {n : Nat} (h : n ≤ 2 ^ 32) : (tagCandidates base n).Nodup := by
  refine List.pairwise_map.2 (List.Pairwise.imp_of_mem (fun {i j} hi hj hlt => ?_) List.pairwise_lt_range)
  rw [List.mem_range] at hi hj
  omega

/-- Of more tags in a row than are outstanding and zero, one is free (R132). -/
theorem exists_free_tag (base : Nat) (used : List Nat) (h : used.length + 2 ≤ 2 ^ 32) :
    ∃ t ∈ tagCandidates base (used.length + 2), t ≠ 0 ∧ t ∉ used := by
  refine Classical.byContradiction (fun hno => ?_)
  have hs : tagCandidates base (used.length + 2) ⊆ 0 :: used := fun t ht =>
    List.mem_cons.2 (Decidable.or_iff_not_imp_left.2 (fun h0 =>
      Decidable.not_not.1 (fun hu => hno ⟨t, ht, h0, hu⟩)))
  have hl := (nodup_tagCandidates base h).length_le_of_subset hs
  have hc : (tagCandidates base (used.length + 2)).length = used.length + 2 := by
    rw [tagCandidates, List.length_map, List.length_range]
  rw [hc, List.length_cons] at hl
  omega

/-- The TAG that the counter assigns is neither zero nor that of an outstanding command (R132). -/
theorem nextTag_free {s : State} {p : PortId} (h : (outstandingTags s p).length + 2 ≤ 2 ^ 32) :
    nextTag s p ≠ 0 ∧ nextTag s p ∉ outstandingTags s p := by
  obtain ⟨t, ht, h0, hu⟩ := exists_free_tag (s.ports.get p).tagNext (outstandingTags s p) h
  unfold nextTag
  dsimp only
  cases hf : ((List.range ((outstandingTags s p).length + 2)).map
      (fun i => ((s.ports.get p).tagNext + i) % 2 ^ 32)).find?
        (fun t => t != 0 && !decide (t ∈ outstandingTags s p)) with
  | none => exact absurd (List.find?_eq_none.1 hf t ht) (by simp [h0, hu])
  | some u => simpa using List.find?_some hf

/-! ### An entry is taken (R128, R131 to R133) -/

/-- A ring past an entry of `n` bytes: what lies behind it is neither held nor asked for any more (R131, R132). -/
def Ring.passed (n : Nat) (x : Ring) : Ring :=
  { x with
    acc := x.acc.advance x.size n
    refetch := .no
    fetchPos := if Pos.distance x.size (x.acc.advance x.size n) x.db < Pos.distance x.size x.fetchPos x.db then
        x.acc.advance x.size n else x.fetchPos
    granules := x.granules.filter (fun g =>
      !(decide (x.acc.off / 64 ≤ g.1) && decide (g.1 < x.acc.off / 64 + n / 64))) }

/-- The position has moved past an entry, and its ring is the one last served (R132, R133). -/
def entryPassed (p : PortId) (r n : Nat) (s : State) : State :=
  modPort p (fun q => { q with lastServed := r }) (modRing p r (Ring.passed n) s)

@[simp] theorem getRing_entryPassed (p : PortId) (r n : Nat) (s : State) :
    getRing (entryPassed p r n s) p r = (getRing s p r).passed n := getRing_modRing_self p r (Ring.passed n) s

theorem onlyChanges_entryPassed {p : PortId} {r n : Nat} {s : State} :
    OnlyChanges [.ports, .rings] s (entryPassed p r n s) :=
  (onlyChanges_modRing.mono (by decide)).trans (onlyChanges_modPort.mono (by decide))

/-- The entry that is next, as it is outstanding once it is accepted (R132). -/
def Ring.takes (x : Ring) (e : Bytes) (pushed : Bool) (tag : Nat) (notice : Bool) : OutEntry :=
  { pos := x.acc, len := entryLen e, head := e.take 32, pushed := pushed, tag := tag, notice := notice }

/-- An entry joins those outstanding on its ring (R132). -/
def outJoined (p : PortId) (r : Nat) (o : OutEntry) (s : State) : State :=
  modRing p r (fun x => { x with out := x.out ++ [o] }) s

@[simp] theorem getRing_outJoined (p : PortId) (r : Nat) (o : OutEntry) (s : State) :
    getRing (outJoined p r o s) p r = { getRing s p r with out := (getRing s p r).out ++ [o] } :=
  getRing_modRing_self p r _ s

/-- A command joins those in work once its TAG is taken and its entry is outstanding (R132). -/
def cmdJoined (p : PortId) (r : Nat) (c : Cmd) (o : OutEntry) (s : State) : State :=
  modCe (fun k => { k with cmds := k.cmds ++ [c], nextOrder := k.nextOrder + 1 })
    (outJoined p r o (modPort p (fun q => { q with tagNext := (c.tag + 1) % 2 ^ 32 }) s))

@[simp] theorem getRing_cmdJoined (p : PortId) (r : Nat) (c : Cmd) (o : OutEntry) (s : State) :
    getRing (cmdJoined p r c o s) p r = { getRing s p r with out := (getRing s p r).out ++ [o] } :=
  getRing_outJoined p r o (modPort p _ s)

@[simp] theorem cmdJoined_cmds (p : PortId) (r : Nat) (c : Cmd) (o : OutEntry) (s : State) :
    (cmdJoined p r c o s).ce.cmds = s.ce.cmds ++ [c] := rfl

@[simp] theorem cmdJoined_tagNext (p : PortId) (r : Nat) (c : Cmd) (o : OutEntry) (s : State) :
    ((cmdJoined p r c o s).ports.get p).tagNext = (c.tag + 1) % 2 ^ 32 :=
  congrArg Port.tagNext (modPort_get_self p (fun q => { q with tagNext := (c.tag + 1) % 2 ^ 32 }) s)

theorem onlyChanges_cmdJoined {p : PortId} {r : Nat} {c : Cmd} {o : OutEntry} {s : State} :
    OnlyChanges [.ports, .rings, .ce] s (cmdJoined p r c o s) :=
  ((onlyChanges_modPort.mono (by decide)).trans (onlyChanges_modRing.mono (by decide))).trans
    (onlyChanges_modCe.mono (by decide))

theorem takeEntry_command {p : PortId} {r : Nat} {e : Bytes} {pushed : Bool} {s : State} (h : entryKind e = 0) :
    takeEntry p r e pushed s = cmdJoined p r (newCmd s p r (nextTag s p) e)
      ((getRing s p r).takes e pushed (nextTag s p) false) (entryPassed p r (entryLen e) s) := by
  unfold takeEntry
  simp only [h]
  rfl

theorem takeEntry_pad {p : PortId} {r : Nat} {e : Bytes} {pushed : Bool} {s : State} (h : entryKind e = 1) :
    takeEntry p r e pushed s = writeRecord p r ((getRing s p r).takes e pushed 0 false) ⟨stSuccess, 0, 0⟩
      (entryPassed p r (entryLen e) s) := by
  unfold takeEntry
  simp only [h]
  rfl

theorem takeEntry_notice {p : PortId} {r : Nat} {e : Bytes} {pushed : Bool} {s : State} (h : entryKind e = 2) :
    takeEntry p r e pushed s =
      outJoined p r ((getRing s p r).takes e pushed 0 true) (entryPassed p r (entryLen e) s) := by
  unfold takeEntry
  simp only [h]
  rfl

/-! ### The engine turns to the next entry (R124, R132, R133) -/

section
variable {s : State} {p : PortId} {r : Nat} (hm : (s.ports.get p).maySend = true) (hr : ringsRun s = true)
include hm hr

theorem acceptEntry_entry {e : Bytes} {pushed : Bool} (h : (getRing s p r).find = .entry e pushed) :
    acceptEntry p r s = if mayAccept s p then takeEntry p r e pushed s else s := by
  unfold acceptEntry
  rw [if_neg (by simp [hm, hr]), h]

theorem acceptEntry_phase (h : (getRing s p r).find = .phase) : acceptEntry p r s =
    if (getRing s p r).refetch = .again then ringFault p r 1 s
    else modRing p r (fun x => { x with refetch := .due }) s := by
  unfold acceptEntry
  rw [if_neg (by simp [hm, hr]), h]

theorem acceptEntry_length (h : (getRing s p r).find = .length) : acceptEntry p r s = ringFault p r 2 s := by
  unfold acceptEntry
  rw [if_neg (by simp [hm, hr]), h]

/-- A command joins the commands in work under the next TAG (R132). -/
theorem ends_entryAccept_command {e : Bytes} {pushed : Bool} (h : (getRing s p r).find = .entry e pushed)
    (hk : entryKind e = 0) (ha : mayAccept s p = true) : Ends (.entryAccept p r) s [.ports, .rings, .ce] (fun t =>
      t.ce.cmds = s.ce.cmds ++ [newCmd s p r (nextTag s p) e] ∧
      (t.ports.get p).tagNext = (nextTag s p + 1) % 2 ^ 32 ∧
      (getRing t p r).acc = (getRing s p r).acc.advance (getRing s p r).size (entryLen e) ∧
      (getRing t p r).out = (getRing s p r).out ++ [(getRing s p r).takes e pushed (nextTag s p) false]) := by
  have he : acceptEntry p r s = cmdJoined p r (newCmd s p r (nextTag s p) e)
      ((getRing s p r).takes e pushed (nextTag s p) false) (entryPassed p r (entryLen e) s) :=
    (acceptEntry_entry hm hr h).trans ((if_pos ha).trans (takeEntry_command hk))
  refine ends_of_finish (congrArg finish he)
    ((onlyChanges_entryPassed.mono (by decide)).trans onlyChanges_cmdJoined) ?_
  rw [settle_ce, settle_port _ p Port.tagNext (fun _ => rfl), getRing_settle, getRing_cmdJoined, cmdJoined_cmds,
    cmdJoined_tagNext, getRing_entryPassed]
  exact ⟨rfl, rfl, rfl, rfl⟩

/-- At the limit nothing is accepted (R133). -/
theorem gives_entryAccept_limit {e : Bytes} {pushed : Bool} (h : (getRing s p r).find = .entry e pushed)
    (ha : mayAccept s p = false) : Gives (.entryAccept p r) s s :=
  gives_of_finish (congrArg finish ((acceptEntry_entry hm hr h).trans (if_neg (by simp [ha]))))

/-- A PAD completes with SUCCESS at once (R128). -/
theorem ends_entryAccept_pad {e : Bytes} {pushed : Bool} (h : (getRing s p r).find = .entry e pushed)
    (hk : entryKind e = 1) (ha : mayAccept s p = true) : Ends (.entryAccept p r) s [.ports, .rings] (fun t =>
      (getRing t p r).acc = (getRing s p r).acc.advance (getRing s p r).size (entryLen e) ∧
      Tlp.record ((getRing s p r).base + (getRing s p r).acc.off)
        ((recordBytes ((getRing s p r).takes e pushed 0 false) ⟨stSuccess, 0, 0⟩).take 4) ∈ (t.ports.get p).tx) := by
  have he : acceptEntry p r s = writeRecord p r ((getRing s p r).takes e pushed 0 false) ⟨stSuccess, 0, 0⟩
      (entryPassed p r (entryLen e) s) :=
    (acceptEntry_entry hm hr h).trans ((if_pos ha).trans (takeEntry_pad hk))
  have hrec := record_mem_writeRecord p r ((getRing s p r).takes e pushed 0 false) ⟨stSuccess, 0, 0⟩
    (entryPassed p r (entryLen e) s)
  obtain ⟨n, hw⟩ := getRing_writeRecord p r ((getRing s p r).takes e pushed 0 false) ⟨stSuccess, 0, 0⟩
    (entryPassed p r (entryLen e) s)
  rw [getRing_putRecord, getRing_entryPassed] at hw
  rw [getRing_entryPassed] at hrec
  refine ends_of_finish (congrArg finish he) (onlyChanges_entryPassed.trans onlyChanges_writeRecord) ?_
  rw [getRing_settle, settle_port _ p Port.tx (fun _ => rfl), hw]
  exact ⟨rfl, hrec⟩

/-- A notice slot waits for its notice (R128). -/
theorem ends_entryAccept_notice {e : Bytes} {pushed : Bool} (h : (getRing s p r).find = .entry e pushed)
    (hk : entryKind e = 2) (ha : mayAccept s p = true) : Ends (.entryAccept p r) s [.ports, .rings] (fun t =>
      (getRing t p r).out = (getRing s p r).out ++ [(getRing s p r).takes e pushed 0 true]) := by
  have he : acceptEntry p r s =
      outJoined p r ((getRing s p r).takes e pushed 0 true) (entryPassed p r (entryLen e) s) :=
    (acceptEntry_entry hm hr h).trans ((if_pos ha).trans (takeEntry_notice hk))
  refine ends_of_finish (congrArg finish he)
    (onlyChanges_entryPassed.trans (onlyChanges_modRing.mono (by decide))) ?_
  rw [getRing_settle, getRing_outJoined, getRing_entryPassed]
  rfl

/-- An entry of a wrong phase is to be fetched again (R124). -/
theorem gives_entryAccept_phase (h : (getRing s p r).find = .phase) (ha : (getRing s p r).refetch ≠ .again) :
    Gives (.entryAccept p r) s (modRing p r (fun x => { x with refetch := .due }) s) :=
  gives_of_finish (congrArg finish ((acceptEntry_phase hm hr h).trans (if_neg ha)))

end

/-- A ring faults in place of accepting an entry (R124, R138). -/
theorem ends_entryAccept_fault {s : State} {p : PortId} {r code : Nat} (h : acceptEntry p r s = ringFault p r code s) :
    Ends (.entryAccept p r) s [.ports, .rings] (fun t =>
      (getRing t p r).state = .faulted ∧ (getRing t p r).fault = code ∧ (getRing t p r).acc = (getRing s p r).acc) := by
  refine ends_of_finish (congrArg finish h) onlyChanges_ringFault ?_
  rw [getRing_settle, getRing_ringFault]
  exact ⟨rfl, rfl, rfl⟩

/-- Acceptance goes on with the next ring in turn that has an entry waiting, as ENTRY_ACCEPT of it would (R133). -/
theorem gives_acceptResume {s : State} {p : PortId} {r : Nat}
    (h : (ringsInTurn s p).find? (fun x => (getRing s p x).waits) = some r) :
    Gives (.acceptResume p) s (acceptEntry p r s) ∧ exec (.acceptResume p) s = exec (.entryAccept p r) s := by
  have e : exec (.acceptResume p) s = finish (acceptEntry p r s) := by
    show execAcceptResume p s = _
    unfold execAcceptResume
    rw [h]
  exact ⟨gives_of_finish e, e⟩

/-! ### Fetches that are issued again (R97, R124) -/

/-- The fetches of a list of spans of a ring, each under a tag (R75, R131). -/
def spansFetched (p : PortId) (r base : Nat) (l : List ((Nat × Nat) × Nat)) (s : State) : State :=
  l.foldl (fun s e => issueRead p e.2 (.ring r e.1.1) (base + e.1.1) e.1.2 s) s

theorem onlyChanges_spansFetched {p : PortId} {r base : Nat} {l : List ((Nat × Nat) × Nat)} {s : State} :
    OnlyChanges [.ports] s (spansFetched p r base l s) := .foldl (fun _ _ => onlyChanges_issueRead)

/-- Each span goes out as one read, in their order (R75, R131). -/
theorem spansFetched_tx (p : PortId) (r base : Nat) (l : List ((Nat × Nat) × Nat)) (s : State) :
    ((spansFetched p r base l s).ports.get p).tx = (s.ports.get p).tx ++
      l.map (fun e => .fetch e.2 (base + e.1.1) e.1.2 (s.ports.get p).cfg.ido) := by
  induction l generalizing s with
  | nil => simp [spansFetched]
  | cons e l ih =>
    have hp : (issueRead p e.2 (.ring r e.1.1) (base + e.1.1) e.1.2 s).ports.get p = _ := modPort_get_self p _ s
    show ((spansFetched p r base l _).ports.get p).tx = _
    rw [ih, hp]
    simp

theorem issueRetries_eq (p : PortId) (r : Nat) (s : State) : issueRetries p r s =
    modRing p r (fun x => { x with
        retry := x.retry.drop ((getRing s p r).retry.zip (freeTags (s.ports.get p))).length })
      (spansFetched p r (getRing s p r).base ((getRing s p r).retry.zip (freeTags (s.ports.get p))) s) := rfl

theorem onlyChanges_issueRetries {p : PortId} {r : Nat} {s : State} :
    OnlyChanges [.ports, .rings] s (issueRetries p r s) :=
  (onlyChanges_spansFetched.mono (by decide)).trans (onlyChanges_modRing.mono (by decide))

/-- What waits to be fetched again goes out as far as there are tags (R97, R124). -/
theorem issueRetries_tx (p : PortId) (r : Nat) (s : State) : ((issueRetries p r s).ports.get p).tx =
    (s.ports.get p).tx ++ ((getRing s p r).retry.zip (freeTags (s.ports.get p))).map (fun e =>
      .fetch e.2 ((getRing s p r).base + e.1.1) e.1.2 (s.ports.get p).cfg.ido) := spansFetched_tx p r _ _ s

/-- What finds no tag waits on (R97, R124). -/
@[simp] theorem getRing_issueRetries (p : PortId) (r : Nat) (s : State) : getRing (issueRetries p r s) p r =
    { getRing s p r with retry := (getRing s p r).retry.drop (freeTags (s.ports.get p)).length } := by
  have hd : (getRing s p r).retry.drop ((getRing s p r).retry.zip (freeTags (s.ports.get p))).length =
      (getRing s p r).retry.drop (freeTags (s.ports.get p)).length := by
    rw [List.length_zip]
    rcases Nat.le_total (getRing s p r).retry.length (freeTags (s.ports.get p)).length with h | h
    · rw [Nat.min_eq_left h, List.drop_length, List.drop_eq_nil_of_le h]
    · rw [Nat.min_eq_right h]
  rw [issueRetries_eq, getRing_modRing_self, getRing_of_rings (onlyChanges_spansFetched .rings (by decide)), hd]

/-- The spans in which the next entry of a ring is fetched again (R124, R131). -/
def Ring.refetchSpans (x : Ring) (mrrs : Nat) : List (Nat × Nat) :=
  (splitTransfer mrrs x.entrySpan (x.base + x.acc.off) x.entrySpan).map (fun e => (e.1 - x.base, e.2))

/-- A ring whose next entry is to be fetched again: its bytes are given up, and their spans wait for tags (R124). -/
def Ring.refetching (mrrs : Nat) (x : Ring) : Ring :=
  { x with
    refetch := .again, retry := x.retry ++ x.refetchSpans mrrs
    granules := x.granules.filter (fun g =>
      !(decide (x.acc.off / 64 ≤ g.1) && decide (g.1 < x.acc.off / 64 + x.entrySpan / 64))) }

/-- PHASE_REFETCH (R124). -/
theorem ends_phaseRefetch {s : State} {p : PortId} {r : Nat} (hm : (s.ports.get p).maySend = true)
    (hd : (getRing s p r).refetch = .due) (hs : (getRing s p r).state = .running) {l : List (Nat × Nat)}
    (hl : l = (getRing s p r).retry ++ (getRing s p r).refetchSpans (s.ports.get p).cfg.mrrs) :
    Ends (.phaseRefetch p r (getRing s p r).acc.off) s [.ports, .rings] (fun t =>
      (getRing t p r).refetch = .again ∧ (getRing t p r).state = .running ∧ (getRing t p r).acc = (getRing s p r).acc ∧
      (getRing t p r).retry = l.drop (freeTags (s.ports.get p)).length ∧
      (t.ports.get p).tx = (s.ports.get p).tx ++ (l.zip (freeTags (s.ports.get p))).map (fun e =>
        .fetch e.2 ((getRing s p r).base + e.1.1) e.1.2 (s.ports.get p).cfg.ido)) := by
  have e : exec (.phaseRefetch p r (getRing s p r).acc.off) s =
      finish (issueRetries p r (modRing p r (fun _ => (getRing s p r).refetching (s.ports.get p).cfg.mrrs) s)) :=
    if_pos (by simp [hd, hs, hm])
  refine ends_of_finish e ((onlyChanges_modRing.mono (by decide)).trans onlyChanges_issueRetries) ?_
  rw [getRing_settle, settle_port _ p Port.tx (fun _ => rfl), issueRetries_tx, getRing_issueRetries,
    getRing_modRing_self, hl]
  exact ⟨rfl, hs, rfl, rfl, rfl⟩

/-- RING_FETCH_RETRY (R97). -/
theorem ends_ringFetchRetry {s : State} {p : PortId} {r : Nat} (hm : (s.ports.get p).maySend = true)
    (hs : (getRing s p r).state = .running) : Ends (.ringFetchRetry p r) s [.ports, .rings] (fun t =>
      (getRing t p r).retry = (getRing s p r).retry.drop (freeTags (s.ports.get p)).length ∧
      (t.ports.get p).tx = (s.ports.get p).tx ++ ((getRing s p r).retry.zip (freeTags (s.ports.get p))).map (fun e =>
        .fetch e.2 ((getRing s p r).base + e.1.1) e.1.2 (s.ports.get p).cfg.ido)) := by
  refine ends_of_finish (if_pos (by simp [hs, hm])) onlyChanges_issueRetries ?_
  rw [getRing_settle, settle_port _ p Port.tx (fun _ => rfl), issueRetries_tx, getRing_issueRetries]
  exact ⟨rfl, rfl⟩

/-- Settles O18: what the engine finds at the position decides what it does, and what is fetched again goes out as far
as there are tags. -/
theorem ringsAccept : Obligations.RingsAccept := by
  intro s p r _ hm hr
  refine ⟨nextTag_free, fun e pushed h => ⟨fun hk ha => ?_, gives_entryAccept_limit hm hr h,
      ends_entryAccept_pad hm hr h, ends_entryAccept_notice hm hr h⟩, gives_entryAccept_phase hm hr, fun h ha => ?_,
    fun h => ends_entryAccept_fault (acceptEntry_length hm hr h), gives_acceptResume, fun a l hd hs ha hl => ?_,
    ends_ringFetchRetry hm⟩
  · exact ends_entryAccept_command hm hr h hk ha
  · exact ends_entryAccept_fault ((acceptEntry_phase hm hr h).trans (if_pos ha))
  · subst ha
    exact ends_phaseRefetch hm hd hs hl

end Sys2Proof.Machine
end

section
/-! # Ring resets (R142 to R146)

A reset cancels the ring's commands, counts, records what is outstanding, signals, and leaves the ring empty. -/

namespace Sys2Proof.Machine

/-! ### Commands that are cancelled (R144, R145) -/

/-- The commands of one ring. -/
abbrev ringCmds (p : PortId) (r : Nat) (s : State) : List Cmd :=
  s.ce.cmds.filter (fun c => c.port == p && c.ring == r)

/-- The commands of a ring are cancelled, unless a hold that stopped the ring has done so (R143, R144). -/
def ringCancelled (p : PortId) (r : Nat) (s : State) : State :=
  if (getRing s p r).state = .stopped then s else (ringCmds p r s).foldl (fun s c => cancelCmd c s) s

theorem onlyChanges_ringCancelled {p : PortId} {r : Nat} {s : State} :
    OnlyChanges cancelParts s (ringCancelled p r s) := by
  unfold ringCancelled
  split
  · exact .refl
  · exact .foldl (fun _ _ => onlyChanges_cancelCmd)

@[simp] theorem getRing_ringCancelled (p q : PortId) (r n : Nat) (s : State) :
    getRing (ringCancelled p r s) q n = getRing s q n :=
  getRing_of_rings (onlyChanges_ringCancelled .rings (by decide)) q n

theorem readsDropped_ringCancelled (p : PortId) (r : Nat) (s : State) : ReadsDropped s (ringCancelled p r s) := by
  unfold ringCancelled
  split
  · exact (PortsStill.refl s).readsDropped
  · exact .foldl (fun s c => readsDropped_cancelCmd c s) _ s

/-- Cancelling counts no reset. -/
theorem ringCancelled_ringResets (p q : PortId) (r : Nat) (s : State) :
    ((ringCancelled p r s).ports.get q).ringResets = (s.ports.get q).ringResets := by
  obtain ⟨rs, -, h⟩ := readsDropped_ringCancelled p r s q
  exact (congrArg Port.ringResets h :)

/-- The rings of which commands are in work. -/
def ringsInWork (s : State) : List (PortId × Nat) := s.ce.cmds.map (fun c => (c.port, c.ring))

theorem not_mem_ringsInWork {p : PortId} {r : Nat} {s : State} :
    (p, r) ∉ ringsInWork s ↔ ∀ d ∈ s.ce.cmds, ¬(d.port = p ∧ d.ring = r) := by
  simp [ringsInWork]

/-- No command of the ring is in work any more (R144). -/
theorem ringCancelled_cmds {p : PortId} {r : Nat} {s : State} (h : (getRing s p r).state ≠ .stopped) :
    (p, r) ∉ ringsInWork (ringCancelled p r s) := by
  rw [not_mem_ringsInWork]
  intro d hd k
  unfold ringCancelled at hd
  rw [if_neg h, foldl_cancelCmd_ce] at hd
  obtain ⟨hm, ha⟩ := List.mem_filter.1 hd
  have hown : d ∈ ringCmds p r s := List.mem_filter.2 ⟨hm, by simp [k.1, k.2]⟩
  simpa using List.all_eq_true.1 ha d hown

theorem issueNext_ringsInWork (p : PortId) (tag : Nat) (s : State) :
    ringsInWork (issueNext p tag s) = ringsInWork s := by
  unfold issueNext
  dsimp only
  split
  · rfl
  · split
    · split
      · show List.map _ (List.map _ s.ce.cmds) = _
        rw [List.map_map]
        refine List.map_congr_left (fun c _ => ?_)
        simp only [Function.comp]
        split <;> rfl
      · rfl
    · rfl

theorem foldl_issueNext_ringsInWork (p : PortId) (l : List Nat) (s : State) :
    ringsInWork (l.foldl (fun s t => issueNext p t s) s) = ringsInWork s := by
  induction l generalizing s with
  | nil => rfl
  | cons t l ih => rw [List.foldl_cons, ih, issueNext_ringsInWork]

/-- The pump takes no command out of work and none in (R75). -/
theorem pump_ringsInWork (p : PortId) (s : State) : ringsInWork (pump p s) = ringsInWork s := by
  unfold pump
  split
  · exact foldl_issueNext_ringsInWork p _ s
  · rfl

/-! ### Records of what is outstanding (R143) -/

/-- The record that a reset writes of one entry, by the statuses that a hold has kept (R143, R144). -/
def resetRecord (p : PortId) (r : Nat) (snap : List (Nat × CplRes)) (s : State) (e : OutEntry) : State :=
  putRecord p r e (resetStatus snap e) (modPort p (fun q => { q with
    failed := q.failed + b2n (!e.notice && decide (0x0100 ≤ (resetStatus snap e).status)) }) s)

theorem resetRecords_eq (p : PortId) (r : Nat) (s : State) : resetRecords p r s =
    (getRing s p r).out.foldl (resetRecord p r ((getRing s p r).snapshot.getD [])) s := rfl

theorem onlyChanges_putRecord {p : PortId} {r : Nat} {e : OutEntry} {res : CplRes} {s : State} :
    OnlyChanges [.ports, .rings] s (putRecord p r e res s) :=
  ((onlyChanges_sendTlp.trans onlyChanges_sendTlp).mono (by decide)).trans (onlyChanges_modRing.mono (by decide))

theorem onlyChanges_resetRecord {p : PortId} {r : Nat} {snap : List (Nat × CplRes)} {s : State} {e : OutEntry} :
    OnlyChanges [.ports, .rings] s (resetRecord p r snap s e) := by
  refine OnlyChanges.trans ?_ onlyChanges_putRecord
  exact onlyChanges_modPort.mono (by decide)

theorem onlyChanges_resetRecords {p : PortId} {r : Nat} {s : State} :
    OnlyChanges [.ports, .rings] s (resetRecords p r s) := .foldl (fun _ _ => onlyChanges_resetRecord)

theorem grows_resetRecord (p : PortId) (r : Nat) (snap : List (Nat × CplRes)) (s : State) (e : OutEntry) :
    Grows Port.tx s (resetRecord p r snap s e) := by
  refine Grows.trans ?_ (grows_putRecord p r e _ _)
  exact grows_modPort p s (fun _ => List.prefix_rfl)

theorem portsQuiet_resetRecord (p : PortId) (r : Nat) (snap : List (Nat × CplRes)) (s : State) (e : OutEntry) :
    PortsQuiet s (resetRecord p r snap s e) := by
  refine PortsQuiet.trans ?_ ((portsStill_sendTlp p _ _).trans (portsStill_sendTlp p _ _)).quiet
  exact portsQuiet_modPort s (fun _ => rfl)

theorem foldl_resetRecord_ringResets (p q : PortId) (r : Nat) (snap : List (Nat × CplRes)) (l : List OutEntry)
    (s : State) : ((l.foldl (resetRecord p r snap) s).ports.get q).ringResets = (s.ports.get q).ringResets := by
  induction l generalizing s with
  | nil => rfl
  | cons e l ih =>
    rw [List.foldl_cons, ih, (portsQuiet_resetRecord p r snap s e).read q Port.ringResets (fun _ => rfl)]

/-- The records count no reset. -/
theorem resetRecords_ringResets (p q : PortId) (r : Nat) (s : State) :
    ((resetRecords p r s).ports.get q).ringResets = (s.ports.get q).ringResets :=
  foldl_resetRecord_ringResets p q r _ _ s

/-- A ring with other entries outstanding and another count of records. -/
def Ring.leaving (out : List OutEntry) (n : Nat) (x : Ring) : Ring := { x with out := out, cplCount := n }

/-- The entries of which records have been written are outstanding no more, and the ring is as it was but for its count
of records (R127, R143). -/
theorem getRing_foldl_resetRecord (p : PortId) (r : Nat) (snap : List (Nat × CplRes)) (l : List OutEntry) (s : State) :
    ∃ n, getRing (l.foldl (resetRecord p r snap) s) p r =
      (getRing s p r).leaving ((getRing s p r).out.filter (fun o => decide (o ∉ l))) n := by
  induction l generalizing s with
  | nil =>
    have hf : (getRing s p r).out.filter (fun o => decide (o ∉ ([] : List OutEntry))) = (getRing s p r).out :=
      List.filter_eq_self.2 (fun o _ => decide_eq_true List.not_mem_nil)
    refine ⟨(getRing s p r).cplCount, ?_⟩
    rw [hf]
    rfl
  | cons e l ih =>
    obtain ⟨n, hn⟩ := ih (resetRecord p r snap s e)
    have hr : getRing (resetRecord p r snap s e) p r =
        (getRing s p r).leaving ((getRing s p r).out.filter (fun o => o != e)) ((getRing s p r).cplCount + 1) :=
      getRing_putRecord p r e _ _
    have hf : ((getRing s p r).out.filter (fun o => o != e)).filter (fun o => decide (o ∉ l)) =
        (getRing s p r).out.filter (fun o => decide (o ∉ e :: l)) := by
      rw [List.filter_filter]
      refine List.filter_congr (fun o _ => ?_)
      by_cases h : o = e <;> simp [h]
    refine ⟨n, ?_⟩
    rw [List.foldl_cons, hn, hr, ← hf]
    rfl

/-- Nothing is outstanding once the records are written (R143). -/
theorem getRing_resetRecords (p : PortId) (r : Nat) (s : State) :
    ∃ n, getRing (resetRecords p r s) p r = (getRing s p r).leaving [] n := by
  obtain ⟨n, hn⟩ := getRing_foldl_resetRecord p r ((getRing s p r).snapshot.getD []) (getRing s p r).out s
  have hf : (getRing s p r).out.filter (fun o => decide (o ∉ (getRing s p r).out)) = [] :=
    List.filter_eq_nil_iff.2 (fun e he => by simp [he])
  rw [hf] at hn
  exact ⟨n, hn⟩

/-- The two writes of the record of an entry have gone out (R127). -/
def BothWritten (p : PortId) (base : Nat) (e : OutEntry) (res : CplRes) (t : State) : Prop :=
  Tlp.record (base + e.pos.off + 4) ((recordBytes e res).drop 4) ∈ (t.ports.get p).tx ∧
    Tlp.record (base + e.pos.off) ((recordBytes e res).take 4) ∈ (t.ports.get p).tx

theorem BothWritten.grows {p : PortId} {base : Nat} {e : OutEntry} {res : CplRes} {s t : State}
    (h : BothWritten p base e res s) (k : Grows Port.tx s t) : BothWritten p base e res t := ⟨k.mem h.1, k.mem h.2⟩

theorem bothWritten_resetRecord (p : PortId) (r : Nat) (snap : List (Nat × CplRes)) (s : State) (e : OutEntry) :
    BothWritten p (getRing s p r).base e (resetStatus snap e) (resetRecord p r snap s e) := by
  unfold BothWritten resetRecord
  rw [putRecord_tx, getRing_modPort]
  simp

/-- Every entry of a list that is recorded has its record, with the status kept for it (R143, R144). -/
theorem bothWritten_foldl (p : PortId) (r : Nat) (snap : List (Nat × CplRes)) (l : List OutEntry) (s : State) :
    ∀ e ∈ l, BothWritten p (getRing s p r).base e (resetStatus snap e) (l.foldl (resetRecord p r snap) s) := by
  induction l generalizing s with
  | nil => simp
  | cons a l ih =>
    have hb : (getRing (resetRecord p r snap s a) p r).base = (getRing s p r).base := by
      unfold resetRecord
      rw [getRing_putRecord, getRing_modPort]
    intro e he
    rcases List.mem_cons.1 he with rfl | he
    · exact (bothWritten_resetRecord p r snap s e).grows (.foldl (fun s e => grows_resetRecord p r snap s e) l _)
    · rw [← hb]
      exact ih _ e he

/-! ### The six steps (R143) -/

/-- A port whose ring is reset: counted, and what the ring still fetches will be discarded (R143, R145). -/
def resetCounted (r : Nat) (q : Port) : Port :=
  { q with
    ringResets := q.ringResets + 1
    reqs := q.reqs.map (fun e => match e.2.kind with
      | .ring t _ => if t = r then (e.1, { e.2 with dropped := true }) else e
      | _ => e) }

/-- A reset up to its records (R143): commands cancelled, the reset counted, what is outstanding recorded. -/
def resetRecorded (p : PortId) (r : Nat) (s : State) : State :=
  resetRecords p r (modPort p (resetCounted r) (ringCancelled p r s))

/-- The interrupt of a reset that has written a record (R143). -/
def resetSignalled (p : PortId) (r : Nat) (x : Ring) (s : State) : State :=
  if x.irqEn && !x.out.isEmpty then sendMsg p x.vector (setPending p r s) else s

/-- A ring that a reset leaves RUNNING; RESET_DISCARD returns its doorbell to the accepted position (R143, R144). -/
def Ring.restarted (discard : Prop) [Decidable discard] (x : Ring) : Ring :=
  { x with
    state := .running, fault := 0, cmdRefused := false, push := [], coal := 0, granules := [], retry := []
    refetch := .no, timeouts := 0, snapshot := none, fetchPos := x.acc, db := if discard then x.acc else x.db }

/-- A reset up to what becomes of the ring (R143). -/
def resetDone (p : PortId) (r : Nat) (s : State) : State :=
  resetSignalled p r (getRing s p r) (resetRecorded p r s)

theorem ringReset_eq {action : Nat} {p : PortId} {r : Nat} {s : State}
    (hs : (getRing s p r).state = .running ∨ (getRing s p r).state = .stopped ∨ (getRing s p r).state = .faulted)
    (hm : (s.ports.get p).maySend = true) : ringReset action p r s =
      if action = 4 then setRing p r Ring.reset (resetDone p r s)
      else pump p (modRing p r (Ring.restarted (action = 3)) (resetDone p r s)) := by
  have hc : (((getRing s p r).state == .running || (getRing s p r).state == .stopped ||
      (getRing s p r).state == .faulted) && (s.ports.get p).maySend) = true := by
    rcases hs with hs | hs | hs <;> simp [hs, hm]
  exact (if_pos hc).trans rfl

/-- What a reset has done to ring `r` before it is emptied (R143 to R145): its commands are in work no more, each entry
that was outstanding has its record, and the reset is counted. -/
structure ResetServed (p : PortId) (r : Nat) (s t : State) : Prop where
  parts : OnlyChanges holdParts s t
  records : ∀ e ∈ (getRing s p r).out,
    BothWritten p (getRing s p r).base e (resetStatus ((getRing s p r).snapshot.getD []) e) t
  count : (t.ports.get p).ringResets = (s.ports.get p).ringResets + 1
  cmds : (getRing s p r).state ≠ .stopped → (p, r) ∉ ringsInWork t

/-- A reset stays served behind what changes only parts that a hold changes, takes back nothing that was sent, counts no
reset and leaves the rings in work. -/
theorem ResetServed.trans {p : PortId} {r : Nat} {s t u : State} (h : ResetServed p r s t)
    (ho : OnlyChanges holdParts t u) (hg : Grows Port.tx t u)
    (hc : (u.ports.get p).ringResets = (t.ports.get p).ringResets) (hw : ringsInWork u = ringsInWork t) :
    ResetServed p r s u :=
  ⟨h.parts.trans ho, fun e he => (h.records e he).grows hg, hc.trans h.count, fun k => by rw [hw]; exact h.cmds k⟩

theorem resetRecorded_served (p : PortId) (r : Nat) (s : State) : ResetServed p r s (resetRecorded p r s) := by
  have hr : getRing (modPort p (resetCounted r) (ringCancelled p r s)) p r = getRing s p r :=
    getRing_ringCancelled p p r r s
  refine ⟨?_, ?_, ?_, fun h => ?_⟩
  · refine OnlyChanges.trans ?_ (onlyChanges_resetRecords.mono (by decide))
    exact (onlyChanges_ringCancelled.mono (by decide)).trans (onlyChanges_modPort.mono (by decide))
  · have h := bothWritten_foldl p r ((getRing s p r).snapshot.getD []) (getRing s p r).out
      (modPort p (resetCounted r) (ringCancelled p r s))
    unfold resetRecorded
    rw [resetRecords_eq, hr]
    rwa [hr] at h
  · unfold resetRecorded
    rw [resetRecords_ringResets, modPort_get_self, ← ringCancelled_ringResets p p r s]
    rfl
  · have hc : (resetRecorded p r s).ce = (ringCancelled p r s).ce := onlyChanges_resetRecords .ce (by decide)
    unfold ringsInWork
    rw [hc]
    exact ringCancelled_cmds h

theorem getRing_resetSignalled (p : PortId) (r : Nat) (x : Ring) (s : State) :
    getRing (resetSignalled p r x s) p r = getRing s p r := by
  unfold resetSignalled
  split
  · rw [getRing_sendMsg, getRing_setPending]
  · rfl

/-- Behind a reset's interrupt nothing is outstanding on the ring (R143). -/
theorem getRing_resetDone (p : PortId) (r : Nat) (s : State) :
    ∃ n, getRing (resetDone p r s) p r = (getRing s p r).leaving [] n := by
  obtain ⟨n, hn⟩ := getRing_resetRecords p r (modPort p (resetCounted r) (ringCancelled p r s))
  rw [getRing_modPort, getRing_ringCancelled] at hn
  exact ⟨n, (getRing_resetSignalled p r _ _).trans hn⟩

theorem resetDone_served (p : PortId) (r : Nat) (s : State) : ResetServed p r s (resetDone p r s) := by
  have h := resetRecorded_served p r s
  unfold resetDone resetSignalled
  split
  · have ho : OnlyChanges [.ports] (resetRecorded p r s)
        (sendMsg p (getRing s p r).vector (setPending p r (resetRecorded p r s))) :=
      onlyChanges_setPending.trans onlyChanges_sendMsg
    refine h.trans (ho.mono (by decide)) ((grows_setPending p r _).trans (grows_sendMsg p _ _)) ?_ ?_
    · exact ((portsQuiet_setPending p r _).trans (portsStill_sendMsg p _ _).quiet).read p Port.ringResets (fun _ => rfl)
    · exact congrArg (fun k : CmdEngine => k.cmds.map (fun c => (c.port, c.ring))) (ho .ce (by decide))
  · exact h

/-- A settled state shows a reset served as the state before did. -/
theorem ResetServed.settle {p : PortId} {r : Nat} {s t : State} (h : ResetServed p r s t) :
    ResetServed p r s (settle t) := by
  refine h.trans onlyChanges_settle (.of_apart (settle_ports_apart t) (fun _ => rfl))
    (settle_port t p Port.ringResets (fun _ => rfl)) ?_
  unfold ringsInWork
  rw [settle_ce]

/-! ### The ring afterwards (R142 to R146) -/

section
variable {action : Nat} {p : PortId} {r : Nat} {s : State}
  (hs : (getRing s p r).state = .running ∨ (getRing s p r).state = .stopped ∨ (getRing s p r).state = .faulted)
  (hm : (s.ports.get p).maySend = true)
include hs hm

/-- DELETE leaves no ring (R146). -/
theorem ringReset_delete : ResetServed p r s (ringReset 4 p r s) ∧ getRing (ringReset 4 p r s) p r = Ring.reset := by
  rw [ringReset_eq hs hm, if_pos rfl]
  exact ⟨(resetDone_served p r s).trans (onlyChanges_setRing.mono (by decide)) (.of_ports rfl) rfl rfl,
    getRing_setRing_self p r _ _⟩

/-- RESET and RESET_DISCARD leave the ring empty and RUNNING from the accepted position on (R143, R144). -/
theorem ringReset_restarts (ha : action ≠ 4) : ResetServed p r s (ringReset action p r s) ∧
    (getRing (ringReset action p r s) p r).state = .running ∧ (getRing (ringReset action p r s) p r).out = [] ∧
    (getRing (ringReset action p r s) p r).fault = 0 ∧
    (getRing (ringReset action p r s) p r).acc = (getRing s p r).acc ∧
    (getRing (ringReset action p r s) p r).db = if action = 3 then (getRing s p r).acc else (getRing s p r).db := by
  obtain ⟨n, hn⟩ := getRing_resetDone p r s
  have hserved : ResetServed p r s (modRing p r (Ring.restarted (action = 3)) (resetDone p r s)) :=
    (resetDone_served p r s).trans (onlyChanges_modRing.mono (by decide)) (.of_ports rfl) rfl rfl
  rw [ringReset_eq hs hm, if_neg ha, pump_ring Ring.state (fun _ => rfl), pump_ring Ring.out (fun _ => rfl),
    pump_ring Ring.fault (fun _ => rfl), pump_ring Ring.acc (fun _ => rfl), pump_ring Ring.db (fun _ => rfl),
    getRing_modRing_self, hn]
  refine ⟨hserved.trans (onlyChanges_pump.mono (by decide)) (grows_pump p _) ?_ (pump_ringsInWork p _),
    rfl, rfl, rfl, rfl, rfl⟩
  exact (readsIssued_pump p _).read p Port.ringResets (fun _ => rfl)

end

/-- What reset command `c` leaves of ring `y` (R142 to R146): `x`. -/
def ResetLeaves (c : Instr) (p : PortId) (r : Nat) (y x : Ring) : Prop :=
  (c = .ringDelete p r → x = Ring.reset) ∧
    (c ≠ .ringDelete p r → x.state = .running ∧ x.out = [] ∧ x.fault = 0 ∧ x.acc = y.acc ∧
      x.db = if c = .ringReset p r then y.db else y.acc)

/-- The action of RING_CMD that a reset command is (R117, R142). -/
structure ResetAction (c : Instr) (p : PortId) (r action : Nat) : Prop where
  delete : c = .ringDelete p r ↔ action = 4
  discard : c ≠ .ringDelete p r → (action = 3 ↔ ¬c = .ringReset p r)

theorem ringReset_refused {action : Nat} {p : PortId} {r : Nat} {s : State}
    (h : (getRing s p r).state = .none ∨ (s.ports.get p).maySend = false) :
    ringReset action p r s = modRing p r (fun x => { x with cmdRefused := true }) s :=
  if_neg (by rcases h with h | h <;> simp [h])

/-- A reset command that is accepted serves what was outstanding and leaves the ring as its action says. -/
theorem ResetAction.leaves {c : Instr} {p : PortId} {r action : Nat} {s : State} (h : ResetAction c p r action)
    (hs : (getRing s p r).state = .running ∨ (getRing s p r).state = .stopped ∨ (getRing s p r).state = .faulted)
    (hm : (s.ports.get p).maySend = true) : ResetServed p r s (ringReset action p r s) ∧
      ResetLeaves c p r (getRing s p r) (getRing (ringReset action p r s) p r) := by
  by_cases h4 : action = 4
  · subst h4
    obtain ⟨hserved, hring⟩ := ringReset_delete hs hm
    exact ⟨hserved, fun _ => hring, fun k => absurd (h.delete.2 rfl) k⟩
  · obtain ⟨hserved, hst, hout, hf, hacc, hdb⟩ := ringReset_restarts hs hm h4
    refine ⟨hserved, fun k => absurd (h.delete.1 k) h4, fun k => ⟨hst, hout, hf, hacc, ?_⟩⟩
    simpa only [h.discard k, ite_not] using hdb

/-- The commands that reset a ring, by the action that RING_CMD gives each (R142). -/
theorem exec_resets {c : Instr} {s : State} {p : PortId} {r : Nat} (hb : barOpen s p = true) (hr : r < 256)
    (hc : c ∈ [Instr.ringReset p r, .ringResetDiscard p r, .ringDelete p r]) :
    ∃ action, exec c s = finish (ringReset action p r s) ∧ ResetAction c p r action := by
  simp only [List.mem_cons, List.not_mem_nil, or_false] at hc
  rcases hc with rfl | rfl | rfl
  · exact ⟨2, if_pos (ringOpen hb hr), by simp, by simp⟩
  · exact ⟨3, if_pos (ringOpen hb hr), by simp, by simp⟩
  · exact ⟨4, if_pos (ringOpen hb hr), by simp, by simp⟩

/-- Settles O19: each reset serves what was outstanding, and leaves the ring as its action says. -/
theorem ringsReset : Obligations.RingsReset := by
  intro s p r hb hr c hc
  obtain ⟨action, e, ha⟩ := exec_resets hb hr hc
  refine ⟨fun h => ?_, fun hs hm => ?_⟩
  · rw [ringReset_refused h] at e
    exact gives_of_finish e
  · obtain ⟨hserved, hleaves⟩ := ha.leaves hs hm
    rw [← getRing_settle (ringReset action p r s)] at hleaves
    have hsettled := hserved.settle
    refine ends_of_finish e hserved.parts ⟨?_, hsettled.count, fun k => ?_, hleaves⟩
    · rintro x hx b rfl
      exact hsettled.records x hx
    · exact not_mem_ringsInWork.1 (hsettled.cmds k)

end Sys2Proof.Machine
end

section
/-! # Notices (R140, R141, R161)

Events and settling add to a port's queue of notices and take nothing from it; the oldest notice goes into the slot that
takes it. -/

namespace Sys2Proof.Machine

/-! ### Queues only grow behind events (R140, R532) -/

/-- A notice joins a queue at its end, or not at all (R140). -/
theorem notices_queueNotice (n : Notice) (q : Port) : q.notices <+: (queueNotice n q).notices := by
  unfold queueNotice
  split
  · exact List.prefix_append _ _
  · exact List.prefix_rfl

theorem grows_sendNotices (n : Notice) (s : State) : Grows Port.notices s (sendNotices n s) :=
  .foldl (fun s p => grows_modPort p s (notices_queueNotice n)) _ s

theorem grows_ledFullNotice (s : State) : Grows Port.notices s (ledFullNotice s) :=
  (grows_sendNotices _ _).after rfl

theorem grows_ledSequence (r : LedRec) (s : State) : Grows Port.notices s (ledSequence r s) := by
  unfold ledSequence
  dsimp only
  split
  · exact ((grows_sendNotices _ _).trans (grows_ledFullNotice _)).after rfl
  · exact (grows_sendNotices _ _).after rfl

theorem grows_ledPass (code sev subject : Nat) (d : Bytes) (s : State) :
    Grows Port.notices s (ledPass code sev subject d s) := by
  unfold ledPass
  dsimp only
  split
  · exact (grows_ledSequence _ _).after rfl
  · split <;> exact .of_ports rfl

/-- An event takes no notice out of a queue (R532). -/
theorem grows_event (code sev subject : Nat) (d : Bytes) (s : State) :
    Grows Port.notices s (event code sev subject d s) := by
  unfold event
  dsimp only
  split
  · exact (grows_ledPass _ _ _ _ _).after rfl
  · exact .of_ports rfl

/-! ### Settling records events and no more -/

theorem grows_volTake (v : Nat) (st : VState) (loss : Bool) (s : State) :
    Grows Port.notices s (volTake v st loss s) := by
  unfold volTake
  split
  · exact .refl _ s
  · split
    · exact .refl _ s
    · exact (grows_event _ _ _ _ _).after rfl

theorem grows_volStep (s : State) (v : Nat) (t : State) : Grows Port.notices t (volStep s v t) := by
  unfold volStep
  split
  · exact grows_volTake _ _ _ t
  · exact .refl _ t

theorem grows_volumesSettle (s : State) : Grows Port.notices s (volumesSettle s) := by
  unfold volumesSettle
  split
  · exact .foldl (fun t v => grows_volStep s v t) _ s
  · exact .refl _ s

theorem grows_vaultSettle (s : State) : Grows Port.notices s (vaultSettle s) := by
  unfold vaultSettle
  dsimp only
  split
  · exact .refl _ s
  · exact (grows_event _ _ _ _ _).after rfl

theorem grows_cacheSettle (s : State) : Grows Port.notices s (cacheSettle s) := by
  unfold cacheSettle
  dsimp only
  split
  · exact .of_ports rfl
  · exact (grows_event _ _ _ _ _).after rfl

theorem grows_degradedSettle (s : State) : Grows Port.notices s (degradedSettle s) := by
  unfold degradedSettle
  dsimp only
  repeat' split
  · exact .refl _ s
  · exact .of_ports rfl
  · exact (grows_event _ _ _ _ _).after rfl

theorem grows_rateSettle (s : State) : Grows Port.notices s (rateSettle s) := by
  unfold rateSettle
  dsimp only
  split
  · exact .refl _ s
  · exact .of_ports rfl

theorem grows_statusSettle (s : State) : Grows Port.notices s (statusSettle s) := by
  unfold statusSettle
  dsimp only
  split
  · exact .refl _ s
  · exact .of_ports rfl

/-- Settling takes no notice out of a queue (R140). -/
theorem grows_settle (s : State) : Grows Port.notices s (settle s) :=
  ((((grows_volumesSettle s).trans (grows_vaultSettle _)).trans (grows_cacheSettle _)).trans
    (grows_degradedSettle _)).trans ((grows_rateSettle _).trans (grows_statusSettle _))

/-! ### Delivery (R140, R141) -/

/-- The first ring of a port that takes notice `n`, with its oldest waiting slot: a ring's own fault never goes to it
(R140). -/
def slotFor (s : State) (p : PortId) (n : Notice) : Option (Nat × OutEntry) :=
  (ringsOf s p).findSome? (fun r => if !(n.code == 0x2104 && n.subject == p.val + r * 256)
    then (getRing s p r).noticeSlot.map (fun e => (r, e)) else none)

/-- A port that delivers a notice: it leaves the queue, and waits for its acknowledgement if it asks for one (R140,
R161). -/
def noticeLeaves (n : Notice) (rest : List Notice) (q : Port) : Port :=
  { q with
    notices := rest, lost := 0
    unacked := if n.sev = 2 ∧ q.unacked.all (fun u => u.seq != n.seq) = true then q.unacked ++ [n] else q.unacked }

/-- A notice that asks for an acknowledgement is among those that wait for one (R161). -/
theorem unacked_noticeLeaves {n : Notice} (rest : List Notice) (q : Port) (h : n.sev = 2) :
    ∃ u ∈ (noticeLeaves n rest q).unacked, u.seq = n.seq := by
  unfold noticeLeaves
  dsimp only
  split
  · exact ⟨n, by simp, rfl⟩
  · rename_i k
    have hall : q.unacked.all (fun u => u.seq != n.seq) = false := Bool.eq_false_iff.2 (fun a => k ⟨h, a⟩)
    obtain ⟨u, hu, he⟩ := List.all_eq_false.1 hall
    exact ⟨u, hu, Decidable.not_not.1 (fun hne => he (bne_iff_ne.2 hne))⟩

/-- The body of a notice is written behind its slot's first 32 bytes (R141). -/
def bodySent (p : PortId) (r : Nat) (e : OutEntry) (body : Bytes) (n : Notice) (rest : List Notice) (s : State) :
    State :=
  sendTlp p (.record ((getRing s p r).base + e.pos.off + 32) body) (modPort p (noticeLeaves n rest) s)

theorem onlyChanges_bodySent {p : PortId} {r : Nat} {e : OutEntry} {body : Bytes} {n : Notice} {rest : List Notice}
    {s : State} : OnlyChanges [.ports] s (bodySent p r e body n rest s) := onlyChanges_modPort.trans onlyChanges_sendTlp

@[simp] theorem getRing_bodySent (p : PortId) (r : Nat) (e : OutEntry) (body : Bytes) (n : Notice) (rest : List Notice)
    (s : State) : getRing (bodySent p r e body n rest s) p r = getRing s p r := rfl

theorem noticeDeliver_eq {s : State} {p : PortId} {n : Notice} {rest : List Notice} {r : Nat} {e : OutEntry}
    {body : Bytes} (hn : (s.ports.get p).notices = n :: rest) (hm : (s.ports.get p).maySend = true)
    (hf : slotFor s p n = some (r, e)) (hb : body = noticeBody n (s.ports.get p).lost (e.len - 64)) :
    noticeDeliver p s = writeRecord p r e ⟨stSuccess, body.length, 0⟩ (bodySent p r e body n rest s) := by
  unfold slotFor at hf
  unfold noticeDeliver
  simp only [hn, hf, hm, hb, if_true]
  rfl

/-- NOTICE_DELIVER (R140, R141, R161). -/
theorem ends_noticeDeliver {s : State} {p : PortId} {n : Notice} {rest : List Notice} {r : Nat} {e : OutEntry}
    {body : Bytes} (hn : (s.ports.get p).notices = n :: rest) (hm : (s.ports.get p).maySend = true)
    (hf : slotFor s p n = some (r, e)) (hb : body = noticeBody n (s.ports.get p).lost (e.len - 64)) :
    Ends (.noticeDeliver p) s [.ports, .rings] (fun t =>
      Tlp.record ((getRing s p r).base + e.pos.off + 32) body ∈ (t.ports.get p).tx ∧
      Tlp.record ((getRing s p r).base + e.pos.off) ((recordBytes e ⟨stSuccess, body.length, 0⟩).take 4) ∈
        (t.ports.get p).tx ∧
      e ∉ (getRing t p r).out ∧ (n.sev = 2 → ∃ u ∈ (t.ports.get p).unacked, u.seq = n.seq)) := by
  obtain ⟨k, hring⟩ := getRing_writeRecord p r e ⟨stSuccess, body.length, 0⟩ (bodySent p r e body n rest s)
  refine ends_of_finish (congrArg finish (noticeDeliver_eq hn hm hf hb))
    ((onlyChanges_bodySent.mono (by decide)).trans onlyChanges_writeRecord) ?_
  rw [settle_port _ p Port.tx (fun _ => rfl), settle_port _ p Port.unacked (fun _ => rfl), getRing_settle, hring,
    getRing_putRecord]
  refine ⟨?_, record_mem_writeRecord p r e _ (bodySent p r e body n rest s), ?_, fun h => ?_⟩
  · refine ((grows_putRecord p r e _ _).trans (grows_writeRecord p r e _ _)).mem ?_
    unfold bodySent
    rw [sendTlp_tx]
    simp
  · simp
  · rw [(portsQuiet_writeRecord p r e _ _).read p Port.unacked (fun _ => rfl)]
    unfold bodySent
    rw [(portsStill_sendTlp p _ _).read p Port.unacked (fun _ => rfl), modPort_get_self]
    exact unacked_noticeLeaves rest _ h

/-! ### Repeats (R161) -/

/-- A notice without its acknowledgement is queued again (R161). -/
theorem ends_noticeRepeatExpiry {s : State} {p : PortId} {n : Notice}
    (hf : (s.ports.get p).unacked.find? (fun u => u.seq == n.seq) = some n) (hc : cfgNoticeRepeat s ≠ 0)
    (hl : (s.ports.get p).notices.length < noticeMax) :
    Ends (.noticeRepeatExpiry p n.seq) s [.ports] (fun t => n ∈ (t.ports.get p).notices) := by
  have e : exec (.noticeRepeatExpiry p n.seq) s = finish (modPort p (queueNotice n) s) := by
    show execNoticeRepeatExpiry p n.seq s = _
    unfold execNoticeRepeatExpiry
    rw [hf]
    exact if_neg hc
  refine ends_of_finish e onlyChanges_modPort ((grows_settle _).mem ?_)
  rw [modPort_get_self]
  unfold queueNotice
  rw [if_pos hl]
  exact List.mem_append_right _ List.mem_cons_self

/-- Settles O20: delivery by the slot that takes the notice, and a repeat by the queue, from which settling takes
nothing. -/
theorem noticesGoOut : Obligations.NoticesGoOut :=
  fun _ _ => ⟨fun _ _ _ _ hn hm hf => ends_noticeDeliver hn hm hf rfl, fun _ => ends_noticeRepeatExpiry⟩

end Sys2Proof.Machine
end
